-- ==== Sys2Proof/Word.lean ====
section
/-! DEFINITION. Word.lean: the words the manual treats as bits. Field values, counts and indices are natural numbers
(00_scope.md, §00.5); bit vectors stand where a command carries a word from outside. -/

namespace Sys2Proof

/-- A 32-bit word of the page space (R5). -/
abbrev Word := BitVec 32

/-- An agent of Table 02.1: 0 = host, 1 = CFP, 2 = HLP, 3 = SCP, 4 = TSQ, 5 = fabric, 6 = milestones, 7 = debug. -/
abbrev Agent := Fin 8

/-- Integer division rounded up, as the manual's ceil. -/
def ceilDiv (a b : Nat) : Nat := (a + b - 1) / b

end Sys2Proof
end

