-- ==== Sys2Proof/Syntax.lean ====
section
/-! DEFINITION. Syntax.lean: the commands of the block, one constructor per row of spec/opcode_table.json. The table
gives its rows no operands; the operands here are what the rule of the row needs from outside: who accesses what, the
word that arrives, the level a converter reads. Where a row's event concerns something the state already holds (an
instruction in an engine's memory, a command in a mailbox buffer), the operand only names the place. -/

namespace Sys2Proof

/-- Where a read begins, and how many bytes it reads (R6). -/
structure ReadAt where
  addr : Word
  size : Nat
  deriving DecidableEq, Repr

/-- One port of a block memory at a region-clock edge (R146): EN, the two WE bits, ADDR and WDATA. -/
structure BmPort where
  en : Bool
  we : BitVec 2
  addr : BitVec 12
  wdata : BitVec 16
  deriving DecidableEq, Repr

/-- The three ports a stream can come from (R191), coded as SRC of Table 07.9. -/
inductive StreamPort where
  | pcie | serial | parallel
  deriving DecidableEq, Repr

/-- A frame as it stands in a FRAMES packet: 640 data words and the CRC word (Table 07.2). -/
structure FrameWords where
  data : List Word
  crc : Word
  deriving DecidableEq, Repr

/-- A DAT data flit with its end-to-end code and its poison wire (Table 12.5). -/
structure DataFlit where
  d : BitVec 512
  chk : BitVec 64
  poison : Bool
  deriving DecidableEq, Repr

/-- The stores of Table 11.1 whose rows HLP moves to spares. -/
inductive Store where
  | regionBuffer (i : Fin 40)
  | blockMem (i : Fin 40)
  | stateBank (i : Fin 40)
  | ddr (c : Fin 8)
  | engineData (t : Fin 104)
  | engineInstr (t : Fin 104)
  | golden (k : Fin 12)
  | cfgSram (i : Fin 40)
  | params (e : Fin 354)
  deriving DecidableEq, Repr

/-- An endpoint that keeps a directory of shared lines (R380). -/
inductive SharedHome where
  | slab (i : Fin 40)
  | ddr (c : Fin 8)
  deriving DecidableEq, Repr

/-- A failure that start-up self-test finds below the level of a Waybook entry (R468, Table 15.1): a physical column, a
bond, detour or causeway via, a memory row, an associative row, a network wire of a link, a lane, a temperature point. -/
inductive StartupFault where
  | column (pair : Fin 20) (layer : Fin 2) (col : Fin 66)
  | via (pair : Fin 20) (layer : Fin 2) (group : Fin 4) (x : Fin 64) (r : Fin 320) (signal : Fin 64)
  | row (store : Store) (row : Nat)
  | pattern (k : Fin 12) (n : BitVec 18)
  | wire (link : BitVec 12) (wire : BitVec 10)
  | txLane (g : Fin 12) (lane : Fin 9)
  | rxLane (g : Fin 12) (lane : Fin 9)
  | point (p : Fin 180)
  deriving DecidableEq, Repr

/-- What a converter finds at a point (R437, R438): point 0 to 179, or 180 + e for external channel e; the reading in
0.125 °C; whether the diode is open or shorted; whether the reference check failed. -/
structure TempReading where
  point : Fin 188
  eighths : Int
  openOrShort : Bool
  refFail : Bool
  deriving DecidableEq, Repr

/-- The commands. -/
inductive Instr where
  /-- REGISTER_WRITE (R518). -/
  | registerWrite (ag : Agent) (addr : Word) (size : Nat) (v : Word)
  /-- RC_READ (R12). -/
  | rcRead (ag : Agent) (rd : ReadAt)
  /-- LOW_WORD_READ (R7). -/
  | lowWordRead (ag : Agent) (rd : ReadAt)
  /-- IRQ_STAT_WRITE (R50). -/
  | irqStatWrite (ag : Agent) (page : BitVec 16) (v : Word)
  /-- KEY_WRITE (R53). -/
  | keyWrite (ag : Agent) (page : BitVec 16) (v : Word)
  /-- PAGE_CLAIM (R51). -/
  | pageClaim (ag : Agent) (page : BitVec 16) (v : Word)
  /-- PAGE_RELEASE (R52). -/
  | pageRelease (ag : Agent) (page : BitVec 16) (v : Word)
  /-- VOTE_WRITE (R54). -/
  | voteWrite (ag : Agent) (page : BitVec 16) (v : Word)
  /-- SRST (R144). -/
  | srst (ag : Agent) (page : BitVec 16)
  /-- PROFILE_REQUEST (R32). -/
  | profileRequest (ag : Agent) (page : BitVec 16) (p : BitVec 2)
  /-- PROFILE_CHANGE (R32). -/
  | profileChange (entry : Fin 354)
  /-- OWNER_WORD_RELEASE (R59). -/
  | ownerWordRelease (ag : Agent) (idx : Fin 2016) (v : Word)
  /-- MAILBOX_RESPONSE (R63). -/
  | mailboxResponse (proc : Fin 4) (ch : Fin 3)
  /-- MAILBOX_TIMEOUT (R63). -/
  | mailboxTimeout (proc : Fin 4) (ch : Fin 3)
  /-- BAD_OPCODE (R487). -/
  | badOpcode (proc : Fin 4) (ch : Fin 3)
  /-- LOG_ENTRY_WRITE (R65). -/
  | logEntryWrite
  /-- LOG_RD_WRITE (R519). -/
  | logRdWrite (ag : Agent) (v : Word)
  /-- WATCHDOG_EXPIRY (R26). -/
  | watchdogExpiry (proc : Fin 4)
  /-- COLD_START_RELEASE (R502). -/
  | coldStartRelease (cfgMode : BitVec 3) (devId : BitVec 6) (loadState : Bool) (csd : BitVec 4) (trngOk : Bool)
  /-- BROWN_OUT (R503). -/
  | brownOut
  /-- PERST_FALL (R504). -/
  | perstFall
  /-- PERST_RISE (R504). -/
  | perstRise
  /-- START_DELAY_END (R105). -/
  | startDelayEnd
  /-- SELFTEST_END (R468). -/
  | selftestEnd (failed : List (Fin 354)) (faults : List StartupFault)
  /-- TMG_CK_START (R70). -/
  | tmgCkStart
  /-- TMG_CK_STOP (R70). -/
  | tmgCkStop
  /-- TIMING_WORD (R68). -/
  | timingWord (w : Word)
  /-- HOLDOVER_TIMEOUT (R70). -/
  | holdoverTimeout
  /-- BUCKET_BOUNDARY (R75). -/
  | bucketBoundary
  /-- CMD_NOP (R82). -/
  | cmdNop (tm : Bool) (arg : BitVec 16)
  /-- TURN_LO (R83). -/
  | turnLo (tm : Bool) (arg : BitVec 16)
  /-- TURN_HI (R83). -/
  | turnHi (tm : Bool) (arg : BitVec 16)
  /-- LAYBY_CANCEL (R81). -/
  | laybyCancel (tm : Bool) (arg : BitVec 16)
  /-- USER_COMMAND (R82). -/
  | userCommand (tm : Bool) (cmd : BitVec 8) (arg : BitVec 16)
  /-- TURN_LOAD (R84). -/
  | turnLoad (ag : Agent)
  /-- TURN_LOADED (R84). -/
  | turnLoaded
  /-- TURN_LEN_WRITE (R79). -/
  | turnLenWrite (ag : Agent) (v : BitVec 16)
  /-- LAYBY_WRITE (R80). -/
  | laybyWrite (ag : Agent) (v : Word)
  /-- LAYBY_APPLY (R80). -/
  | laybyApply
  /-- CFG_DONE_RELEASE (R99). -/
  | cfgDoneRelease
  /-- CFG_DONE_SAMPLE (R99). -/
  | cfgDoneSample (othersLow : Bool)
  /-- START (R99). -/
  | start
  /-- GLOBAL_RESET_RELEASE (R144). -/
  | globalResetRelease
  /-- MILESTONE_ARM (R86). -/
  | milestoneArm (ag : Agent) (e : Fin 256) (w0 : Word)
  /-- MILESTONE_DISARM (R87). -/
  | milestoneDisarm (ag : Agent) (e : Fin 256) (w0 : Word)
  /-- MILESTONE_EVALUATE (R90). -/
  | milestoneEvaluate
  /-- MILESTONE_NONE (R88). -/
  | milestoneNone (e : Fin 256)
  /-- MILESTONE_STAGE (R88). -/
  | milestoneStage (e : Fin 256)
  /-- MILESTONE_SWITCH (R88). -/
  | milestoneSwitch (e : Fin 256)
  /-- MILESTONE_CAPTURE (R157). -/
  | milestoneCapture (e : Fin 256)
  /-- MILESTONE_TE_START (R254). -/
  | milestoneTeStart (e : Fin 256)
  /-- MILESTONE_TE_HALT (R254). -/
  | milestoneTeHalt (e : Fin 256)
  /-- MILESTONE_REFRESH (R348). -/
  | milestoneRefresh (e : Fin 256)
  /-- MILESTONE_PULSE (R88). -/
  | milestonePulse (e : Fin 256)
  /-- PULSE_END (R88). -/
  | pulseEnd (pin : Fin 192)
  /-- MILESTONE_FABRIC (R88). -/
  | milestoneFabric (e : Fin 256)
  /-- MILESTONE_VOTE (R88). -/
  | milestoneVote (e : Fin 256)
  /-- TIMER_ENABLE (R93). -/
  | timerEnable (ag : Agent) (t : Fin 32) (w0 : Word)
  /-- TIMER_DISABLE (R93). -/
  | timerDisable (ag : Agent) (t : Fin 32) (w0 : Word)
  /-- TIMER_RESTART (R93). -/
  | timerRestart (ag : Agent) (t : Fin 32)
  /-- TIMER_EXPIRY (R94). -/
  | timerExpiry (t : Fin 32)
  /-- PLL_ENABLE (R522). -/
  | pllEnable (ag : Agent) (p : Fin 20) (en : Bool)
  /-- PLL_SETTING_WRITE (R110). -/
  | pllSettingWrite (ag : Agent) (p : Fin 20) (refSel : BitVec 2) (mult : BitVec 11)
  /-- MIRROR_WRITE (R114). -/
  | mirrorWrite (ag : Agent) (p : Fin 20) (m : BitVec 5)
  /-- PLL_READY (R109). -/
  | pllReady (p : Fin 20)
  /-- PLL_LOSS_OF_LOCK (R109). -/
  | pllLossOfLock (p : Fin 20)
  /-- REFERENCE_LOSS (R109). -/
  | referenceLoss (p : Fin 20)
  /-- TIMING_PLL_RELOCK_START (R112). -/
  | timingPllRelockStart
  /-- TREE_OPEN (R111). -/
  | treeOpen (t : Fin 177)
  /-- CLOCK_SWITCH_REQUEST (R116). -/
  | clockSwitchRequest (ag : Agent) (t : Fin 177) (src : BitVec 3) (div : BitVec 3)
  /-- CLOCK_SWITCH_DONE (R117). -/
  | clockSwitchDone (t : Fin 177) (gap : Nat)
  /-- OLD_STOPPED (R118). -/
  | oldStopped (t : Fin 177) (gap : Nat)
  /-- DIVIDER_WRITE (R115). -/
  | dividerWrite (ag : Agent) (t : Fin 177) (div : BitVec 3)
  /-- DIVIDER_APPLY (R115). -/
  | dividerApply (t : Fin 177)
  /-- GATE_REQUEST (R121). -/
  | gateRequest (ag : Agent) (t : Fin 177) (enables : BitVec 9)
  /-- GATE_CLOSE (R122). -/
  | gateClose (e : Fin 354)
  /-- GATE_TIMEOUT (R123). -/
  | gateTimeout (e : Fin 354)
  /-- FC_START (R124). -/
  | fcStart (ag : Agent) (f : Fin 16) (w0 : Word)
  /-- FC_WINDOW_END (R124). -/
  | fcWindowEnd (f : Fin 16) (edges : Word)
  /-- CW_CONFLICT (R141). -/
  | cwConflict (pair : Fin 20) (x : Fin 64) (r : Fin 320) (idx : Fin 64)
  /-- RESTAGE_DONE (R141). -/
  | restageDone (pair : Fin 20) (x : Fin 64) (r : Fin 320)
  /-- BM_PORT_ACCESS (R146). -/
  | bmPortAccess (region : Fin 40) (x : Fin 64) (k : Fin 16) (portA : BmPort) (portB : BmPort)
  /-- MGT_PORT_ACCESS (R153). -/
  | mgtPortAccess (region : Fin 40) (addr : Word) (wr : Bool) (wdata : Word)
  /-- FABRIC_VOTE_STROBE (R153). -/
  | fabricVoteStrobe (region : Fin 40) (domain : BitVec 9) (level : BitVec 2)
  /-- ATTACHMENT_WRITE (R151). -/
  | attachmentWrite (ag : Agent) (region : Fin 40) (ctx : Fin 8) (n : Fin 16) (v : Word)
  /-- REMAP_APPLY (R155). -/
  | remapApply (pair : Fin 20) (edge : BitVec 16)
  /-- CAPTURE_REQUEST (R157). -/
  | captureRequest (ag : Agent) (region : Fin 40)
  /-- CAPTURE (R157). -/
  | capture (region : Fin 40) (edge : BitVec 16)
  /-- STAGE_REQUEST (R181). -/
  | stageRequest (ag : Agent) (region : Fin 40) (ctx : Fin 8)
  /-- SWITCH_REQUEST (R181). -/
  | switchRequest (ag : Agent) (region : Fin 40) (ctx : Fin 8)
  /-- FABRIC_STAGE_STROBE (R178). -/
  | fabricStageStrobe (region : Fin 40) (ctx : Fin 8)
  /-- FABRIC_SWITCH_STROBE (R178). -/
  | fabricSwitchStrobe (region : Fin 40) (ctx : Fin 8)
  /-- STAGE_APPLY (R169). -/
  | stageApply (region : Fin 40)
  /-- STAGE_DONE (R169). -/
  | stageDone (region : Fin 40)
  /-- SWITCH_APPLY (R174). -/
  | switchApply (region : Fin 40) (edge : BitVec 16)
  /-- SYNC_WORD (R193). -/
  | syncWord (port : StreamPort)
  /-- STREAM_NOP (R194). -/
  | streamNop (payload : List Word)
  /-- IMAGE (R196). -/
  | image (flags : Word) (member : Word) (imageId : Word) (zero : Word)
  /-- DEVSEL (R195). -/
  | devsel (mask : BitVec 64)
  /-- FAR (R199). -/
  | far (a : Word)
  /-- FRAMES (R194). -/
  | frames (fs : List FrameWords)
  /-- FRAME (R204). -/
  | frame (f : FrameWords)
  /-- HELD_FRAME_WRITE (R208). -/
  | heldFrameWrite
  /-- REPEAT (R202). -/
  | repeatFrames (n : Word)
  /-- ZERO (R202). -/
  | zeroFrames (n : Word)
  /-- WREG (R197). -/
  | wreg (pairs : List (Word × Word))
  /-- BULK (R194). -/
  | bulk (addr : Word) (words : List Word)
  /-- RFENCE (R207). -/
  | rfence (lo : Word) (hi : Word) (ctx : Word)
  /-- ENC_BEGIN (R493). -/
  | encBegin (slot : Word) (iv0 : Word) (iv1 : Word) (iv2 : Word) (len : Word) (cipher : List Word)
  /-- ENC_TAG (R493). -/
  | encTag (t0 : Word) (t1 : Word) (t2 : Word) (t3 : Word)
  /-- HMAC (R492). -/
  | hmac (slot : Word) (mac : BitVec 256)
  /-- CLOSE (R197). -/
  | close
  /-- START_PACKET (R219). -/
  | startPacket (ctx : Word)
  /-- DESYNC (R194). -/
  | desync
  /-- STALL_TIMEOUT (R210). -/
  | stallTimeout
  /-- TEMP_HOLD_TIMEOUT (R208). -/
  | tempHoldTimeout
  /-- LOADER_WINDOW_WRITE (R192). -/
  | loaderWindowWrite (addr : Word) (bytes : List (BitVec 8))
  /-- SERIAL_WORD (R215). -/
  | serialWord (w : Word)
  /-- SSEL_RISE (R215). -/
  | sselRise (partialWord : Bool)
  /-- PARALLEL_WORD (R216). -/
  | parallelWord (w : Word)
  /-- MEMORY_SPACE_ENABLE (R213). -/
  | memorySpaceEnable
  /-- IMAGE_LATE (R213). -/
  | imageLate
  /-- LOAD_COMPLETE (R219). -/
  | loadComplete
  /-- READBACK (R222). -/
  | readback (ag : Agent)
  /-- READBACK_DONE (R222). -/
  | readbackDone
  /-- LOAD_STATUS (R225). -/
  | loadStatus (ch : Fin 3)
  /-- ABORT_STREAM (R225). -/
  | abortStream (ch : Fin 3)
  /-- UNCONFIGURE (R221). -/
  | unconfigure (ch : Fin 3)
  /-- START_GO (R254). -/
  | startGo (ag : Agent) (te : Fin 104) (pc : BitVec 11)
  /-- HALT_GO (R254). -/
  | haltGo (ag : Agent) (te : Fin 104)
  /-- TE_START_APPLY (R253). -/
  | teStartApply (te : Fin 104)
  /-- TE_HALT_APPLY (R254). -/
  | teHaltApply (te : Fin 104)
  /-- TE_NOP (R244). -/
  | teNop (te : Fin 104)
  /-- HALT (R244). -/
  | teHalt (te : Fin 104)
  /-- WAIT (R245). -/
  | teWait (te : Fin 104)
  /-- WAIT_END (R244). -/
  | waitEnd (te : Fin 104)
  /-- LOOP (R245). -/
  | teLoop (te : Fin 104)
  /-- JMP (R245). -/
  | teJmp (te : Fin 104)
  /-- BRZ (R244). -/
  | teBrz (te : Fin 104)
  /-- BRNZ (R244). -/
  | teBrnz (te : Fin 104)
  /-- SLI (R244). -/
  | teSli (te : Fin 104)
  /-- SADD (R244). -/
  | teSadd (te : Fin 104)
  /-- SETAG (R244). -/
  | teSetag (te : Fin 104)
  /-- SETAGR (R244). -/
  | teSetagr (te : Fin 104)
  /-- GETAG (R244). -/
  | teGetag (te : Fin 104)
  /-- PUSHCTL (R244). -/
  | tePushctl (te : Fin 104)
  /-- RTAG (R244). -/
  | teRtag (te : Fin 104)
  /-- RTT (R256). -/
  | teRtt (te : Fin 104)
  /-- TRAP (R256). -/
  | teTrap (te : Fin 104)
  /-- MAC (R244). -/
  | teMac (te : Fin 104)
  /-- MSU (R244). -/
  | teMsu (te : Fin 104)
  /-- MUL (R244). -/
  | teMul (te : Fin 104)
  /-- CLRA (R244). -/
  | teClra (te : Fin 104)
  /-- LDA (R244). -/
  | teLda (te : Fin 104)
  /-- STA (R231). -/
  | teSta (te : Fin 104)
  /-- ADDV (R233). -/
  | teAddv (te : Fin 104)
  /-- SUBV (R233). -/
  | teSubv (te : Fin 104)
  /-- MAXV (R244). -/
  | teMaxv (te : Fin 104)
  /-- MINV (R244). -/
  | teMinv (te : Fin 104)
  /-- ABSV (R233). -/
  | teAbsv (te : Fin 104)
  /-- MOV (R244). -/
  | teMov (te : Fin 104)
  /-- EXPA (R244). -/
  | teExpa (te : Fin 104)
  /-- NORMA (R244). -/
  | teNorma (te : Fin 104)
  /-- BFPA (R244). -/
  | teBfpa (te : Fin 104)
  /-- CLRP (R244). -/
  | teClrp (te : Fin 104)
  /-- ILLEGAL_INSTRUCTION (R242). -/
  | illegalInstruction (te : Fin 104)
  /-- FIFO_WRITE (R250). -/
  | fifoWrite (region : Fin 40) (lte : Fin 96) (f : Fin 2) (data : Word) (wr : Bool) (last : Bool) (poison : Bool)
  /-- FIFO_READ (R250). -/
  | fifoRead (region : Fin 40) (lte : Fin 96) (f : Fin 2)
  /-- FIFO_FLUSH (R252). -/
  | fifoFlush (ag : Agent) (te : Fin 104) (mask : BitVec 4)
  /-- FIFO_STALL_TIMEOUT (R251). -/
  | fifoStallTimeout (te : Fin 104)
  /-- ENGINE_MAINTENANCE_SLOT (R234). -/
  | engineMaintenanceSlot (te : Fin 104)
  /-- FORCED_SLOT (R235). -/
  | forcedSlot (te : Fin 104)
  /-- DATA_WINDOW_ACCESS (R239). -/
  | dataWindowAccess (ag : Agent) (te : Fin 104) (row : Fin 2048) (lane : Fin 32) (wr : Bool) (v : Word)
  /-- INSTRUCTION_WINDOW_WRITE (R239). -/
  | instructionWindowWrite (ag : Agent) (te : Fin 104) (word : Fin 2048) (high : Bool) (v : Word)
  /-- ENGINE_MOVE (R257). -/
  | engineMove (te : Fin 104) (intact : Bool)
  /-- ENGINE_MOVED (R257). -/
  | engineMoved (te : Fin 104)
  /-- IMEM_SCRUB_READ (R236). -/
  | imemScrubRead (te : Fin 104)
  /-- DESCRIPTOR_WRITE (R263). -/
  | descriptorWrite (region : Fin 40) (d : BitVec 512) (wmask : BitVec 8)
  /-- PACK_START (R280). -/
  | packStart (region : Fin 40)
  /-- TRAILER_FORMED (R280). -/
  | trailerFormed (region : Fin 40)
  /-- EVENT_SEND (R276). -/
  | eventSend (region : Fin 40)
  /-- HIT_WRITE (R298). -/
  | hitWrite (k : Fin 12) (port : Fin 8) (hits : List (Fin 8 × BitVec 16))
  /-- SET_CLOSE (R302). -/
  | setClose (k : Fin 12)
  /-- MAJORITY (R302). -/
  | majority (k : Fin 12)
  /-- ROAD_WINDOW (R307). -/
  | roadWindow (k : Fin 12) (port : Fin 8) (edges : Nat)
  /-- PATTERN_WINDOW_WRITE (R291). -/
  | patternWindowWrite (ag : Agent) (k : Fin 12) (off : BitVec 23) (size8 : Bool) (v : BitVec 64)
  /-- VERIFY_GO (R293). -/
  | verifyGo (ag : Agent) (k : Fin 12) (bank : Fin 2)
  /-- VERIFY_DONE (R293). -/
  | verifyDone (k : Fin 12)
  /-- COMMIT_GO (R294). -/
  | commitGo (ag : Agent) (k : Fin 12) (bank : Fin 2)
  /-- FILL_START (R295). -/
  | fillStart (k : Fin 12)
  /-- FILL_DONE (R295). -/
  | fillDone (k : Fin 12)
  /-- PATTERN_SCRUB (R312). -/
  | patternScrub (k : Fin 12) (slice : Fin 4)
  /-- LOST_PATTERN_RESTORE (R315). -/
  | lostPatternRestore (k : Fin 12)
  /-- RB_ACCESS (R334). -/
  | rbAccess (region : Fin 40) (addr : BitVec 20) (we : Bool) (re : Bool) (wmask : BitVec 8) (wdata : BitVec 512)
  /-- ROW_SPARE_DONE (R328). -/
  | rowSpareDone (store : Store) (unit : Nat)
  /-- MENDER_WALK (R332). -/
  | menderWalk (plane : Fin 40) (tile : Nat)
  /-- SLAB_SCRUB (R339). -/
  | slabScrub (region : Fin 40) (arr : Fin 3)
  /-- SLAB_FORCED_SLOT (R337). -/
  | slabForcedSlot (region : Fin 40)
  /-- SCRUB_LATE (R339). -/
  | scrubLate (region : Fin 40) (arr : Fin 3)
  /-- DDR_TRAINING_START (R344). -/
  | ddrTrainingStart (c : Fin 8)
  /-- DDR_TRAINING_DONE (R344). -/
  | ddrTrainingDone (c : Fin 8) (failLane : Option (Fin 10))
  /-- REFRESH_TICK (R345). -/
  | refreshTick (c : Fin 8) (rank : Fin 2)
  /-- REF_ISSUE (R346). -/
  | refIssue (c : Fin 8) (rank : Fin 2) (pendingReq : Bool)
  /-- PATROL_READ (R350). -/
  | patrolRead (c : Fin 8)
  /-- PATROL_LATE (R350). -/
  | patrolLate (c : Fin 8)
  /-- RING_EVENT_WRITE (R354). -/
  | ringEventWrite (c : Fin 8) (r : Fin 4)
  /-- EVR_TIMEOUT (R355). -/
  | evrTimeout (c : Fin 8) (r : Fin 4)
  /-- EVR_ENABLE (R355). -/
  | evrEnable (ag : Agent) (c : Fin 8) (r : Fin 4) (v : Word)
  /-- READ (R362). -/
  | netRead (vc : Fin 4) (h : BitVec 128)
  /-- READ_SHARED (R380). -/
  | netReadShared (vc : Fin 4) (h : BitVec 128)
  /-- RELEASE (R380). -/
  | netRelease (vc : Fin 4) (h : BitVec 128)
  /-- WRITE (R381). -/
  | netWrite (vc : Fin 4) (h : BitVec 512) (flits : List DataFlit)
  /-- READ_DATA (R362). -/
  | netReadData (vc : Fin 4) (h : BitVec 512) (flits : List DataFlit)
  /-- EVENT (R362). -/
  | netEvent (vc : Fin 4) (h : BitVec 512) (flits : List DataFlit)
  /-- WRITE_DONE (R362). -/
  | writeDone (vc : Fin 2) (h : BitVec 64)
  /-- READ_FAIL (R362). -/
  | readFail (vc : Fin 2) (h : BitVec 64)
  /-- RELEASE_DONE (R380). -/
  | releaseDone (vc : Fin 2) (h : BitVec 64)
  /-- INV (R381). -/
  | inv (vc : Fin 2) (h : BitVec 64)
  /-- INV_ACK (R381). -/
  | invAck (vc : Fin 2) (h : BitVec 64)
  /-- SNP_TIMEOUT (R381). -/
  | snpTimeout (unit : SharedHome) (line : Nat)
  /-- HOP_ERR (R376). -/
  | hopErr (x : Fin 12) (y : Fin 8) (out : Fin 5) (net : Fin 4)
  /-- LINK_TEST (R377). -/
  | linkTest (x : Fin 12) (y : Fin 8) (out : Fin 5) (net : Fin 4) (badWire : Option (BitVec 10))
  /-- SLOT_WINDOW_WRITE (R372). -/
  | slotWindowWrite (ag : Agent) (off : BitVec 19) (v : BitVec 16)
  /-- TBL_COMMIT (R373). -/
  | tblCommit (ag : Agent)
  /-- SLOT_TABLE_SWITCH (R373). -/
  | slotTableSwitch
  /-- NET_PORT_FLIT (R382). -/
  | netPortFlit (region : Fin 40) (net : Fin 4) (vc : Fin 4) (head : Bool) (tail : Bool) (poison : Bool) (flit : BitVec 512)
  /-- NET_CREDIT_RETURN (R382). -/
  | netCreditReturn (region : Fin 40) (net : Fin 4) (vc : Fin 4) (toFabric : Bool)
  /-- REQ_TIMEOUT (R383). -/
  | reqTimeout (region : Fin 40) (tag : BitVec 8)
  /-- HALF_SOURCE_WRITE (R395). -/
  | halfSourceWrite (ag : Agent) (g : Fin 12) (h : Fin 2) (v : Word)
  /-- TX_CELL_WRITE (R397). -/
  | txCellWrite (region : Fin 40) (port : Fin 2) (data : BitVec 512) (mark : Bool) (poison : Bool)
  /-- CELL_SEND (R399). -/
  | cellSend (g : Fin 12) (lane : Fin 9)
  /-- TX_IDLE_END (R400). -/
  | txIdleEnd (g : Fin 12)
  /-- RATE_CHECK (R389). -/
  | rateCheck (g : Fin 12) (inBand : Bool)
  /-- CDR_LOCK (R401). -/
  | cdrLock (g : Fin 12) (lane : Fin 9)
  /-- CELL_RECEIVE (R403). -/
  | cellReceive (g : Fin 12) (lane : Fin 9) (bits : List Bool)
  /-- CELL_RELEASE (R405). -/
  | cellRelease (g : Fin 12) (h : Fin 2) (edges : List Nat)
  /-- DEST_SLOT_WRITE (R404). -/
  | destSlotWrite (ag : Agent) (g : Fin 12) (h : Fin 2) (v : Word)
  /-- PARK_MOVE (R412). -/
  | parkMove (g : Fin 12)
  /-- PARK_GO (R414). -/
  | parkGo (ag : Agent) (g : Fin 12) (next : BitVec 4)
  /-- LANE_ERROR_CHECK (R414). -/
  | laneErrorCheck (g : Fin 12) (lane : Fin 9)
  /-- EYE_SCAN_START (R416). -/
  | eyeScanStart (ag : Agent) (g : Fin 12) (v : Word)
  /-- EYE_SCAN_SLICE (R416). -/
  | eyeScanSlice (g : Fin 12) (bits : Nat) (errs : Nat)
  /-- ENTRY_STEP_READY (R430). -/
  | entryStepReady (d : Fin 270)
  /-- WAKE_STEP_READY (R431). -/
  | wakeStepReady (d : Fin 270)
  /-- WAKE_FAIL (R432). -/
  | wakeFail (d : Fin 270)
  /-- POWER_MEASURE (R435). -/
  | powerMeasure (readings : List (Fin 270 × Nat)) (always : Nat)
  /-- PCAP_SHED (R445). -/
  | pcapShed
  /-- PCAP_LIFT (R445). -/
  | pcapLift
  /-- TEMP_CONVERSION (R437). -/
  | tempConversion (readings : List TempReading)
  /-- MODEL_EVALUATION (R439). -/
  | modelEvaluation
  /-- ZONE_EVALUATE (R443). -/
  | zoneEvaluate (z : Fin 33)
  /-- PCIE_LINK_DOWN (R427). -/
  | pcieLinkDown
  /-- PCIE_LINK_UP (R508). -/
  | pcieLinkUp (speed : BitVec 4) (width : BitVec 5)
  /-- DEBUG_DETACH (R427). -/
  | debugDetach
  /-- FORCE_LEVEL (R428). -/
  | forceLevel (ch : Fin 3)
  /-- THERM_LIMITS (R450). -/
  | thermLimits (ch : Fin 3)
  /-- SENSOR_MASK (R450). -/
  | sensorMask (ch : Fin 3)
  /-- POWER_LIMIT (R450). -/
  | powerLimit (ch : Fin 3)
  /-- SELFTEST_SLICE (R470). -/
  | selftestSlice (kind : Fin 11) (entry : Fin 354) (foreground : Bool)
  /-- SLICE_DONE (R469). -/
  | sliceDone (kind : Fin 11) (entry : Fin 354) (fail : Bool) (detail : Nat)
  /-- WEAR_STEP (R474). -/
  | wearStep (m : Fin 84)
  /-- VIA_FAIL (R460). -/
  | viaFail (pair : Fin 20) (layer : Fin 2) (group : Fin 4) (x : Fin 64) (r : Fin 320) (signal : Fin 64)
  /-- LATCH_COMPARE (R463). -/
  | latchCompare (region : Fin 40) (staged : Bool) (r : Fin 320)
  /-- ARRAY_WALK_READ (R463). -/
  | arrayWalkRead (region : Fin 40)
  /-- SPARE_COMMIT (R457). -/
  | spareCommit (ch : Fin 3)
  /-- RETIRE (R458). -/
  | retire (ch : Fin 3)
  /-- HOT_WORD_EXPIRY (R327). -/
  | hotWordExpiry (store : Store) (unit : Nat)
  /-- WALKER_RESTART_DONE (R467). -/
  | walkerRestartDone
  /-- RFENCE_SET (R489). -/
  | rfenceSet (ch : Fin 3)
  /-- LOCKOUT_END (R488). -/
  | lockoutEnd
  /-- KEY_LOAD (R489). -/
  | keyLoad (ch : Fin 3)
  /-- KEY_REVOKE (R489). -/
  | keyRevoke (ch : Fin 3)
  /-- PATCH (R490). -/
  | patch (ch : Fin 3)
  /-- EFUSE_POLICY (R491). -/
  | efusePolicy (ch : Fin 3)
  /-- DEBUG_UNLOCK (R495). -/
  | debugUnlock (ch : Fin 3)
  /-- DEBUG_LOCK (R495). -/
  | debugLock (ch : Fin 3)
  /-- USER_WINDOW_ACCESS (R510). -/
  | userWindowAccess (region : Fin 40) (off : BitVec 28) (wr : Bool) (len : Nat) (bytes : List (BitVec 8))
  /-- USER_TIMEOUT (R510). -/
  | userTimeout (region : Fin 40) (tag : BitVec 8)
  /-- HOST_RING_WRITE (R511). -/
  | hostRingWrite (r : Fin 4)
  /-- RING_TIMEOUT (R511). -/
  | ringTimeout (r : Fin 4)
  /-- QUIESCE (R513). -/
  | quiesce
  /-- QUIESCE_DONE (R513). -/
  | quiesceDone
  /-- QUIESCE_RELEASE (R514). -/
  | quiesceRelease
  /-- PIN_ENABLE (R505). -/
  | pinEnable (ag : Agent) (pin : Fin 192) (v : Word)
  /-- VIO_MISMATCH (R507). -/
  | vioMismatch (b : Fin 8)
  /-- VIO_MATCH (R507). -/
  | vioMatch (b : Fin 8)
  /-- BUCKET_KHZ_UPDATE (R125). -/
  | bucketKhzUpdate (khz : Word)
  deriving DecidableEq, Repr

end Sys2Proof
end

