-- ==== Sys2Proof/Decode.lean ====
section
/-! DEFINITION. Decode.lean: the command a word spells by the table's bits. No row of spec/opcode_table.json gives bits, so
no word spells a command. -/

namespace Sys2Proof

/-- The command of the word w of nbits bits: none, since the table gives no row a bit (log entry 1). -/
def decodeTableWord (_nbits _w : Nat) : Option Instr := none

end Sys2Proof
end

