-- ==== Sys2Proof/Config.lean ====
section
/-! DEFINITION. Config.lean: what the manual leaves open. Every constant here is opaque: no proof can see its value, so a
theorem about it holds for every value (assumption log entry 2). -/

namespace Sys2Proof

/-- The n-th free value: a value the manual leaves open (log entry 2). -/
opaque Config.free : Nat → Nat

/-- The shape of a Waybook entry's parameter block, which R47 leaves to the part (log entry 3): its parameter words, the
capacity of its repair records, and its format version. -/
opaque Config.paramShape : Nat → Nat

/-- Word k of the parameters of entry e: the manual names some and places none (log entry 3). -/
opaque Config.paramWord : Nat → Nat → Nat

/-- A fabric signal that the manual gives no value (log entry 156): at a management-clock cycle, for a signal's number. -/
opaque Config.floating : Nat → Nat → Bool

/-- What a word-code read delivers when more than three of its 80 bits are in error (R323 speaks of one to three). -/
opaque Config.wordCodeWild : Nat → Nat → Nat

/-- Keys fused at manufacture (R482): slot 0 is programmed before the part is sold and no agent can read it. -/
opaque Config.fusedKey : Nat → Nat

/-- Effective reading of a masked point whose zone has no other OK point (R441 names none). -/
opaque Config.orphanReading : Nat → Int

end Sys2Proof
end

