-- ==== Sys2Proof/Machine/Bits.lean ====
section
/-! DEFINITION. Machine/Bits.lean: bit fields of natural numbers, the access types, the shape of a register row, and the
sparse maps that hold registers and memories in one canonical form. -/

namespace Sys2Proof.Machine

/-- Bits [lo + w - 1 : lo] of n. -/
def bitsOf (n lo w : Nat) : Nat := (n >>> lo) % 2 ^ w

/-- Bit i of n, as 0 or 1. -/
def bitOf (n i : Nat) : Nat := (n >>> i) % 2

/-- n with bits [lo + w - 1 : lo] replaced by v. -/
def putBits (n lo w v : Nat) : Nat := n - (bitsOf n lo w <<< lo) + ((v % 2 ^ w) <<< lo)

/-- Bool as a bit. -/
def bit (b : Bool) : Nat := if b then 1 else 0

/-- Two's complement reading of the low w bits of n. -/
def signedOf (w n : Nat) : Int :=
  let m := n % 2 ^ w
  if 2 * m < 2 ^ w then (m : Int) else (m : Int) - (2 ^ w : Nat)

/-- The w-bit two's complement field of an integer. -/
def fieldOf (w : Nat) (z : Int) : Nat := (z % ((2 ^ w : Nat) : Int)).toNat

/-- The sum of the low w bits. -/
def bitSum (n : Nat) : Nat → Nat
  | 0 => 0
  | w + 1 => bitOf n w + bitSum n w

/-- Number of ones among the low w bits. -/
@[irreducible] def onesIn (n w : Nat) : Nat := bitSum n w

/-- A 16-bit or 32-bit counter that stops at its maximum, as the tables say "saturates". -/
def satAdd (w n k : Nat) : Nat := min (n + k) (2 ^ w - 1)

/-- Position of the lowest set bit of n below w, if any. -/
def lowestBit (n : Nat) (w : Nat) : Option Nat := (List.range w).find? fun i => bitOf n i = 1

/-- Access types of Table 00.2. -/
inductive Acc where
  | rw | ro | wo | w1c | w1s | rc | rwl | auth
  deriving DecidableEq, Repr

/-- A field of a register table: byte offset within its page, least bit, width, access type, value after a cold start,
and for an indexed field the step between instances and their number. -/
structure Row where
  off : Nat
  lo : Nat
  width : Nat
  acc : Acc
  reset : Nat
  stride : Nat
  count : Nat
  deriving DecidableEq, Repr

/-- A field that stands once on its page. -/
def row (off lo width : Nat) (acc : Acc) (reset : Nat) : Row := ⟨off, lo, width, acc, reset, 0, 1⟩

/-- A field that stands `count` times, `stride` bytes apart. -/
def rows (off lo width : Nat) (acc : Acc) (reset stride count : Nat) : Row :=
  ⟨off, lo, width, acc, reset, stride, count⟩

/-- The key of a field: the bit address in the page space of its least bit. -/
def fieldKey (page : Nat) (r : Row) (i : Nat) : Nat := (page * 4096 + r.off + r.stride * i) * 8 + r.lo

/-! ### Sparse maps

A map is a list of (key, value) pairs with strictly rising keys; a key that is not listed reads as the default. A write
of the default removes the entry, so equal maps are equal lists. -/

/-- The value at k. -/
def mget {α : Type} (d : α) : List (Nat × α) → Nat → α
  | [], _ => d
  | (k', v) :: m, k => if k = k' then v else mget d m k

/-- Put (k, v) in its place, whatever v is. -/
def mput {α : Type} : List (Nat × α) → Nat → α → List (Nat × α)
  | [], k, v => [(k, v)]
  | (k', v') :: m, k, v =>
    if k < k' then (k, v) :: (k', v') :: m
    else if k = k' then (k, v) :: m
    else (k', v') :: mput m k v

/-- Take k out. -/
def mdel {α : Type} : List (Nat × α) → Nat → List (Nat × α)
  | [], _ => []
  | (k', v') :: m, k => if k = k' then mdel m k else (k', v') :: mdel m k

/-- The write: canonical, so that writing the default removes the entry. -/
def mset {α : Type} [DecidableEq α] (d : α) (m : List (Nat × α)) (k : Nat) (v : α) : List (Nat × α) :=
  if v = d then mdel m k else mput m k v

/-- Write a run of values from key k on. -/
def msets {α : Type} [DecidableEq α] (d : α) (m : List (Nat × α)) (k : Nat) : List α → List (Nat × α)
  | [] => m
  | v :: vs => msets d (mset d m k v) (k + 1) vs

/-- Read n values from key k on. -/
def mgets {α : Type} (d : α) (m : List (Nat × α)) (k n : Nat) : List α :=
  (List.range n).map fun i => mget d m (k + i)

/-- The entries whose key lies in [lo, lo + n). -/
def mrange {α : Type} (m : List (Nat × α)) (lo n : Nat) : List (Nat × α) :=
  m.filter fun e => lo ≤ e.1 && e.1 < lo + n

/-- Drop every entry whose key lies in [lo, lo + n): the range reads as the default. -/
def mclear {α : Type} (m : List (Nat × α)) (lo n : Nat) : List (Nat × α) :=
  m.filter fun e => !(lo ≤ e.1 && e.1 < lo + n)

/-- Copy range [src, src + n) onto [dst, dst + n), inside one map or from another. -/
def mcopy {α : Type} (from' m : List (Nat × α)) (src dst n : Nat) : List (Nat × α) :=
  (mrange from' src n).foldl (fun acc e => mput acc (e.1 - src + dst) e.2) (mclear m dst n)

/-- The canonical form: keys strictly rising and no entry equal to the default. -/
def mwf {α : Type} [DecidableEq α] (d : α) : List (Nat × α) → Bool
  | [] => true
  | (k, v) :: m => v ≠ d && (match m with | [] => true | (k', _) :: _ => k < k') && mwf d m

end Sys2Proof.Machine
end

