-- ==== Sys2Proof/Machine/Layout.lean ====
section
/-! DEFINITION. Machine/Layout.lean: the fixed layout of the VY960: Waybook entries and pages (Table 02.3), power domains
(Table 14.1), clock trees (Table 04.4), engine rows (§01.1), shallot sites (Table 01.2) and registry indices (Table 02.8). -/

namespace Sys2Proof.Machine

/-- One line of Table 02.3: first entry, instances, type, first page, pages of each instance. -/
structure Group where
  e0 : Nat
  count : Nat
  type : Nat
  page0 : Nat
  pages : Nat
  deriving DecidableEq, Repr

/-- Table 02.3. -/
def groups : List Group :=
  [⟨0, 1, 0x01, 0x000, 16⟩, ⟨1, 2, 0x02, 0x010, 1⟩, ⟨3, 1, 0x03, 0x012, 5⟩, ⟨4, 4, 0x04, 0x020, 1⟩,
   ⟨8, 1, 0x10, 0x030, 1⟩, ⟨9, 1, 0x11, 0x031, 2⟩, ⟨10, 1, 0x12, 0x040, 1⟩, ⟨11, 20, 0x13, 0x041, 1⟩,
   ⟨31, 1, 0x14, 0x060, 1⟩, ⟨32, 1, 0x15, 0x061, 1⟩, ⟨33, 1, 0x16, 0x070, 1⟩, ⟨34, 1, 0x17, 0x071, 1⟩,
   ⟨35, 1, 0x18, 0x078, 1⟩, ⟨36, 8, 0x19, 0x080, 1⟩, ⟨44, 40, 0x20, 0x100, 1⟩, ⟨84, 40, 0x21, 0x140, 1⟩,
   ⟨124, 40, 0x22, 0x180, 1⟩, ⟨164, 104, 0x30, 0x200, 1⟩, ⟨268, 12, 0x31, 0x280, 1⟩, ⟨280, 40, 0x32, 0x300, 1⟩,
   ⟨320, 12, 0x40, 0x290, 1⟩, ⟨332, 12, 0x41, 0x2A0, 1⟩, ⟨344, 8, 0x42, 0x2B0, 1⟩, ⟨352, 1, 0x43, 0x2C0, 1⟩,
   ⟨353, 1, 0x44, 0x2C8, 1⟩]

/-- The line of Table 02.3 that holds Waybook entry e. -/
def groupOf (e : Nat) : Option Group := groups.find? fun g => g.e0 ≤ e && e < g.e0 + g.count

/-- TYPE of entry e. -/
def typeOf (e : Nat) : Nat := (groupOf e).elim 0 Group.type

/-- Physical instance number of entry e. -/
def instOf (e : Nat) : Nat := (groupOf e).elim 0 fun g => e - g.e0

/-- First page of entry e. -/
def pageOf (e : Nat) : Nat := (groupOf e).elim 0 fun g => g.page0 + (e - g.e0) * g.pages

/-- Pages of entry e. -/
def pageCountOf (e : Nat) : Nat := (groupOf e).elim 0 Group.pages

/-- The entry whose pages hold page p; none for a page no entry names (R40). -/
def entryOfPage (p : Nat) : Option Nat :=
  (groups.find? fun g => g.page0 ≤ p && p < g.page0 + g.count * g.pages).map fun g => g.e0 + (p - g.page0) / g.pages

/-- Pages that begin with the common page header (R50). -/
def hasHeader (p : Nat) : Bool := 0x10 ≤ p && !(0x13 ≤ p && p ≤ 0x16) && (entryOfPage p).isSome

namespace Pg
def registry (idx : Nat) : Nat := 0x10 + idx / 1008
def log : Nat := 0x12
def entries : Nat := 0x13
def mailbox (p : Nat) : Nat := 0x20 + p
def timing : Nat := 0x30
def milestones : Nat := 0x31
def bitmaps : Nat := 0x32
def clocks : Nat := 0x40
def pll (p : Nat) : Nat := 0x41 + p
def power : Nat := 0x60
def thermal : Nat := 0x61
def loader : Nat := 0x70
def slave : Nat := 0x71
def walker : Nat := 0x78
def gio (b : Nat) : Nat := 0x80 + b
def region (i : Nat) : Nat := 0x100 + i
def slab (i : Nat) : Nat := 0x140 + i
def plane (i : Nat) : Nat := 0x180 + i
def engine (t : Nat) : Nat := 0x200 + t
def shallot (k : Nat) : Nat := 0x280 + k
def tx (g : Nat) : Nat := 0x290 + g
def rx (g : Nat) : Nat := 0x2A0 + g
def ddr (c : Nat) : Nat := 0x2B0 + c
def network : Nat := 0x2C0
def pcie : Nat := 0x2C8
def packer (i : Nat) : Nat := 0x300 + i
end Pg

namespace En
def mailbox (p : Nat) : Nat := 4 + p
def pll (p : Nat) : Nat := 11 + p
def gio (b : Nat) : Nat := 36 + b
def region (i : Nat) : Nat := 44 + i
def slab (i : Nat) : Nat := 84 + i
def plane (i : Nat) : Nat := 124 + i
def engine (t : Nat) : Nat := 164 + t
def shallot (k : Nat) : Nat := 268 + k
def packer (i : Nat) : Nat := 280 + i
def tx (g : Nat) : Nat := 320 + g
def rx (g : Nat) : Nat := 332 + g
def ddr (c : Nat) : Nat := 344 + c
def network : Nat := 352
def pcie : Nat := 353
end En

/-- The always-on management domain (R422). -/
def alwaysOn : Nat := 0x1FF

/-- DOMAIN of entry e (Table 14.1). -/
def domainOf (e : Nat) : Nat :=
  match typeOf e with
  | 0x20 => e - 44
  | 0x21 => e - 84 + 40
  | 0x22 => e - 124 + 80
  | 0x30 => e - 164 + 120
  | 0x31 => e - 268 + 224
  | 0x32 => e - 280
  | 0x40 => e - 320 + 236
  | 0x41 => e - 332 + 248
  | 0x42 => e - 344 + 260
  | 0x43 => 269
  | 0x44 => 268
  | _ => alwaysOn

/-- The entry that gives domain d its name in Table 14.1; the domain's vote word has its home on that entry's page. -/
def entryOfDomain (d : Nat) : Nat :=
  if d < 40 then En.region d else if d < 80 then En.slab (d - 40) else if d < 120 then En.plane (d - 80)
  else if d < 224 then En.engine (d - 120) else if d < 236 then En.shallot (d - 224)
  else if d < 248 then En.tx (d - 236) else if d < 260 then En.rx (d - 248) else if d < 268 then En.ddr (d - 260)
  else if d = 268 then En.pcie else En.network

/-- Every entry of domain d: a region's packer lies in its region's domain (R261). -/
def entriesOfDomain (d : Nat) : List Nat := if d < 40 then [En.region d, En.packer d] else [entryOfDomain d]

/-- The clock tree of entry e (Table 04.4); a packer runs on the tree of its region. -/
def treeOf (e : Nat) : Option Nat :=
  match typeOf e with
  | 0x20 => some (e - 44)
  | 0x32 => some (e - 280)
  | 0x30 => some (e - 164 + 40)
  | 0x31 => some (e - 268 + 144)
  | 0x43 => some 156
  | 0x40 => some (e - 320 + 157)
  | 0x19 => some (e - 36 + 169)
  | _ => none

/-- The block of tree t (Table 04.4). -/
def entryOfTree (t : Nat) : Nat :=
  if t < 40 then En.region t else if t < 144 then En.engine (t - 40) else if t < 156 then En.shallot (t - 144)
  else if t = 156 then En.network else if t < 169 then En.tx (t - 157) else En.gio (t - 169)

/-- The PLL that SRC code c gives tree t (Table 04.4): 0 home, 1 partner, 2 to 5 the spares. -/
def treeSource (t c : Nat) : Option Nat :=
  if 2 ≤ c ∧ c ≤ 5 then some (14 + c)
  else if 1 < c then none
  else if t < 20 then some (if c = 0 then 3 else 4)
  else if t < 40 then some (if c = 0 then 4 else 3)
  else if t < 92 then some (if c = 0 then 5 else 6)
  else if t < 144 then some (if c = 0 then 6 else 5)
  else if c = 1 then none
  else if t < 156 then some 8
  else if t = 156 then some 7
  else if t < 169 then some (9 + (t - 157) / 3)
  else some 15

/-- Entries whose block holds a profile of its own (§01.7). -/
def holdsProfile (e : Nat) : Bool := [0x20, 0x30, 0x31, 0x32, 0x40, 0x41, 0x42].contains (typeOf e)

/-- The entry whose profile entry e shows: its own, or its region's for a slab or a plane (Table 02.7). -/
def profileHome (e : Nat) : Option Nat :=
  if holdsProfile e then some e
  else match typeOf e with
    | 0x21 => some (e - 40)
    | 0x22 => some (e - 80)
    | _ => none

/-- The four regions of one layer that touch shallot k, in port order (Table 01.2, R16). -/
def shallotRegions (k : Nat) : List Nat :=
  let r := k / 4; let c := k % 4
  [5 * r + c, 5 * r + c + 1, 5 * (r + 1) + c, 5 * (r + 1) + c + 1]

/-! ### Parameter blocks (R47, Table 02.5) -/

/-- Parameter words of entry e's block, between its two first words and its repair records: none to seven. -/
def paramWords (e : Nat) : Nat := Config.paramShape e % 8

/-- Repair records that entry e's block has room for: none to seven. -/
def paramRoom (e : Nat) : Nat := Config.paramShape e / 8 % 8

/-- Byte offset of the repair records, a multiple of 8. -/
def paramRecords (e : Nat) : Nat := 8 + (paramWords e + 1) / 2 * 8

/-- Length of entry e's block in bytes. -/
def paramLen (e : Nat) : Nat := paramRecords e + 8 * paramRoom e

/-- PARAM_PTR of entry e: the blocks lie from PARAM_OFFSET upward in entry order, each on a 16-byte boundary. -/
def paramPtr : Nat → Nat
  | 0 => 0x3000
  | e + 1 => (paramPtr e + paramLen e + 15) / 16 * 16

/-- The entry whose block holds byte a of the parameter area, and the place in it. -/
def paramAt (a : Nat) : Option (Nat × Nat) :=
  ((List.range 354).find? fun e => paramPtr e ≤ a && a < paramPtr e + paramLen e).map fun e => (e, a - paramPtr e)

namespace Reg
/-- Registry indices (Table 02.8). -/
def sampler (l : Nat) : Nat := l
def counter (f : Nat) : Nat := 108 + f
def milestone (e : Nat) : Nat := 124 + e
def timer (t : Nat) : Nat := 380 + t
def fifo (n : Nat) : Nat := 412 + n
def pin (p : Nat) : Nat := 828 + p
end Reg

/-! Agents of Table 02.1. -/
namespace Ag
def host : Nat := 0
def cfp : Nat := 1
def hlp : Nat := 2
def scp : Nat := 3
def tsq : Nat := 4
def fabric : Nat := 5
def milestone : Nat := 6
def debug : Nat := 7
end Ag

/-! Profiles (R29). -/
namespace Prof
def latency : Nat := 0
def bandwidth : Nat := 1
def endurance : Nat := 2
def thasol : Nat := 3
end Prof

/-! Waybook STATE codes (Table 02.5). -/
namespace St
def usable : Nat := 0
def spare : Nat := 1
def inUse : Nat := 2
def degraded : Nat := 3
def retired : Nat := 4
end St

/-! Log severities (Table 02.11). -/
namespace Sev
def info : Nat := 0
def corrected : Nat := 1
def degraded : Nat := 2
def uncorrected : Nat := 3
def fatal : Nat := 4
end Sev

end Sys2Proof.Machine
end

