-- ==== Sys2Proof/Machine/RegTable.lean ====
section
/-! DEFINITION. The register tables of the page space, row by row as the chapters of spec/ print them: Tables 02.4 to
17.11. A row gives a field's place, width, access type (Table 00.2) and its value after a cold start (R8). -/

namespace Sys2Proof.Machine


/-! ### Wbh: Waybook header (Table 02.4) -/

def Wbh.MAGIC : Row := row 0x000 0 32 .ro 1463900482
def Wbh.VERSION : Row := row 0x004 0 16 .ro 256
def Wbh.ENTRY_COUNT : Row := row 0x008 0 16 .ro 354
def Wbh.ENTRY_SIZE : Row := row 0x008 16 16 .ro 32
def Wbh.GEN : Row := row 0x00C 0 32 .ro 0
def Wbh.MEMBER : Row := row 0x010 0 16 .ro 960
def Wbh.LAYERS : Row := row 0x010 16 8 .ro 6
def Wbh.WB_PAGES : Row := row 0x014 0 16 .ro 16
def Wbh.ENTRY_OFFSET : Row := row 0x018 0 32 .ro 64
def Wbh.PARAM_OFFSET : Row := row 0x01C 0 32 .ro 12288
def Wbh.DONE_DEADLINE : Row := row 0x020 0 16 .ro 100
def Wbh.IMAGE_DEADLINE : Row := row 0x020 16 16 .ro 900
def Wbh.DEV_ID : Row := row 0x024 0 6 .ro 0
def Wbh.CSD : Row := row 0x024 6 4 .ro 0
def Wbh.LOADSTATE : Row := row 0x024 10 1 .ro 0
def Wbh.CFG_MODE : Row := row 0x024 11 3 .ro 0

/-- Every field of the Waybook header (Table 02.4). -/
def Wbh.table : List Row :=
  [Wbh.MAGIC, Wbh.VERSION, Wbh.ENTRY_COUNT, Wbh.ENTRY_SIZE, Wbh.GEN, Wbh.MEMBER, Wbh.LAYERS, Wbh.WB_PAGES, Wbh.ENTRY_OFFSET, Wbh.PARAM_OFFSET, Wbh.DONE_DEADLINE, Wbh.IMAGE_DEADLINE, Wbh.DEV_ID, Wbh.CSD, Wbh.LOADSTATE, Wbh.CFG_MODE]

/-! ### Wbe: Waybook entry, one instance per entry (Table 02.5) -/

def Wbe.INSTANCE : Row := rows 0x040 0 16 .ro 0 0x20 354
def Wbe.TYPE : Row := rows 0x040 16 16 .ro 0 0x20 354
def Wbe.PAGE : Row := rows 0x044 0 16 .ro 0 0x20 354
def Wbe.PAGE_COUNT : Row := rows 0x044 16 16 .ro 0 0x20 354
def Wbe.BLOCK_REV : Row := rows 0x048 0 16 .ro 256 0x20 354
def Wbe.LOGICAL : Row := rows 0x048 16 16 .ro 65535 0x20 354
def Wbe.PARAM_PTR : Row := rows 0x04C 0 32 .ro 0 0x20 354
def Wbe.STATE : Row := rows 0x050 0 3 .ro 0 0x20 354
def Wbe.PROFILE : Row := rows 0x050 3 2 .ro 2 0x20 354
def Wbe.PROFILE_PEND : Row := rows 0x050 5 2 .ro 2 0x20 354
def Wbe.PEND_VALID : Row := rows 0x050 7 1 .ro 0 0x20 354
def Wbe.COMMITTED : Row := rows 0x050 8 1 .ro 0 0x20 354
def Wbe.DOMAIN : Row := rows 0x050 16 9 .ro 0 0x20 354
def Wbe.LINK : Row := rows 0x054 0 16 .ro 65535 0x20 354
def Wbe.REPAIR_COUNT : Row := rows 0x054 16 16 .ro 0 0x20 354
def Wbe.STATE_TURN : Row := rows 0x058 0 32 .ro 0 0x20 354
def Wbe.STATE_BUCKET : Row := rows 0x05C 0 16 .ro 0 0x20 354
def Wbe.REASON : Row := rows 0x05C 16 8 .ro 0 0x20 354
def Wbe.PRELOCK : Row := rows 0x05C 24 1 .ro 1 0x20 354

/-- Every field of the Waybook entry, one instance per entry (Table 02.5). -/
def Wbe.table : List Row :=
  [Wbe.INSTANCE, Wbe.TYPE, Wbe.PAGE, Wbe.PAGE_COUNT, Wbe.BLOCK_REV, Wbe.LOGICAL, Wbe.PARAM_PTR, Wbe.STATE, Wbe.PROFILE, Wbe.PROFILE_PEND, Wbe.PEND_VALID, Wbe.COMMITTED, Wbe.DOMAIN, Wbe.LINK, Wbe.REPAIR_COUNT, Wbe.STATE_TURN, Wbe.STATE_BUCKET, Wbe.REASON, Wbe.PRELOCK]

/-! ### Hdr: common page header (Table 02.7) -/

def Hdr.INSTANCE : Row := row 0x000 0 16 .ro 0
def Hdr.TYPE : Row := row 0x000 16 16 .ro 0
def Hdr.BLOCK_REV : Row := row 0x004 0 16 .ro 256
def Hdr.EN : Row := row 0x008 0 1 .rw 0
def Hdr.SRST : Row := row 0x008 1 1 .wo 0
def Hdr.PROFILE_REQ : Row := row 0x008 2 2 .rw 2
def Hdr.READY : Row := row 0x00C 0 1 .ro 0
def Hdr.CLAIM_REFUSED : Row := row 0x00C 1 1 .w1c 0
def Hdr.LOCK_REFUSED : Row := row 0x00C 2 1 .w1c 0
def Hdr.WRITE_IGNORED : Row := row 0x00C 3 1 .w1c 0
def Hdr.GATED : Row := row 0x00C 4 1 .ro 0
def Hdr.GATE_TIMEOUT : Row := row 0x00C 5 1 .w1c 0
def Hdr.PROFILE : Row := row 0x00C 6 2 .ro 2
def Hdr.STATE : Row := row 0x00C 8 3 .ro 0
def Hdr.PROFILE_PEND : Row := row 0x00C 11 1 .ro 0
def Hdr.LOCK_OPEN : Row := row 0x00C 12 1 .ro 0
def Hdr.NO_PROFILE : Row := row 0x00C 13 1 .ro 0
def Hdr.ERR : Row := row 0x010 0 1 .ro 0
def Hdr.CLAIM : Row := row 0x010 1 1 .ro 0
def Hdr.LOCKREF : Row := row 0x010 2 1 .ro 0
def Hdr.GATE_TMO : Row := row 0x010 3 1 .ro 0
def Hdr.STATE_CHANGE : Row := row 0x010 4 1 .ro 0
def Hdr.IRQ_EN : Row := row 0x014 0 32 .rw 0
def Hdr.IRQ_STAT : Row := row 0x018 0 32 .w1c 0
def Hdr.OWN_AGENT : Row := row 0x01C 0 3 .rw 0
def Hdr.OWN_FEATURE : Row := row 0x01C 8 8 .rw 0
def Hdr.CLAIMED : Row := row 0x01C 16 1 .rw 0
def Hdr.INDEX : Row := row 0x020 0 10 .ro 0
def Hdr.SEQ : Row := row 0x020 16 16 .ro 0
def Hdr.COUNT : Row := row 0x024 0 16 .rc 0
def Hdr.SLOT : Row := row 0x028 0 16 .rw 12
def Hdr.LEVEL : Row := row 0x028 16 2 .ro 3
def Hdr.WAKING : Row := row 0x028 18 1 .ro 0
def Hdr.KEY : Row := row 0x02C 0 32 .wo 0

/-- Every field of the common page header (Table 02.7). -/
def Hdr.table : List Row :=
  [Hdr.INSTANCE, Hdr.TYPE, Hdr.BLOCK_REV, Hdr.EN, Hdr.SRST, Hdr.PROFILE_REQ, Hdr.READY, Hdr.CLAIM_REFUSED, Hdr.LOCK_REFUSED, Hdr.WRITE_IGNORED, Hdr.GATED, Hdr.GATE_TIMEOUT, Hdr.PROFILE, Hdr.STATE, Hdr.PROFILE_PEND, Hdr.LOCK_OPEN, Hdr.NO_PROFILE, Hdr.ERR, Hdr.CLAIM, Hdr.LOCKREF, Hdr.GATE_TMO, Hdr.STATE_CHANGE, Hdr.IRQ_EN, Hdr.IRQ_STAT] ++
  [Hdr.OWN_AGENT, Hdr.OWN_FEATURE, Hdr.CLAIMED, Hdr.INDEX, Hdr.SEQ, Hdr.COUNT, Hdr.SLOT, Hdr.LEVEL, Hdr.WAKING, Hdr.KEY]

/-! ### Mbx: mailbox page (Table 02.9) -/

def Mbx.CHANNELS : Row := row 0x040 0 8 .ro 3
def Mbx.MAX_WORDS : Row := row 0x040 8 8 .ro 64
def Mbx.DEF_TMO : Row := row 0x040 16 16 .ro 10000
def Mbx.TAG : Row := rows 0x080 0 8 .wo 0 0x20 3
def Mbx.BUSY : Row := rows 0x084 0 1 .ro 0 0x20 3
def Mbx.DONE : Row := rows 0x084 1 1 .w1c 0 0x20 3
def Mbx.TIMEOUT : Row := rows 0x084 2 1 .w1c 0 0x20 3
def Mbx.ABORTED : Row := rows 0x084 3 1 .w1c 0 0x20 3
def Mbx.RUN_TAG : Row := rows 0x084 8 8 .ro 0 0x20 3
def Mbx.TMO : Row := rows 0x088 0 32 .rw 0 0x20 3

/-- Every field of the mailbox page (Table 02.9). -/
def Mbx.table : List Row :=
  [Mbx.CHANNELS, Mbx.MAX_WORDS, Mbx.DEF_TMO, Mbx.TAG, Mbx.BUSY, Mbx.DONE, Mbx.TIMEOUT, Mbx.ABORTED, Mbx.RUN_TAG, Mbx.TMO]

/-! ### Lge: central error log entry, from page 0x0013 (Table 02.11) -/

def Lge.SEQ : Row := rows 0x000 0 16 .ro 0 0x10 1024
def Lge.CODE : Row := rows 0x000 16 8 .ro 0 0x10 1024
def Lge.SEVERITY : Row := rows 0x000 24 3 .ro 0 0x10 1024
def Lge.AGENT : Row := rows 0x000 27 3 .ro 0 0x10 1024
def Lge.PRELOCK : Row := rows 0x000 30 1 .ro 0 0x10 1024
def Lge.VALID : Row := rows 0x000 31 1 .ro 0 0x10 1024
def Lge.PAGE : Row := rows 0x004 0 16 .ro 0 0x10 1024
def Lge.BUCKET : Row := rows 0x004 16 16 .ro 0 0x10 1024
def Lge.TURN : Row := rows 0x008 0 32 .ro 0 0x10 1024
def Lge.DETAIL : Row := rows 0x00C 0 32 .ro 0 0x10 1024

/-- Every field of the central error log entry, from page 0x0013 (Table 02.11). -/
def Lge.table : List Row :=
  [Lge.SEQ, Lge.CODE, Lge.SEVERITY, Lge.AGENT, Lge.PRELOCK, Lge.VALID, Lge.PAGE, Lge.BUCKET, Lge.TURN, Lge.DETAIL]

/-! ### Log: central error log (Table 02.13) -/

def Log.LOG_WR : Row := row 0x040 0 10 .ro 0
def Log.LOG_RD : Row := row 0x044 0 10 .rw 0
def Log.LOG_FILL : Row := row 0x048 0 11 .ro 0
def Log.LOG_LOST : Row := row 0x04C 0 32 .rc 0
def Log.LOG_THRESH : Row := row 0x050 0 11 .rw 768
def Log.LOG_SEQ : Row := row 0x054 0 16 .ro 0

/-- Every field of the central error log (Table 02.13). -/
def Log.table : List Row :=
  [Log.LOG_WR, Log.LOG_RD, Log.LOG_FILL, Log.LOG_LOST, Log.LOG_THRESH, Log.LOG_SEQ]

/-! ### Tp: timing port (Table 03.5) -/

def Tp.TURN_LEN : Row := row 0x040 0 16 .rwl 0
def Tp.TURN_BCAST_EN : Row := row 0x040 16 1 .rw 1
def Tp.LAYBY_START : Row := row 0x044 0 16 .rw 0
def Tp.LAYBY_LEN : Row := row 0x044 16 16 .rw 0
def Tp.DLY : Row := row 0x048 0 9 .rw 0
def Tp.STATE : Row := row 0x04C 0 3 .ro 0
def Tp.IN_LAYBY : Row := row 0x04C 3 1 .ro 0
def Tp.LAYBY_BAD : Row := row 0x04C 4 1 .ro 0
def Tp.LOAD_PEND : Row := row 0x04C 5 1 .ro 0
def Tp.TURN_SUSPECT : Row := row 0x04C 6 1 .ro 0
def Tp.SW_LOAD_LOST : Row := row 0x04C 7 1 .w1c 0
def Tp.WAIT_TIMING : Row := row 0x04C 8 1 .ro 0
def Tp.START_LATE : Row := row 0x04C 9 1 .ro 0
def Tp.TURN_LEN_USED : Row := row 0x04C 16 16 .ro 0
def Tp.TURN : Row := row 0x050 0 32 .ro 0
def Tp.BUCKET : Row := row 0x054 0 16 .ro 0
def Tp.TIME64_LO : Row := row 0x058 0 32 .ro 0
def Tp.TIME64_HI : Row := row 0x05C 0 32 .ro 0
def Tp.TURN_STAGE : Row := row 0x060 0 32 .rw 0
def Tp.TURN_LOAD : Row := row 0x064 0 1 .wo 0
def Tp.CNT_CHECK : Row := row 0x068 0 16 .rc 0
def Tp.CNT_MARKER : Row := row 0x068 16 16 .rc 0
def Tp.CNT_LOCKLOSS : Row := row 0x06C 0 16 .rc 0
def Tp.CNT_CMD_BAD : Row := row 0x06C 16 16 .rc 0
def Tp.LAST_CMD : Row := row 0x070 0 8 .ro 0
def Tp.LAST_ARG : Row := row 0x070 8 16 .ro 0
def Tp.LOCK_TURN : Row := row 0x074 0 32 .ro 0
def Tp.DONE_RELEASE : Row := row 0x078 0 16 .rw 0
def Tp.DONE_SAMPLE : Row := row 0x078 16 16 .rw 65535
def Tp.START_TURN : Row := row 0x07C 0 32 .ro 0
def Tp.TMG_INS : Row := row 0x080 0 16 .ro 1850
def Tp.HOLD_MAX : Row := row 0x084 0 13 .rw 1024

/-- Every field of the timing port (Table 03.5). -/
def Tp.table : List Row :=
  [Tp.TURN_LEN, Tp.TURN_BCAST_EN, Tp.LAYBY_START, Tp.LAYBY_LEN, Tp.DLY, Tp.STATE, Tp.IN_LAYBY, Tp.LAYBY_BAD, Tp.LOAD_PEND, Tp.TURN_SUSPECT, Tp.SW_LOAD_LOST, Tp.WAIT_TIMING, Tp.START_LATE, Tp.TURN_LEN_USED, Tp.TURN, Tp.BUCKET, Tp.TIME64_LO, Tp.TIME64_HI, Tp.TURN_STAGE, Tp.TURN_LOAD, Tp.CNT_CHECK, Tp.CNT_MARKER, Tp.CNT_LOCKLOSS, Tp.CNT_CMD_BAD] ++
  [Tp.LAST_CMD, Tp.LAST_ARG, Tp.LOCK_TURN, Tp.DONE_RELEASE, Tp.DONE_SAMPLE, Tp.START_TURN, Tp.TMG_INS, Tp.HOLD_MAX]

/-! ### Ms: milestone scheduler (Table 03.7) -/

def Ms.ENTRIES : Row := row 0x040 0 9 .ro 256
def Ms.ARM_LEAD : Row := row 0x040 16 16 .ro 2
def Ms.MS_CNT_FIRED : Row := row 0x044 0 32 .rc 0
def Ms.MS_CNT_MISSED : Row := row 0x048 0 16 .rc 0
def Ms.MS_CNT_CONFLICT : Row := row 0x048 16 16 .rc 0
def Ms.MS_CNT_FAIL : Row := row 0x04C 0 16 .rc 0
def Ms.LAST_ENTRY : Row := row 0x050 0 8 .ro 0
def Ms.LAST_BUCKET : Row := row 0x050 16 16 .ro 0
def Ms.LAST_TURN : Row := row 0x054 0 32 .ro 0
def Ms.ARMED : Row := rows 0x040 0 32 .ro 0 0x4 8
def Ms.FIRED : Row := rows 0x060 0 32 .w1c 0 0x4 8
def Ms.MISSED : Row := rows 0x080 0 32 .w1c 0 0x4 8
def Ms.FAILED : Row := rows 0x0A0 0 32 .w1c 0 0x4 8

/-- Every field of the milestone scheduler (Table 03.7). -/
def Ms.table : List Row :=
  [Ms.ENTRIES, Ms.ARM_LEAD, Ms.MS_CNT_FIRED, Ms.MS_CNT_MISSED, Ms.MS_CNT_CONFLICT, Ms.MS_CNT_FAIL, Ms.LAST_ENTRY, Ms.LAST_BUCKET, Ms.LAST_TURN]


/-- Every field of the milestone scheduler (Table 03.7). -/
def Ms.table2 : List Row :=
  [Ms.ARMED, Ms.FIRED, Ms.MISSED, Ms.FAILED]

/-! ### MsE: milestone entry (Table 03.8) -/

def MsE.ARM : Row := rows 0x400 0 1 .rw 0 0x10 128
def MsE.KIND : Row := rows 0x400 1 3 .rw 0 0x10 128
def MsE.LATE_FIRE : Row := rows 0x400 4 1 .rw 0 0x10 128
def MsE.ONCE : Row := rows 0x400 5 1 .rw 0 0x10 128
def MsE.IRQ : Row := rows 0x400 6 1 .rw 0 0x10 128
def MsE.REPEAT : Row := rows 0x400 7 1 .rw 0 0x10 128
def MsE.SRC : Row := rows 0x400 8 8 .rw 0 0x10 128
def MsE.ST : Row := rows 0x400 16 2 .ro 0 0x10 128
def MsE.WHY : Row := rows 0x400 18 4 .ro 0 0x10 128
def MsE.WHEN : Row := rows 0x404 0 32 .rw 0 0x10 128
def MsE.AT : Row := rows 0x408 0 16 .rw 0 0x10 128
def MsE.ACTION : Row := rows 0x40C 0 4 .rw 0 0x10 128
def MsE.TARGET : Row := rows 0x40C 4 8 .rw 0 0x10 128
def MsE.CTX : Row := rows 0x40C 12 3 .rw 0 0x10 128
def MsE.PARAM : Row := rows 0x40C 16 16 .rw 0 0x10 128

/-- Every field of the milestone entry (Table 03.8). -/
def MsE.table : List Row :=
  [MsE.ARM, MsE.KIND, MsE.LATE_FIRE, MsE.ONCE, MsE.IRQ, MsE.REPEAT, MsE.SRC, MsE.ST, MsE.WHY, MsE.WHEN, MsE.AT, MsE.ACTION, MsE.TARGET, MsE.CTX, MsE.PARAM]

/-! ### Tmr: timer (Table 03.10) -/

def Tmr.T_EN : Row := rows 0x100 0 1 .rw 0 0x10 32
def Tmr.T_UNIT : Row := rows 0x100 1 2 .rw 0 0x10 32
def Tmr.T_AUTO : Row := rows 0x100 3 1 .rw 0 0x10 32
def Tmr.T_IRQ : Row := rows 0x100 4 1 .rw 0 0x10 32
def Tmr.T_FAB : Row := rows 0x100 5 1 .rw 0 0x10 32
def Tmr.T_RESTART : Row := rows 0x100 6 1 .wo 0 0x10 32
def Tmr.T_EXP : Row := rows 0x100 7 1 .w1c 0 0x10 32
def Tmr.T_REGION : Row := rows 0x100 8 6 .rw 0 0x10 32
def Tmr.T_MASK : Row := rows 0x100 16 16 .rw 0 0x10 32
def Tmr.T_LOAD : Row := rows 0x104 0 32 .rw 0 0x10 32
def Tmr.T_COUNT : Row := rows 0x108 0 32 .ro 0 0x10 32

/-- Every field of the timer (Table 03.10). -/
def Tmr.table : List Row :=
  [Tmr.T_EN, Tmr.T_UNIT, Tmr.T_AUTO, Tmr.T_IRQ, Tmr.T_FAB, Tmr.T_RESTART, Tmr.T_EXP, Tmr.T_REGION, Tmr.T_MASK, Tmr.T_LOAD, Tmr.T_COUNT]

/-! ### Clk: clock controller (Table 04.6) -/

def Clk.GATE_TMO : Row := row 0x040 0 10 .rw 50
def Clk.CNT_SWITCH : Row := row 0x044 0 16 .rc 0
def Clk.CNT_REFUSED : Row := row 0x044 16 16 .rc 0
def Clk.CNT_OLDSTOP : Row := row 0x048 0 16 .rc 0
def Clk.CNT_GAP : Row := row 0x048 16 16 .rc 0
def Clk.TREES : Row := row 0x04C 0 8 .ro 177
def Clk.FCS : Row := row 0x04C 8 8 .ro 16
def Clk.PRELOCK : Row := row 0x04C 16 1 .ro 1
def Clk.BUCKET_KHZ : Row := row 0x050 0 32 .ro 0
def Clk.SRC : Row := rows 0x100 0 3 .rw 0 0x4 177
def Clk.DIV : Row := rows 0x100 3 3 .rw 0 0x4 177
def Clk.ACT_SRC : Row := rows 0x100 6 3 .ro 0 0x4 177
def Clk.SW_BUSY : Row := rows 0x100 9 1 .ro 0 0x4 177
def Clk.OLD_STOPPED : Row := rows 0x100 10 1 .w1c 0 0x4 177
def Clk.SW_REFUSED : Row := rows 0x100 11 1 .w1c 0 0x4 177
def Clk.CORE_RUN : Row := rows 0x100 12 1 .rw 1 0x4 177
def Clk.CORE_SLEEP : Row := rows 0x100 13 1 .rw 0 0x4 177
def Clk.CORE_DEEP : Row := rows 0x100 14 1 .rw 0 0x4 177
def Clk.PORT_RUN : Row := rows 0x100 15 1 .rw 1 0x4 177
def Clk.PORT_SLEEP : Row := rows 0x100 16 1 .rw 1 0x4 177
def Clk.PORT_DEEP : Row := rows 0x100 17 1 .rw 0 0x4 177
def Clk.KEEP_RUN : Row := rows 0x100 18 1 .rw 1 0x4 177
def Clk.KEEP_SLEEP : Row := rows 0x100 19 1 .rw 1 0x4 177
def Clk.KEEP_DEEP : Row := rows 0x100 20 1 .rw 1 0x4 177
def Clk.OPEN : Row := rows 0x100 21 1 .ro 0 0x4 177
def Clk.OVER_CEIL : Row := rows 0x100 22 1 .ro 0 0x4 177
def Clk.CLOSING : Row := rows 0x100 23 1 .ro 0 0x4 177
def Clk.FC_EN : Row := rows 0x400 0 1 .rw 0 0x10 16
def Clk.FC_CONT : Row := rows 0x400 1 1 .rw 0 0x10 16
def Clk.FC_DONE : Row := rows 0x400 2 1 .w1c 0 0x10 16
def Clk.FC_SEL : Row := rows 0x400 8 8 .rw 0 0x10 16
def Clk.FC_WIN : Row := rows 0x400 16 4 .rw 0 0x10 16
def Clk.FC_COUNT : Row := rows 0x404 0 32 .ro 0 0x10 16

/-- Every field of the clock controller (Table 04.6). -/
def Clk.table : List Row :=
  [Clk.GATE_TMO, Clk.CNT_SWITCH, Clk.CNT_REFUSED, Clk.CNT_OLDSTOP, Clk.CNT_GAP, Clk.TREES, Clk.FCS, Clk.PRELOCK, Clk.BUCKET_KHZ, Clk.SRC, Clk.DIV, Clk.ACT_SRC, Clk.SW_BUSY, Clk.OLD_STOPPED, Clk.SW_REFUSED, Clk.CORE_RUN, Clk.CORE_SLEEP, Clk.CORE_DEEP, Clk.PORT_RUN, Clk.PORT_SLEEP, Clk.PORT_DEEP, Clk.KEEP_RUN, Clk.KEEP_SLEEP, Clk.KEEP_DEEP] ++
  [Clk.OPEN, Clk.OVER_CEIL, Clk.CLOSING, Clk.FC_EN, Clk.FC_CONT, Clk.FC_DONE, Clk.FC_SEL, Clk.FC_WIN, Clk.FC_COUNT]

/-! ### Pll: PLL (Table 04.7) -/

def Pll.REF_SEL : Row := row 0x040 0 2 .rw 0
def Pll.MULT : Row := row 0x040 2 11 .rw 0
def Pll.MIRROR : Row := row 0x040 16 5 .rw 31
def Pll.READY : Row := row 0x044 0 1 .ro 0
def Pll.LOL : Row := row 0x044 1 1 .w1c 0
def Pll.MULT_REFUSED : Row := row 0x044 2 1 .w1c 0
def Pll.REF_OK : Row := row 0x044 3 1 .ro 0
def Pll.LOL_COUNT : Row := row 0x044 16 16 .rc 0
def Pll.LOCK_US : Row := row 0x048 0 16 .ro 0

/-- Every field of the PLL (Table 04.7). -/
def Pll.table : List Row :=
  [Pll.REF_SEL, Pll.MULT, Pll.MIRROR, Pll.READY, Pll.LOL, Pll.MULT_REFUSED, Pll.REF_OK, Pll.LOL_COUNT, Pll.LOCK_US]

/-! ### Rgn: fabric region (Tables 05.6 and 06.6) -/

def Rgn.ROWS : Row := row 0x040 0 9 .ro 320
def Rgn.COLS : Row := row 0x040 9 7 .ro 64
def Rgn.PHYS_COLS : Row := row 0x040 16 7 .ro 66
def Rgn.CONTEXTS : Row := row 0x040 23 4 .ro 8
def Rgn.CW_CONFLICT : Row := row 0x044 0 1 .w1c 0
def Rgn.CW_PERSIST : Row := row 0x044 1 1 .ro 0
def Rgn.REMAP_PEND : Row := row 0x044 2 1 .ro 0
def Rgn.CAP_DONE : Row := row 0x044 3 1 .w1c 0
def Rgn.BM_COLLIDE : Row := row 0x044 4 1 .w1c 0
def Rgn.ATT_REFUSED : Row := row 0x044 5 1 .w1c 0
def Rgn.CW_DEAD_CNT : Row := row 0x044 16 16 .ro 0
def Rgn.CW_CONF_CNT : Row := row 0x048 0 16 .rc 0
def Rgn.BM_COLL_CNT : Row := row 0x048 16 16 .rc 0
def Rgn.CW_COL : Row := row 0x04C 0 6 .ro 0
def Rgn.CW_ROW : Row := row 0x04C 6 9 .ro 0
def Rgn.CW_IDX : Row := row 0x04C 15 6 .ro 0
def Rgn.CAP_REQ : Row := row 0x050 0 1 .wo 0
def Rgn.CAP_SEQ : Row := row 0x050 16 16 .ro 0
def Rgn.CAP_TURN : Row := row 0x054 0 32 .ro 0
def Rgn.CAP_BUCKET : Row := row 0x058 0 16 .ro 0
def Rgn.CAP_EDGE : Row := row 0x058 16 16 .ro 0
def Rgn.MAP0 : Row := row 0x05C 0 7 .ro 127
def Rgn.MAP1 : Row := row 0x05C 8 7 .ro 127
def Rgn.PEND_COL : Row := row 0x05C 16 7 .ro 127
def Rgn.BM_LAST : Row := row 0x060 0 10 .ro 0
def Rgn.ATT_ENTRY : Row := row 0x064 0 4 .ro 0
def Rgn.ATT_CTX : Row := row 0x064 4 3 .ro 0
def Rgn.ATT_WHY : Row := row 0x064 7 4 .ro 0
def Rgn.TYPE : Row := rows 0x400 0 4 .rw 0 0x4 128
def Rgn.INST : Row := rows 0x400 4 8 .rw 0 0x4 128
def Rgn.BASE_ROW : Row := rows 0x400 12 9 .rw 0 0x4 128
def Rgn.REFUSED : Row := rows 0x400 30 1 .ro 0 0x4 128
def Rgn.FAB_REQ_EN : Row := row 0x008 16 1 .rw 0
def Rgn.LIVE_CTX : Row := row 0x00C 16 3 .ro 0
def Rgn.STG_CTX : Row := row 0x00C 19 3 .ro 0
def Rgn.STG_VALID : Row := row 0x00C 22 1 .ro 0
def Rgn.STAGING : Row := row 0x00C 23 1 .ro 0
def Rgn.LIVE_UNSCRUBBED : Row := row 0x00C 24 1 .ro 0
def Rgn.RESTAGE_CUT : Row := row 0x00C 25 1 .w1c 0
def Rgn.STG_REQ_CTX : Row := row 0x100 0 3 .wo 0
def Rgn.STG_GO : Row := row 0x100 3 1 .wo 0
def Rgn.STG_PEND : Row := row 0x100 4 1 .ro 0
def Rgn.SW_REQ_CTX : Row := row 0x104 0 3 .wo 0
def Rgn.SW_GO : Row := row 0x104 3 1 .wo 0
def Rgn.SW_PEND : Row := row 0x104 4 1 .ro 0
def Rgn.SW_SEQ : Row := row 0x108 0 32 .ro 0
def Rgn.SW_REF_CNT : Row := row 0x10C 0 16 .rc 0
def Rgn.STG_REF_CNT : Row := row 0x10C 16 16 .rc 0
def Rgn.LAST_SW_TURN : Row := row 0x110 0 32 .ro 0
def Rgn.LAST_SW_BUCKET : Row := row 0x114 0 16 .ro 0
def Rgn.LAST_SW_EDGE : Row := row 0x114 16 16 .ro 0
def Rgn.SW_WHY : Row := row 0x118 0 4 .ro 0
def Rgn.SW_SRC : Row := row 0x118 4 2 .ro 0
def Rgn.SW_RCTX : Row := row 0x118 6 3 .ro 0
def Rgn.STG_WHY : Row := row 0x118 9 4 .ro 0
def Rgn.STG_SRC : Row := row 0x118 13 2 .ro 0
def Rgn.STG_RCTX : Row := row 0x118 15 3 .ro 0
def Rgn.CSTATE : Row := rows 0x120 0 3 .ro 0 0x4 8
def Rgn.RESTORE : Row := rows 0x120 3 1 .rw 1 0x4 8
def Rgn.INV_CAUSE : Row := rows 0x120 4 4 .ro 0 0x4 8
def Rgn.GEN : Row := rows 0x120 8 8 .ro 0 0x4 8
def Rgn.VALID_TURN : Row := rows 0x140 0 32 .ro 0 0x4 8
def Rgn.SB_CE_CNT : Row := row 0x160 0 16 .rc 0
def Rgn.SB_UE_CNT : Row := row 0x160 16 16 .rc 0
def Rgn.SB_X : Row := row 0x164 0 6 .ro 0
def Rgn.SB_R : Row := row 0x164 6 9 .ro 0
def Rgn.SB_BANK : Row := row 0x164 15 4 .ro 0
def Rgn.SB_BYTE : Row := row 0x164 19 1 .ro 0

/-- Every field of the fabric region (Tables 05.6 and 06.6). -/
def Rgn.table : List Row :=
  [Rgn.ROWS, Rgn.COLS, Rgn.PHYS_COLS, Rgn.CONTEXTS, Rgn.CW_CONFLICT, Rgn.CW_PERSIST, Rgn.REMAP_PEND, Rgn.CAP_DONE, Rgn.BM_COLLIDE, Rgn.ATT_REFUSED, Rgn.CW_DEAD_CNT, Rgn.CW_CONF_CNT, Rgn.BM_COLL_CNT, Rgn.CW_COL, Rgn.CW_ROW, Rgn.CW_IDX, Rgn.CAP_REQ, Rgn.CAP_SEQ, Rgn.CAP_TURN, Rgn.CAP_BUCKET, Rgn.CAP_EDGE, Rgn.MAP0, Rgn.MAP1, Rgn.PEND_COL] ++
  [Rgn.BM_LAST, Rgn.ATT_ENTRY, Rgn.ATT_CTX, Rgn.ATT_WHY, Rgn.TYPE, Rgn.INST, Rgn.BASE_ROW, Rgn.REFUSED, Rgn.FAB_REQ_EN, Rgn.LIVE_CTX, Rgn.STG_CTX, Rgn.STG_VALID, Rgn.STAGING, Rgn.LIVE_UNSCRUBBED, Rgn.RESTAGE_CUT, Rgn.STG_REQ_CTX, Rgn.STG_GO, Rgn.STG_PEND, Rgn.SW_REQ_CTX, Rgn.SW_GO, Rgn.SW_PEND, Rgn.SW_SEQ, Rgn.SW_REF_CNT, Rgn.STG_REF_CNT] ++
  [Rgn.LAST_SW_TURN, Rgn.LAST_SW_BUCKET, Rgn.LAST_SW_EDGE, Rgn.SW_WHY, Rgn.SW_SRC, Rgn.SW_RCTX, Rgn.STG_WHY, Rgn.STG_SRC, Rgn.STG_RCTX, Rgn.CSTATE, Rgn.RESTORE, Rgn.INV_CAUSE, Rgn.GEN, Rgn.VALID_TURN, Rgn.SB_CE_CNT, Rgn.SB_UE_CNT, Rgn.SB_X, Rgn.SB_R, Rgn.SB_BANK, Rgn.SB_BYTE]

/-! ### Ld: loader (Table 07.9) -/

def Ld.READY : Row := row 0x040 0 1 .ro 0
def Ld.SYNCED : Row := row 0x040 1 1 .ro 0
def Ld.FULL : Row := row 0x040 2 1 .ro 0
def Ld.LOADED : Row := row 0x040 3 1 .ro 0
def Ld.FENCE_VIOLATION : Row := row 0x040 4 1 .w1c 0
def Ld.PROFILE_REFUSED : Row := row 0x040 5 1 .w1c 0
def Ld.CRC_ERR : Row := row 0x040 6 1 .w1c 0
def Ld.CHECK_REJECT : Row := row 0x040 7 1 .w1c 0
def Ld.LIVE_REFUSED : Row := row 0x040 8 1 .w1c 0
def Ld.AUTH_FAIL : Row := row 0x040 9 1 .w1c 0
def Ld.ABORTED : Row := row 0x040 10 1 .w1c 0
def Ld.TEMP_HOLD : Row := row 0x040 11 1 .ro 0
def Ld.SRC_BUSY : Row := row 0x040 12 1 .w1c 0
def Ld.IMAGE_LATE : Row := row 0x040 13 1 .w1c 0
def Ld.EARLY_DROP : Row := row 0x040 14 1 .w1c 0
def Ld.CFG_ERR : Row := row 0x040 15 1 .ro 0
def Ld.PHASE : Row := row 0x040 16 3 .ro 0
def Ld.SRC : Row := row 0x040 19 2 .ro 0
def Ld.WHY : Row := row 0x044 0 4 .ro 0
def Ld.CHK_WHY : Row := row 0x044 4 3 .ro 0
def Ld.ABORT_FULL : Row := row 0x044 7 1 .ro 0
def Ld.ABORT_SRC : Row := row 0x044 8 2 .ro 0
def Ld.ABORT_FAR : Row := row 0x048 0 32 .ro 0
def Ld.RFENCE_LO : Row := row 0x04C 0 32 .auth 0
def Ld.RFENCE_HI : Row := row 0x050 0 8 .auth 0
def Ld.RFENCE_CTX : Row := row 0x050 8 8 .auth 0
def Ld.CNT_FRAMES : Row := row 0x054 0 32 .ro 0
def Ld.CNT_ABORT : Row := row 0x058 0 16 .rc 0
def Ld.CNT_SKIP : Row := row 0x058 16 16 .rc 0
def Ld.STALL_TMO : Row := row 0x05C 0 16 .rw 1000
def Ld.TEMP_HOLD_MAX : Row := row 0x05C 16 16 .rw 10000
def Ld.IMAGE_ID : Row := row 0x060 0 32 .ro 0
def Ld.IMAGE_TIMER : Row := row 0x064 0 16 .ro 0
def Ld.DONE_TIMER : Row := row 0x064 16 16 .ro 0
def Ld.RB_FAR : Row := row 0x068 0 32 .rw 0
def Ld.RB_GO : Row := row 0x06C 0 1 .wo 0
def Ld.RB_BUSY : Row := row 0x06C 1 1 .ro 0
def Ld.RB_DONE : Row := row 0x06C 2 1 .w1c 0
def Ld.RB_WHY : Row := row 0x06C 3 3 .ro 0
def Ld.READBACK_EN : Row := row 0x06C 6 1 .ro 0
def Ld.START_CTX : Row := row 0x06C 7 3 .ro 0

/-- Every field of the loader (Table 07.9). -/
def Ld.table : List Row :=
  [Ld.READY, Ld.SYNCED, Ld.FULL, Ld.LOADED, Ld.FENCE_VIOLATION, Ld.PROFILE_REFUSED, Ld.CRC_ERR, Ld.CHECK_REJECT, Ld.LIVE_REFUSED, Ld.AUTH_FAIL, Ld.ABORTED, Ld.TEMP_HOLD, Ld.SRC_BUSY, Ld.IMAGE_LATE, Ld.EARLY_DROP, Ld.CFG_ERR, Ld.PHASE, Ld.SRC, Ld.WHY, Ld.CHK_WHY, Ld.ABORT_FULL, Ld.ABORT_SRC, Ld.ABORT_FAR, Ld.RFENCE_LO] ++
  [Ld.RFENCE_HI, Ld.RFENCE_CTX, Ld.CNT_FRAMES, Ld.CNT_ABORT, Ld.CNT_SKIP, Ld.STALL_TMO, Ld.TEMP_HOLD_MAX, Ld.IMAGE_ID, Ld.IMAGE_TIMER, Ld.DONE_TIMER, Ld.RB_FAR, Ld.RB_GO, Ld.RB_BUSY, Ld.RB_DONE, Ld.RB_WHY, Ld.READBACK_EN, Ld.START_CTX]

/-! ### Slv: slave ports (Table 07.10) -/

def Slv.MODE : Row := row 0x040 0 2 .ro 0
def Slv.SSEL_LOW : Row := row 0x040 2 1 .ro 0
def Slv.PSREADY : Row := row 0x040 3 1 .ro 0
def Slv.SER_WORDS : Row := row 0x044 0 32 .ro 0
def Slv.PAR_WORDS : Row := row 0x048 0 32 .ro 0
def Slv.SER_PARTIAL : Row := row 0x04C 0 16 .rc 0
def Slv.SER_DROP : Row := row 0x04C 16 16 .rc 0

/-- Every field of the slave ports (Table 07.10). -/
def Slv.table : List Row :=
  [Slv.MODE, Slv.SSEL_LOW, Slv.PSREADY, Slv.SER_WORDS, Slv.PAR_WORDS, Slv.SER_PARTIAL, Slv.SER_DROP]

/-! ### Te: trigger engine (Table 08.10) -/

def Te.LANES : Row := row 0x040 0 6 .ro 32
def Te.DM_ROWS : Row := row 0x040 6 12 .ro 2048
def Te.IM_WORDS : Row := row 0x040 18 12 .ro 2048
def Te.LOGICAL : Row := row 0x044 0 7 .ro 127
def Te.START_PC : Row := row 0x048 0 11 .rw 0
def Te.START_GO : Row := row 0x048 11 1 .wo 0
def Te.HALT_GO : Row := row 0x048 12 1 .wo 0
def Te.START_PEND : Row := row 0x048 13 1 .ro 0
def Te.TVEC_EN : Row := row 0x048 14 1 .rw 0
def Te.TVEC : Row := row 0x048 15 11 .rw 0
def Te.START_WHY : Row := row 0x048 26 3 .ro 0
def Te.ESTATE : Row := row 0x04C 0 3 .ro 0
def Te.IN_HANDLER : Row := row 0x04C 3 1 .ro 0
def Te.CAUSE : Row := row 0x04C 4 4 .ro 0
def Te.PC : Row := row 0x04C 8 11 .ro 0
def Te.EPC : Row := row 0x04C 19 11 .ro 0
def Te.IN_TMO : Row := row 0x050 0 16 .rw 0
def Te.OUT_TMO : Row := row 0x050 16 16 .rw 0
def Te.FMT : Row := row 0x054 0 4 .rw 0
def Te.FLUSH : Row := row 0x054 4 4 .wo 0
def Te.AFULL_LVL : Row := row 0x054 8 6 .rw 4
def Te.IN0_LVL : Row := row 0x058 0 6 .ro 0
def Te.IN1_LVL : Row := row 0x058 6 6 .ro 0
def Te.OUT0_LVL : Row := row 0x058 12 6 .ro 0
def Te.OUT1_LVL : Row := row 0x058 18 6 .ro 0
def Te.IN_DROP_CNT : Row := row 0x05C 0 16 .rc 0
def Te.TRAP_CNT : Row := row 0x05C 16 16 .rc 0
def Te.ACC_SAT_CNT : Row := row 0x060 0 16 .rc 0
def Te.ST_SAT_CNT : Row := row 0x060 16 16 .rc 0
def Te.ACC_SAT : Row := row 0x064 0 1 .w1c 0
def Te.ST_SAT : Row := row 0x064 1 1 .w1c 0
def Te.IN_DROP : Row := row 0x064 2 1 .w1c 0
def Te.START_REFUSED : Row := row 0x064 3 1 .w1c 0
def Te.RELOAD_NEEDED : Row := row 0x064 4 1 .ro 0
def Te.ROW_SPARED : Row := row 0x064 5 1 .w1c 0
def Te.TRAP_ARG : Row := row 0x064 6 8 .ro 0
def Te.DM_CE_CNT : Row := row 0x068 0 16 .rc 0
def Te.DM_UE_CNT : Row := row 0x068 16 16 .rc 0
def Te.IM_CE_CNT : Row := row 0x06C 0 16 .rc 0
def Te.IM_UE_CNT : Row := row 0x06C 16 16 .rc 0
def Te.LAST_ROW : Row := row 0x070 0 11 .ro 0
def Te.LAST_MEM : Row := row 0x070 11 1 .ro 0
def Te.LAST_LANE : Row := row 0x070 12 5 .ro 0
def Te.DM_SPARES : Row := row 0x074 0 5 .ro 16
def Te.IM_SPARES : Row := row 0x074 5 5 .ro 16
def Te.FORCED_CNT : Row := row 0x078 0 16 .rc 0
def Te.SCRUB_EN : Row := row 0x078 16 1 .rw 1
def Te.CYCLES : Row := row 0x07C 0 32 .ro 0
def Te.STALLS : Row := row 0x080 0 32 .ro 0
def Te.AG_BASE : Row := rows 0x100 0 11 .ro 0 0x8 4
def Te.AG_LEN : Row := rows 0x100 11 12 .ro 0 0x8 4
def Te.AG_IDX : Row := rows 0x104 0 11 .ro 0 0x8 4
def Te.AG_STRIDE : Row := rows 0x104 12 12 .ro 0 0x8 4
def Te.SREG : Row := rows 0x140 0 32 .ro 0 0x4 16

/-- Every field of the trigger engine (Table 08.10). -/
def Te.table : List Row :=
  [Te.LANES, Te.DM_ROWS, Te.IM_WORDS, Te.LOGICAL, Te.START_PC, Te.START_GO, Te.HALT_GO, Te.START_PEND, Te.TVEC_EN, Te.TVEC, Te.START_WHY, Te.ESTATE, Te.IN_HANDLER, Te.CAUSE, Te.PC, Te.EPC, Te.IN_TMO, Te.OUT_TMO, Te.FMT, Te.FLUSH, Te.AFULL_LVL, Te.IN0_LVL, Te.IN1_LVL, Te.OUT0_LVL] ++
  [Te.OUT1_LVL, Te.IN_DROP_CNT, Te.TRAP_CNT, Te.ACC_SAT_CNT, Te.ST_SAT_CNT, Te.ACC_SAT, Te.ST_SAT, Te.IN_DROP, Te.START_REFUSED, Te.RELOAD_NEEDED, Te.ROW_SPARED, Te.TRAP_ARG, Te.DM_CE_CNT, Te.DM_UE_CNT, Te.IM_CE_CNT, Te.IM_UE_CNT, Te.LAST_ROW, Te.LAST_MEM, Te.LAST_LANE, Te.DM_SPARES, Te.IM_SPARES, Te.FORCED_CNT, Te.SCRUB_EN, Te.CYCLES] ++
  [Te.STALLS, Te.AG_BASE, Te.AG_LEN, Te.AG_IDX, Te.AG_STRIDE, Te.SREG]

/-! ### Pk: packer (Table 09.6) -/

def Pk.MAX_LEN : Row := row 0x040 0 14 .rw 8192
def Pk.RING_BASE : Row := row 0x044 0 23 .rw 0
def Pk.RING_LEN : Row := row 0x048 0 23 .rw 0
def Pk.DQ_FILL : Row := row 0x04C 0 7 .ro 0
def Pk.BUSY : Row := row 0x04C 7 1 .ro 0
def Pk.CUR_MODE : Row := row 0x04C 8 4 .ro 0
def Pk.BYPASS : Row := row 0x04C 12 1 .ro 0
def Pk.DQ_HWM : Row := row 0x04C 16 7 .rc 0
def Pk.EVT_CNT_LO : Row := row 0x050 0 32 .ro 0
def Pk.EVT_CNT_HI : Row := row 0x054 0 16 .ro 0
def Pk.DROP_CNT : Row := row 0x058 0 16 .rc 0
def Pk.DESC_DROP_CNT : Row := row 0x058 16 16 .rc 0
def Pk.FALLBACK_CNT : Row := row 0x05C 0 16 .rc 0
def Pk.POISON_CNT : Row := row 0x05C 16 16 .rc 0
def Pk.IN_BYTES_LO : Row := row 0x060 0 32 .ro 0
def Pk.IN_BYTES_HI : Row := row 0x064 0 32 .ro 0
def Pk.OUT_BYTES_LO : Row := row 0x068 0 32 .ro 0
def Pk.OUT_BYTES_HI : Row := row 0x06C 0 32 .ro 0
def Pk.LAST_WHY : Row := row 0x070 0 4 .ro 0
def Pk.LAST_EVNO_LO : Row := row 0x074 0 32 .ro 0
def Pk.LAST_EVNO_HI : Row := row 0x078 0 16 .ro 0
def Pk.SRC_DONE_LO : Row := row 0x07C 0 32 .ro 0
def Pk.SRC_DONE_HI : Row := row 0x080 0 16 .ro 0
def Pk.EV_DROP : Row := row 0x084 0 1 .w1c 0
def Pk.DESC_DROP : Row := row 0x084 1 1 .w1c 0
def Pk.FALLBACK : Row := row 0x084 2 1 .w1c 0
def Pk.POISON_DROP : Row := row 0x084 3 1 .w1c 0

/-- Every field of the packer (Table 09.6). -/
def Pk.table : List Row :=
  [Pk.MAX_LEN, Pk.RING_BASE, Pk.RING_LEN, Pk.DQ_FILL, Pk.BUSY, Pk.CUR_MODE, Pk.BYPASS, Pk.DQ_HWM, Pk.EVT_CNT_LO, Pk.EVT_CNT_HI, Pk.DROP_CNT, Pk.DESC_DROP_CNT, Pk.FALLBACK_CNT, Pk.POISON_CNT, Pk.IN_BYTES_LO, Pk.IN_BYTES_HI, Pk.OUT_BYTES_LO, Pk.OUT_BYTES_HI, Pk.LAST_WHY, Pk.LAST_EVNO_LO, Pk.LAST_EVNO_HI, Pk.SRC_DONE_LO, Pk.SRC_DONE_HI, Pk.EV_DROP] ++
  [Pk.DESC_DROP, Pk.FALLBACK, Pk.POISON_DROP]

/-! ### Shl: shallot (Table 10.10) -/

def Shl.PATTERNS : Row := row 0x040 0 19 .ro 262144
def Shl.SLICES : Row := row 0x040 19 4 .ro 4
def Shl.LAYERS : Row := row 0x040 23 4 .ro 8
def Shl.HIT_LIMIT : Row := row 0x044 0 7 .ro 64
def Shl.MIN_C : Row := row 0x044 7 5 .ro 10
def Shl.THRESH : Row := row 0x048 0 4 .rw 7
def Shl.REQ_MASK : Row := row 0x048 4 8 .rw 0
def Shl.ROAD_DELAY : Row := row 0x048 12 7 .rw 3
def Shl.WIN_BANK : Row := row 0x04C 0 1 .rw 0
def Shl.SCRUB_EN : Row := row 0x04C 1 1 .rw 1
def Shl.AUTO_COMMIT : Row := row 0x04C 2 1 .rw 0
def Shl.SSTATE : Row := row 0x050 0 3 .ro 0
def Shl.ACT_BANK : Row := row 0x050 3 1 .ro 0
def Shl.ACT_VALID : Row := row 0x050 4 1 .ro 0
def Shl.BANK0_STATE : Row := row 0x050 5 3 .ro 0
def Shl.BANK1_STATE : Row := row 0x050 8 3 .ro 0
def Shl.THROTTLED : Row := row 0x050 11 1 .ro 0
def Shl.FILL_PEND : Row := row 0x050 12 1 .ro 0
def Shl.C : Row := row 0x050 13 5 .ro 0
def Shl.VERIFY_GO : Row := row 0x054 0 1 .wo 0
def Shl.V_BANK : Row := row 0x054 1 1 .wo 0
def Shl.COMMIT_GO : Row := row 0x054 2 1 .wo 0
def Shl.C_BANK : Row := row 0x054 3 1 .wo 0
def Shl.EXP_CRC0 : Row := row 0x058 0 32 .rw 0
def Shl.EXP_CRC1 : Row := row 0x05C 0 32 .rw 0
def Shl.GOT_CRC : Row := row 0x060 0 32 .ro 0
def Shl.HIT_OVF_CNT : Row := row 0x064 0 16 .rc 0
def Shl.HIT_DISC_CNT : Row := row 0x064 16 16 .rc 0
def Shl.ROAD_OVF_CNT : Row := row 0x068 0 16 .rc 0
def Shl.FIX_CNT : Row := row 0x068 16 16 .rc 0
def Shl.SPARES_FREE : Row := row 0x06C 0 13 .ro 4096
def Shl.LOST_CNT : Row := row 0x06C 16 16 .ro 0
def Shl.SET_SEQ : Row := row 0x070 0 32 .ro 0
def Shl.ROAD_CNT_LO : Row := row 0x074 0 32 .ro 0
def Shl.ROAD_CNT_HI : Row := row 0x078 0 16 .ro 0
def Shl.LAST_PAT : Row := row 0x07C 0 18 .ro 0
def Shl.SCRUB_PASS : Row := row 0x080 0 16 .ro 0

/-- Every field of the shallot (Table 10.10). -/
def Shl.table : List Row :=
  [Shl.PATTERNS, Shl.SLICES, Shl.LAYERS, Shl.HIT_LIMIT, Shl.MIN_C, Shl.THRESH, Shl.REQ_MASK, Shl.ROAD_DELAY, Shl.WIN_BANK, Shl.SCRUB_EN, Shl.AUTO_COMMIT, Shl.SSTATE, Shl.ACT_BANK, Shl.ACT_VALID, Shl.BANK0_STATE, Shl.BANK1_STATE, Shl.THROTTLED, Shl.FILL_PEND, Shl.C, Shl.VERIFY_GO, Shl.V_BANK, Shl.COMMIT_GO, Shl.C_BANK, Shl.EXP_CRC0] ++
  [Shl.EXP_CRC1, Shl.GOT_CRC, Shl.HIT_OVF_CNT, Shl.HIT_DISC_CNT, Shl.ROAD_OVF_CNT, Shl.FIX_CNT, Shl.SPARES_FREE, Shl.LOST_CNT, Shl.SET_SEQ, Shl.ROAD_CNT_LO, Shl.ROAD_CNT_HI, Shl.LAST_PAT, Shl.SCRUB_PASS]

/-! ### Slab: memory slab (Table 11.11) -/

def Slab.RB_LINES : Row := row 0x040 0 20 .ro 773312
def Slab.BM_BLOCKS : Row := row 0x044 0 11 .ro 1024
def Slab.RBL : Row := row 0x044 11 4 .ro 4
def Slab.SCRUB_MS : Row := row 0x048 0 16 .rw 100
def Slab.SCRUB_EN : Row := row 0x048 16 1 .rw 1
def Slab.SCRUB_LATE : Row := row 0x04C 0 1 .w1c 0
def Slab.RB_RANGE : Row := row 0x04C 1 1 .w1c 0
def Slab.ROW_SPARED : Row := row 0x04C 2 1 .w1c 0
def Slab.INIT_BUSY : Row := row 0x04C 3 1 .ro 0
def Slab.RB_CE_CNT : Row := row 0x050 0 16 .rc 0
def Slab.RB_UE_CNT : Row := row 0x050 16 16 .rc 0
def Slab.BM_CE_CNT : Row := row 0x054 0 16 .rc 0
def Slab.BM_UE_CNT : Row := row 0x054 16 16 .rc 0
def Slab.FORCED_CNT : Row := row 0x058 0 16 .rc 0
def Slab.RANGE_CNT : Row := row 0x058 16 16 .rc 0
def Slab.RB_PASS : Row := row 0x05C 0 16 .ro 0
def Slab.BM_PASS : Row := row 0x05C 16 16 .ro 0
def Slab.LAST_UE_ADDR : Row := row 0x060 0 22 .ro 0
def Slab.LAST_UE_ARR : Row := row 0x060 22 2 .ro 0
def Slab.LAST_UE_WORD : Row := row 0x060 24 3 .ro 0
def Slab.RB_SPARES : Row := row 0x064 0 10 .ro 756
def Slab.BM_SPARES : Row := row 0x064 10 10 .ro 512
def Slab.SB_SPARES : Row := row 0x064 20 2 .ro 3
def Slab.HOT_FILL : Row := row 0x068 0 5 .ro 0
def Slab.HOT_EVICT_CNT : Row := row 0x068 16 16 .rc 0
def Slab.NET_REF_CNT : Row := row 0x06C 0 16 .rc 0

/-- Every field of the memory slab (Table 11.11). -/
def Slab.table : List Row :=
  [Slab.RB_LINES, Slab.BM_BLOCKS, Slab.RBL, Slab.SCRUB_MS, Slab.SCRUB_EN, Slab.SCRUB_LATE, Slab.RB_RANGE, Slab.ROW_SPARED, Slab.INIT_BUSY, Slab.RB_CE_CNT, Slab.RB_UE_CNT, Slab.BM_CE_CNT, Slab.BM_UE_CNT, Slab.FORCED_CNT, Slab.RANGE_CNT, Slab.RB_PASS, Slab.BM_PASS, Slab.LAST_UE_ADDR, Slab.LAST_UE_ARR, Slab.LAST_UE_WORD, Slab.RB_SPARES, Slab.BM_SPARES, Slab.SB_SPARES, Slab.HOT_FILL] ++
  [Slab.HOT_EVICT_CNT, Slab.NET_REF_CNT]

/-! ### Ddr: DDR4 channel (Table 11.13) -/

def Ddr.DEV_CFG_RANKS : Row := row 0x040 0 2 .rwl 0
def Ddr.DEV_CFG_SIZE : Row := row 0x040 2 2 .rwl 2
def Ddr.REF_MODE : Row := row 0x044 0 2 .ro 1
def Ddr.REF_2X : Row := row 0x044 2 1 .rw 0
def Ddr.DEBT0 : Row := row 0x048 0 5 .ro 0
def Ddr.DEBT1 : Row := row 0x048 5 5 .ro 0
def Ddr.SPILL_CNT : Row := row 0x048 16 16 .rc 0
def Ddr.TRAINED : Row := row 0x04C 0 1 .ro 0
def Ddr.TRAIN_FAIL : Row := row 0x04C 1 1 .ro 0
def Ddr.REF_SPILL : Row := row 0x04C 2 1 .w1c 0
def Ddr.SCRUB_LATE : Row := row 0x04C 3 1 .w1c 0
def Ddr.PAGE_RETIRED : Row := row 0x04C 4 1 .w1c 0
def Ddr.SELF_REFRESH : Row := row 0x04C 5 1 .ro 0
def Ddr.FAIL_LANE : Row := row 0x04C 6 4 .ro 0
def Ddr.EV_DISCARD : Row := row 0x04C 10 1 .w1c 0
def Ddr.CE_CNT : Row := row 0x050 0 16 .rc 0
def Ddr.UE_CNT : Row := row 0x050 16 16 .rc 0
def Ddr.PATROL_H : Row := row 0x054 0 8 .rw 24
def Ddr.PATROL_EN : Row := row 0x054 8 1 .rw 1
def Ddr.LAST_UE_LINE : Row := row 0x058 0 29 .ro 0
def Ddr.LAST_UE_BEAT : Row := row 0x058 29 3 .ro 0
def Ddr.SPARE_FREE : Row := row 0x05C 0 7 .ro 64
def Ddr.PATROL_PASS : Row := row 0x05C 16 16 .ro 0
def Ddr.HOT_FILL : Row := row 0x060 0 5 .ro 0
def Ddr.HOT_EVICT_CNT : Row := row 0x060 16 16 .rc 0
def Ddr.EVR_TMO : Row := row 0x064 0 16 .rw 100
def Ddr.EVR_DISC_CNT : Row := row 0x064 16 16 .rc 0
def Ddr.EVR_BASE : Row := rows 0x080 0 29 .rw 0 0x10 4
def Ddr.EVR_LINES : Row := rows 0x084 0 29 .rw 0 0x10 4
def Ddr.EVR_EN : Row := rows 0x084 29 1 .rw 0 0x10 4
def Ddr.EVR_WP : Row := rows 0x088 0 29 .ro 0 0x10 4
def Ddr.EVR_RP : Row := rows 0x08C 0 29 .rw 0 0x10 4

/-- Every field of the DDR4 channel (Table 11.13). -/
def Ddr.table : List Row :=
  [Ddr.DEV_CFG_RANKS, Ddr.DEV_CFG_SIZE, Ddr.REF_MODE, Ddr.REF_2X, Ddr.DEBT0, Ddr.DEBT1, Ddr.SPILL_CNT, Ddr.TRAINED, Ddr.TRAIN_FAIL, Ddr.REF_SPILL, Ddr.SCRUB_LATE, Ddr.PAGE_RETIRED, Ddr.SELF_REFRESH, Ddr.FAIL_LANE, Ddr.EV_DISCARD, Ddr.CE_CNT, Ddr.UE_CNT, Ddr.PATROL_H, Ddr.PATROL_EN, Ddr.LAST_UE_LINE, Ddr.LAST_UE_BEAT, Ddr.SPARE_FREE, Ddr.PATROL_PASS, Ddr.HOT_FILL] ++
  [Ddr.HOT_EVICT_CNT, Ddr.EVR_TMO, Ddr.EVR_DISC_CNT, Ddr.EVR_BASE, Ddr.EVR_LINES, Ddr.EVR_EN, Ddr.EVR_WP, Ddr.EVR_RP]

/-! ### Net: network (Table 12.7) -/

def Net.MESH_X : Row := row 0x040 0 4 .ro 12
def Net.MESH_Y : Row := row 0x040 4 4 .ro 8
def Net.K : Row := row 0x040 8 6 .ro 0
def Net.ACT_TBL : Row := row 0x044 0 1 .rwl 0
def Net.TBL_COMMIT : Row := row 0x044 1 1 .wo 0
def Net.TBL_PEND : Row := row 0x044 2 1 .ro 0
def Net.GT_EN : Row := row 0x044 3 1 .rwl 0
def Net.TBL_DONE : Row := row 0x044 4 1 .w1c 0
def Net.SNP_TMO : Row := row 0x048 0 16 .rw 4096
def Net.REQ_TMO : Row := row 0x048 16 16 .rw 0
def Net.HOP_ERR_CNT : Row := row 0x04C 0 16 .rc 0
def Net.RETRY_CNT : Row := row 0x04C 16 16 .rc 0
def Net.E2E_CE_CNT : Row := row 0x050 0 16 .rc 0
def Net.E2E_UE_CNT : Row := row 0x050 16 16 .rc 0
def Net.GT_LATE_CNT : Row := row 0x054 0 16 .rc 0
def Net.NO_SLOT_CNT : Row := row 0x054 16 16 .rc 0
def Net.DISCARD_CNT : Row := row 0x058 0 16 .rc 0
def Net.SNP_TMO_CNT : Row := row 0x058 16 16 .rc 0
def Net.NO_ROUTE_CNT : Row := row 0x05C 0 16 .rc 0
def Net.DIR_FULL_CNT : Row := row 0x05C 16 16 .rc 0
def Net.ERR_X : Row := row 0x060 0 4 .ro 0
def Net.ERR_Y : Row := row 0x060 4 3 .ro 0
def Net.ERR_PORT : Row := row 0x060 7 3 .ro 0
def Net.ERR_NET : Row := row 0x060 10 2 .ro 0
def Net.SPARES_FREE : Row := row 0x064 0 16 .ro 11696
def Net.DEAD_WIRES : Row := row 0x064 16 16 .ro 0

/-- Every field of the network (Table 12.7). -/
def Net.table : List Row :=
  [Net.MESH_X, Net.MESH_Y, Net.K, Net.ACT_TBL, Net.TBL_COMMIT, Net.TBL_PEND, Net.GT_EN, Net.TBL_DONE, Net.SNP_TMO, Net.REQ_TMO, Net.HOP_ERR_CNT, Net.RETRY_CNT, Net.E2E_CE_CNT, Net.E2E_UE_CNT, Net.GT_LATE_CNT, Net.NO_SLOT_CNT, Net.DISCARD_CNT, Net.SNP_TMO_CNT, Net.NO_ROUTE_CNT, Net.DIR_FULL_CNT, Net.ERR_X, Net.ERR_Y, Net.ERR_PORT, Net.ERR_NET] ++
  [Net.SPARES_FREE, Net.DEAD_WIRES]

/-! ### Tx: transmit group (Table 13.6) -/

def Tx.DATA_LANES : Row := row 0x040 0 4 .ro 9
def Tx.ACTIVE : Row := row 0x040 4 4 .ro 8
def Tx.L_USED : Row := row 0x040 8 12 .ro 0
def Tx.RATE_OK : Row := row 0x040 20 1 .ro 0
def Tx.H_EN : Row := rows 0x044 0 1 .rw 0 0x4 2
def Tx.H_SRC : Row := rows 0x044 1 1 .rw 0 0x4 2
def Tx.H_REGION : Row := rows 0x044 2 6 .rw 0 0x4 2
def Tx.H_PORT : Row := rows 0x044 8 1 .rw 0 0x4 2
def Tx.H_REFUSED : Row := rows 0x044 9 1 .w1c 0 0x4 2
def Tx.H_FILL : Row := rows 0x044 10 6 .ro 0 0x4 2
def Tx.PARK : Row := row 0x04C 0 4 .ro 8
def Tx.PARK_NEXT : Row := row 0x04C 4 4 .rw 8
def Tx.PARK_GO : Row := row 0x04C 8 1 .wo 0
def Tx.PARK_PEND : Row := row 0x04C 9 1 .ro 0
def Tx.PARK_FIX : Row := row 0x04C 10 1 .rw 0
def Tx.ROLL_EN : Row := row 0x04C 11 1 .rw 1
def Tx.ROLL_TURNS : Row := row 0x050 0 16 .rw 1024
def Tx.TX_DROP_CNT : Row := row 0x054 0 16 .rc 0
def Tx.NET_DISC_CNT : Row := row 0x054 16 16 .rc 0
def Tx.CELLS_LO : Row := row 0x058 0 32 .ro 0
def Tx.CELLS_HI : Row := row 0x05C 0 16 .ro 0

/-- Every field of the transmit group (Table 13.6). -/
def Tx.table : List Row :=
  [Tx.DATA_LANES, Tx.ACTIVE, Tx.L_USED, Tx.RATE_OK, Tx.H_EN, Tx.H_SRC, Tx.H_REGION, Tx.H_PORT, Tx.H_REFUSED, Tx.H_FILL, Tx.PARK, Tx.PARK_NEXT, Tx.PARK_GO, Tx.PARK_PEND, Tx.PARK_FIX, Tx.ROLL_EN, Tx.ROLL_TURNS, Tx.TX_DROP_CNT, Tx.NET_DISC_CNT, Tx.CELLS_LO, Tx.CELLS_HI]

/-! ### Rx: receive group (Table 13.7) -/

def Rx.DATA_LANES : Row := row 0x040 0 4 .ro 9
def Rx.ACTIVE : Row := row 0x040 4 4 .ro 8
def Rx.L_EXP : Row := row 0x040 8 12 .rwl 0
def Rx.RATE_OK : Row := row 0x040 20 1 .ro 0
def Rx.ALIGN : Row := row 0x044 0 4 .rw 2
def Rx.FIXED : Row := row 0x044 4 1 .ro 0
def Rx.SHORT_TURN : Row := row 0x044 5 1 .ro 0
def Rx.PARK : Row := row 0x044 6 4 .ro 15
def Rx.H0_UP : Row := row 0x044 10 1 .ro 0
def Rx.H1_UP : Row := row 0x044 11 1 .ro 0
def Rx.REGION_0 : Row := rows 0x048 0 6 .rw 0 0x4 2
def Rx.REGION_1 : Row := rows 0x048 8 6 .rw 0 0x4 2
def Rx.REGION_2 : Row := rows 0x048 16 6 .rw 0 0x4 2
def Rx.REGION_3 : Row := rows 0x048 24 6 .rw 0 0x4 2
def Rx.PORT_0 : Row := rows 0x048 6 1 .rw 0 0x4 2
def Rx.PORT_1 : Row := rows 0x048 14 1 .rw 0 0x4 2
def Rx.PORT_2 : Row := rows 0x048 22 1 .rw 0 0x4 2
def Rx.PORT_3 : Row := rows 0x048 30 1 .rw 0 0x4 2
def Rx.DV_0 : Row := rows 0x048 7 1 .rw 0 0x4 2
def Rx.DV_1 : Row := rows 0x048 15 1 .rw 0 0x4 2
def Rx.DV_2 : Row := rows 0x048 23 1 .rw 0 0x4 2
def Rx.DV_3 : Row := rows 0x048 31 1 .rw 0 0x4 2
def Rx.ROUTE_REFUSED : Row := row 0x050 0 1 .w1c 0
def Rx.FAIL_MASK : Row := row 0x050 1 9 .ro 0
def Rx.LATE_CNT : Row := row 0x054 0 16 .rc 0
def Rx.REL_OVF_CNT : Row := row 0x054 16 16 .rc 0
def Rx.HALF_DOWN_CNT : Row := row 0x058 0 16 .rc 0
def Rx.LF_THR : Row := row 0x058 16 16 .rw 1000
def Rx.CELLS_LO : Row := row 0x05C 0 32 .ro 0
def Rx.CELLS_HI : Row := row 0x060 0 16 .ro 0
def Rx.ES_LANE : Row := row 0x080 0 4 .rw 0
def Rx.ES_PHASE : Row := row 0x080 4 6 .rw 0
def Rx.ES_VOFF : Row := row 0x080 10 8 .rw 0
def Rx.ES_DWELL : Row := row 0x080 18 4 .rw 0
def Rx.ES_ANYTIME : Row := row 0x080 22 1 .rw 0
def Rx.ES_GO : Row := row 0x080 23 1 .wo 0
def Rx.ES_BUSY : Row := row 0x080 24 1 .ro 0
def Rx.ES_DONE : Row := row 0x080 25 1 .w1c 0
def Rx.ES_ABORT : Row := row 0x080 26 1 .w1c 0
def Rx.ES_ERR : Row := row 0x084 0 32 .ro 0
def Rx.ES_BITS : Row := row 0x088 0 32 .ro 0
def Rx.LSTATE : Row := rows 0x100 0 2 .ro 0 0x8 9
def Rx.LOGICAL : Row := rows 0x100 2 4 .ro 15 0x8 9
def Rx.ADAPT_FROZEN : Row := rows 0x100 6 1 .ro 0 0x8 9
def Rx.STUFF_ERR_CNT : Row := rows 0x100 8 8 .rc 0 0x8 9
def Rx.DOWN_CNT : Row := rows 0x100 16 16 .rc 0 0x8 9
def Rx.CRC_CNT : Row := rows 0x104 0 16 .rc 0 0x8 9
def Rx.GAP_CNT : Row := rows 0x104 16 16 .rc 0 0x8 9

/-- Every field of the receive group (Table 13.7). -/
def Rx.table : List Row :=
  [Rx.DATA_LANES, Rx.ACTIVE, Rx.L_EXP, Rx.RATE_OK, Rx.ALIGN, Rx.FIXED, Rx.SHORT_TURN, Rx.PARK, Rx.H0_UP, Rx.H1_UP, Rx.REGION_0, Rx.REGION_1, Rx.REGION_2, Rx.REGION_3, Rx.PORT_0, Rx.PORT_1, Rx.PORT_2, Rx.PORT_3, Rx.DV_0, Rx.DV_1, Rx.DV_2, Rx.DV_3, Rx.ROUTE_REFUSED, Rx.FAIL_MASK] ++
  [Rx.LATE_CNT, Rx.REL_OVF_CNT, Rx.HALF_DOWN_CNT, Rx.LF_THR, Rx.CELLS_LO, Rx.CELLS_HI, Rx.ES_LANE, Rx.ES_PHASE, Rx.ES_VOFF, Rx.ES_DWELL, Rx.ES_ANYTIME, Rx.ES_GO, Rx.ES_BUSY, Rx.ES_DONE, Rx.ES_ABORT, Rx.ES_ERR, Rx.ES_BITS, Rx.LSTATE, Rx.LOGICAL, Rx.ADAPT_FROZEN, Rx.STUFF_ERR_CNT, Rx.DOWN_CNT, Rx.CRC_CNT, Rx.GAP_CNT]

/-! ### Pwr: power controller (Table 14.8) -/

def Pwr.DOMAINS : Row := row 0x040 0 9 .ro 270
def Pwr.P_TOTAL : Row := row 0x044 0 16 .ro 0
def Pwr.P_LIMIT : Row := row 0x044 16 16 .auth 650
def Pwr.PCAP : Row := row 0x048 0 1 .ro 0
def Pwr.PCAP_SHED : Row := row 0x048 1 1 .ro 0
def Pwr.PCAP_UNMET : Row := row 0x048 2 1 .w1c 0
def Pwr.HANDOVER : Row := row 0x048 3 1 .ro 0
def Pwr.CNT_WAKE : Row := row 0x04C 0 16 .rc 0
def Pwr.CNT_WAKE_FAIL : Row := row 0x04C 16 16 .rc 0
def Pwr.CNT_CAP_SHED : Row := row 0x050 0 16 .rc 0
def Pwr.LAST_FAIL_DOM : Row := row 0x054 0 9 .ro 0
def Pwr.LAST_FAIL_STEP : Row := row 0x054 9 3 .ro 0
def Pwr.TAKEN : Row := rows 0x100 0 2 .ro 3 0x4 270
def Pwr.HIGH : Row := rows 0x100 2 2 .ro 3 0x4 270
def Pwr.CEIL : Row := rows 0x100 4 2 .ro 3 0x4 270
def Pwr.STEP : Row := rows 0x100 6 3 .ro 0 0x4 270
def Pwr.SHED_EN : Row := rows 0x100 9 1 .rw 0 0x4 270
def Pwr.THROT : Row := rows 0x100 10 1 .ro 0 0x4 270
def Pwr.WAKE_FAIL : Row := rows 0x100 11 1 .w1c 0 0x4 270
def Pwr.POWER : Row := rows 0x100 16 16 .ro 0 0x4 270

/-- Every field of the power controller (Table 14.8). -/
def Pwr.table : List Row :=
  [Pwr.DOMAINS, Pwr.P_TOTAL, Pwr.P_LIMIT, Pwr.PCAP, Pwr.PCAP_SHED, Pwr.PCAP_UNMET, Pwr.HANDOVER, Pwr.CNT_WAKE, Pwr.CNT_WAKE_FAIL, Pwr.CNT_CAP_SHED, Pwr.LAST_FAIL_DOM, Pwr.LAST_FAIL_STEP, Pwr.TAKEN, Pwr.HIGH, Pwr.CEIL, Pwr.STEP, Pwr.SHED_EN, Pwr.THROT, Pwr.WAKE_FAIL, Pwr.POWER]

/-! ### Thr: thermal (Table 14.9) -/

def Thr.POINTS : Row := row 0x040 0 8 .ro 180
def Thr.EXT : Row := row 0x040 8 4 .ro 8
def Thr.T_WARN : Row := row 0x044 0 8 .auth 90
def Thr.T_THROT : Row := row 0x044 8 8 .auth 95
def Thr.T_SHED : Row := row 0x044 16 8 .auth 98
def Thr.T_LIMIT : Row := row 0x044 24 8 .ro 100
def Thr.RATE_WARN : Row := row 0x048 0 8 .auth 8
def Thr.RATE_ACT : Row := row 0x048 8 8 .auth 20
def Thr.HYST : Row := row 0x048 16 4 .auth 5
def Thr.CFG_WIN : Row := row 0x04C 0 1 .ro 0
def Thr.FUSE_WIN : Row := row 0x04C 1 1 .ro 0
def Thr.SUSPECT_ANY : Row := row 0x04C 2 1 .ro 0
def Thr.BROKEN_ANY : Row := row 0x04C 3 1 .ro 0
def Thr.THROT_ANY : Row := row 0x04C 4 1 .ro 0
def Thr.SHED_ANY : Row := row 0x04C 5 1 .ro 0
def Thr.HOT_POINT : Row := row 0x04C 8 8 .ro 0
def Thr.HOT_TEMP : Row := row 0x04C 16 16 .ro 0
def Thr.THETA_C : Row := row 0x050 0 16 .ro 250
def Thr.CNT_SUSPECT : Row := row 0x054 0 16 .rc 0
def Thr.CNT_BROKEN : Row := row 0x054 16 16 .rc 0
def Thr.CNT_THROT : Row := row 0x058 0 16 .rc 0
def Thr.CNT_SHED : Row := row 0x058 16 16 .rc 0
def Thr.CNT_WIN_CLOSE : Row := row 0x05C 0 16 .rc 0
def Thr.EXT_EN : Row := rows 0x060 0 1 .rw 0 0x4 8
def Thr.DDR_MASK : Row := rows 0x060 1 8 .rw 0 0x4 8
def Thr.EXT_BROKEN : Row := rows 0x060 9 1 .ro 0 0x4 8
def Thr.EXT_TEMP : Row := rows 0x060 16 16 .ro 0 0x4 8
def Thr.TEMP : Row := rows 0x100 0 16 .ro 0 0x4 180
def Thr.PSTATE : Row := rows 0x100 16 2 .ro 0 0x4 180
def Thr.MASK : Row := rows 0x100 18 1 .auth 0 0x4 180
def Thr.RATE : Row := rows 0x100 20 8 .ro 0 0x4 180
def Thr.ZSTATE : Row := rows 0x400 0 2 .ro 0 0x4 33
def Thr.ZPOINT : Row := rows 0x400 2 8 .ro 0 0x4 33
def Thr.ZRATE : Row := rows 0x400 10 1 .ro 0 0x4 33
def Thr.MODEL : Row := rows 0x500 0 16 .ro 0 0x4 24

/-- Every field of the thermal (Table 14.9). -/
def Thr.table : List Row :=
  [Thr.POINTS, Thr.EXT, Thr.T_WARN, Thr.T_THROT, Thr.T_SHED, Thr.T_LIMIT, Thr.RATE_WARN, Thr.RATE_ACT, Thr.HYST, Thr.CFG_WIN, Thr.FUSE_WIN, Thr.SUSPECT_ANY, Thr.BROKEN_ANY, Thr.THROT_ANY, Thr.SHED_ANY, Thr.HOT_POINT, Thr.HOT_TEMP, Thr.THETA_C, Thr.CNT_SUSPECT, Thr.CNT_BROKEN, Thr.CNT_THROT, Thr.CNT_SHED, Thr.CNT_WIN_CLOSE, Thr.EXT_EN] ++
  [Thr.DDR_MASK, Thr.EXT_BROKEN, Thr.EXT_TEMP, Thr.TEMP, Thr.PSTATE, Thr.MASK, Thr.RATE, Thr.ZSTATE, Thr.ZPOINT, Thr.ZRATE, Thr.MODEL]

/-! ### Wk: scrub walker (Table 15.5) -/

def Wk.CFG_SCRUB_US : Row := row 0x040 0 16 .rw 1000
def Wk.C_SCRUB_MS : Row := row 0x040 16 16 .rw 1000
def Wk.WALK_EN : Row := row 0x044 0 1 .rwl 1
def Wk.SCRUB_LATE : Row := row 0x044 1 1 .w1c 0
def Wk.RESTARTING : Row := row 0x044 2 1 .ro 0
def Wk.LATCH_FIX_CNT : Row := row 0x048 0 16 .rc 0
def Wk.STUCK_CNT : Row := row 0x048 16 16 .rc 0
def Wk.C_CE_CNT : Row := row 0x04C 0 16 .rc 0
def Wk.C_UE_CNT : Row := row 0x04C 16 16 .rc 0
def Wk.PAR_REBUILD_CNT : Row := row 0x050 0 16 .rc 0
def Wk.VOTE_FIX_CNT : Row := row 0x050 16 16 .rc 0
def Wk.RESTART_CNT : Row := row 0x054 0 16 .rc 0
def Wk.CFG_PASS : Row := row 0x058 0 16 .ro 0
def Wk.C_PASS : Row := row 0x058 16 16 .ro 0
def Wk.FIX_X : Row := row 0x05C 0 6 .ro 0
def Wk.FIX_R : Row := row 0x05C 6 9 .ro 0
def Wk.FIX_REGION : Row := row 0x05C 15 6 .ro 0
def Wk.FIX_BIT : Row := row 0x05C 21 10 .ro 0
def Wk.FIX_SET : Row := row 0x05C 31 1 .ro 0
def Wk.ST_EN : Row := row 0x060 0 11 .rw 2047
def Wk.ST_CYCLE_S : Row := row 0x060 16 16 .rw 60
def Wk.ST_RUN_CNT : Row := row 0x064 0 16 .rc 0
def Wk.ST_FAIL_CNT : Row := row 0x064 16 16 .rc 0
def Wk.ST_LAST_KIND : Row := row 0x068 0 4 .ro 0
def Wk.ST_LAST_ENTRY : Row := row 0x068 4 9 .ro 0
def Wk.ST_LAST_FAIL : Row := row 0x068 13 1 .ro 0
def Wk.ST_DEFER_CNT : Row := row 0x06C 0 16 .rc 0
def Wk.WEAR_SEL : Row := row 0x070 0 7 .rw 0
def Wk.WEAR_SLOW : Row := row 0x074 0 16 .ro 0
def Wk.WEAR_BIAS : Row := row 0x074 16 8 .ro 0
def Wk.WEAR_ALARM : Row := row 0x074 24 1 .ro 0
def Wk.EFUSE_FREE : Row := row 0x078 0 13 .ro 4096

/-- Every field of the scrub walker (Table 15.5). -/
def Wk.table : List Row :=
  [Wk.CFG_SCRUB_US, Wk.C_SCRUB_MS, Wk.WALK_EN, Wk.SCRUB_LATE, Wk.RESTARTING, Wk.LATCH_FIX_CNT, Wk.STUCK_CNT, Wk.C_CE_CNT, Wk.C_UE_CNT, Wk.PAR_REBUILD_CNT, Wk.VOTE_FIX_CNT, Wk.RESTART_CNT, Wk.CFG_PASS, Wk.C_PASS, Wk.FIX_X, Wk.FIX_R, Wk.FIX_REGION, Wk.FIX_BIT, Wk.FIX_SET, Wk.ST_EN, Wk.ST_CYCLE_S, Wk.ST_RUN_CNT, Wk.ST_FAIL_CNT, Wk.ST_LAST_KIND] ++
  [Wk.ST_LAST_ENTRY, Wk.ST_LAST_FAIL, Wk.ST_DEFER_CNT, Wk.WEAR_SEL, Wk.WEAR_SLOW, Wk.WEAR_BIAS, Wk.WEAR_ALARM, Wk.EFUSE_FREE]

/-! ### Scp: security, on the SCP mailbox page (Table 16.5) -/

def Scp.SCP_STATE : Row := row 0x100 0 2 .ro 0
def Scp.DEBUG_OPEN : Row := row 0x100 2 1 .ro 0
def Scp.POLICY : Row := row 0x100 3 4 .ro 0
def Scp.FAIL_RUN : Row := row 0x100 7 5 .ro 0
def Scp.NONCE_LO : Row := row 0x104 0 32 .ro 0
def Scp.NONCE_HI : Row := row 0x108 0 32 .ro 0
def Scp.CTR_LAST : Row := row 0x10C 0 32 .ro 0
def Scp.AUTH_FAIL_CNT : Row := row 0x110 0 16 .rc 0
def Scp.REFUSE_CNT : Row := row 0x110 16 16 .rc 0
def Scp.LAST_WHY : Row := row 0x114 0 4 .ro 0
def Scp.LAST_OPCODE : Row := row 0x114 16 16 .ro 0
def Scp.USE : Row := rows 0x120 0 3 .ro 0 0x4 8
def Scp.VALID : Row := rows 0x120 3 1 .ro 0 0x4 8
def Scp.FUSED : Row := rows 0x120 4 1 .ro 0 0x4 8

/-- Every field of the security, on the SCP mailbox page (Table 16.5). -/
def Scp.table : List Row :=
  [Scp.SCP_STATE, Scp.DEBUG_OPEN, Scp.POLICY, Scp.FAIL_RUN, Scp.NONCE_LO, Scp.NONCE_HI, Scp.CTR_LAST, Scp.AUTH_FAIL_CNT, Scp.REFUSE_CNT, Scp.LAST_WHY, Scp.LAST_OPCODE, Scp.USE, Scp.VALID, Scp.FUSED]

/-! ### Pcie: PCIe (Table 17.10) -/

def Pcie.LINK_SPEED : Row := row 0x040 0 4 .ro 0
def Pcie.LINK_WIDTH : Row := row 0x040 4 5 .ro 0
def Pcie.QUIESCED : Row := row 0x040 9 1 .ro 0
def Pcie.QUIESCE_DONE : Row := row 0x040 10 1 .ro 0
def Pcie.PERST_SEEN : Row := row 0x040 11 1 .w1c 0
def Pcie.VDP_EN : Row := row 0x044 0 4 .rwl 0
def Pcie.VDP_UP : Row := row 0x044 4 4 .ro 0
def Pcie.USER_TMO : Row := row 0x048 0 16 .rw 1000
def Pcie.RING_TMO : Row := row 0x048 16 16 .rw 100
def Pcie.LINK_DISC_CNT : Row := row 0x04C 0 16 .rc 0
def Pcie.RING_FULL_CNT : Row := row 0x04C 16 16 .rc 0
def Pcie.USER_ABORT_CNT : Row := row 0x050 0 16 .rc 0
def Pcie.USER_PARTIAL_CNT : Row := row 0x050 16 16 .rc 0
def Pcie.PS_REFUSED_CNT : Row := row 0x054 0 16 .rc 0
def Pcie.LAST_RESP : Row := row 0x054 16 2 .ro 0
def Pcie.LAST_PAGE : Row := row 0x058 0 16 .ro 0
def Pcie.POISON_CPL_CNT : Row := row 0x058 16 16 .rc 0
def Pcie.RING_SEL_0 : Row := rows 0x060 0 2 .rw 0 0x4 3
def Pcie.RING_SEL_1 : Row := rows 0x060 2 2 .rw 0 0x4 3
def Pcie.RING_SEL_2 : Row := rows 0x060 4 2 .rw 0 0x4 3
def Pcie.RING_SEL_3 : Row := rows 0x060 6 2 .rw 0 0x4 3
def Pcie.RING_SEL_4 : Row := rows 0x060 8 2 .rw 0 0x4 3
def Pcie.RING_SEL_5 : Row := rows 0x060 10 2 .rw 0 0x4 3
def Pcie.RING_SEL_6 : Row := rows 0x060 12 2 .rw 0 0x4 3
def Pcie.RING_SEL_7 : Row := rows 0x060 14 2 .rw 0 0x4 3
def Pcie.RING_SEL_8 : Row := rows 0x060 16 2 .rw 0 0x4 3
def Pcie.RING_SEL_9 : Row := rows 0x060 18 2 .rw 0 0x4 3
def Pcie.RING_SEL_10 : Row := rows 0x060 20 2 .rw 0 0x4 3
def Pcie.RING_SEL_11 : Row := rows 0x060 22 2 .rw 0 0x4 3
def Pcie.RING_SEL_12 : Row := rows 0x060 24 2 .rw 0 0x4 3
def Pcie.RING_SEL_13 : Row := rows 0x060 26 2 .rw 0 0x4 3
def Pcie.RING_SEL_14 : Row := rows 0x060 28 2 .rw 0 0x4 3
def Pcie.RING_SEL_15 : Row := rows 0x060 30 2 .rw 0 0x4 3
def Pcie.VDP_DID : Row := rows 0x100 0 16 .rwl 0 0x20 4
def Pcie.VDP_SSID : Row := rows 0x100 16 16 .rwl 0 0x20 4
def Pcie.VDP_CLASS : Row := rows 0x104 0 24 .rwl 0 0x20 4
def Pcie.VDP_REGION : Row := rows 0x108 0 6 .rwl 0 0x20 4
def Pcie.VBAR_LOG2 : Row := rows 0x108 6 6 .rwl 20 0x20 4
def Pcie.RBASE_LO : Row := rows 0x200 0 32 .rw 0 0x20 4
def Pcie.RBASE_HI : Row := rows 0x204 0 32 .rw 0 0x20 4
def Pcie.RSIZE_LOG2 : Row := rows 0x208 0 5 .rw 0 0x20 4
def Pcie.R_EN : Row := rows 0x208 5 1 .rw 0 0x20 4
def Pcie.R_VEC : Row := rows 0x208 6 6 .rw 0 0x20 4
def Pcie.WP : Row := rows 0x20C 0 32 .ro 0 0x20 4
def Pcie.RP : Row := rows 0x210 0 32 .rw 0 0x20 4
def Pcie.WPA_LO : Row := rows 0x214 0 32 .rw 0 0x20 4
def Pcie.WPA_HI : Row := rows 0x218 0 32 .rw 0 0x20 4
def Pcie.R_EVENTS : Row := rows 0x21C 0 32 .ro 0 0x20 4
def Pcie.VEC : Row := rows 0x400 0 6 .rw 0 0x4 354
def Pcie.VEN : Row := rows 0x400 6 1 .rw 0 0x4 354

/-- Every field of the PCIe (Table 17.10). -/
def Pcie.table : List Row :=
  [Pcie.LINK_SPEED, Pcie.LINK_WIDTH, Pcie.QUIESCED, Pcie.QUIESCE_DONE, Pcie.PERST_SEEN, Pcie.VDP_EN, Pcie.VDP_UP, Pcie.USER_TMO, Pcie.RING_TMO, Pcie.LINK_DISC_CNT, Pcie.RING_FULL_CNT, Pcie.USER_ABORT_CNT, Pcie.USER_PARTIAL_CNT, Pcie.PS_REFUSED_CNT, Pcie.LAST_RESP, Pcie.LAST_PAGE, Pcie.POISON_CPL_CNT, Pcie.RING_SEL_0, Pcie.RING_SEL_1, Pcie.RING_SEL_2, Pcie.RING_SEL_3, Pcie.RING_SEL_4, Pcie.RING_SEL_5, Pcie.RING_SEL_6] ++
  [Pcie.RING_SEL_7, Pcie.RING_SEL_8, Pcie.RING_SEL_9, Pcie.RING_SEL_10, Pcie.RING_SEL_11, Pcie.RING_SEL_12, Pcie.RING_SEL_13, Pcie.RING_SEL_14, Pcie.RING_SEL_15, Pcie.VDP_DID, Pcie.VDP_SSID, Pcie.VDP_CLASS, Pcie.VDP_REGION, Pcie.VBAR_LOG2, Pcie.RBASE_LO, Pcie.RBASE_HI, Pcie.RSIZE_LOG2, Pcie.R_EN, Pcie.R_VEC, Pcie.WP, Pcie.RP, Pcie.WPA_LO, Pcie.WPA_HI, Pcie.R_EVENTS] ++
  [Pcie.VEC, Pcie.VEN]

/-! ### Gio: general I/O bank (Table 17.11) -/

def Gio.VIO_SEL : Row := row 0x040 0 2 .rwl 2
def Gio.VIO_OK : Row := row 0x040 2 1 .ro 0
def Gio.FAB_EN : Row := row 0x040 3 1 .rwl 0
def Gio.PMODE : Row := rows 0x080 0 2 .rw 0 0x4 24
def Gio.OUT : Row := rows 0x080 2 1 .rw 0 0x4 24
def Gio.IN : Row := rows 0x080 3 1 .ro 0 0x4 24
def Gio.DRIVE : Row := rows 0x080 4 2 .rw 1 0x4 24
def Gio.PULL : Row := rows 0x080 6 2 .rw 0 0x4 24
def Gio.SLOW : Row := rows 0x080 8 1 .rw 0 0x4 24
def Gio.PAIR : Row := rows 0x080 9 1 .rw 0 0x4 24
def Gio.TERM : Row := rows 0x080 10 1 .rw 0 0x4 24
def Gio.EN : Row := rows 0x080 11 1 .rw 0 0x4 24

/-- Every field of the general I/O bank (Table 17.11). -/
def Gio.table : List Row :=
  [Gio.VIO_SEL, Gio.VIO_OK, Gio.FAB_EN, Gio.PMODE, Gio.OUT, Gio.IN, Gio.DRIVE, Gio.PULL, Gio.SLOW, Gio.PAIR, Gio.TERM, Gio.EN]

end Sys2Proof.Machine
end

