-- ==== Sys2Proof/Machine/Reset.lean ====
section
/-! DEFINITION. Machine/Reset.lean: the registers whose value after a cold start is not the one their table prints once for
every instance: spares and logical engines in the Waybook (§01.1, Table 02.5), the key slots (Table 16.1), and the PLL
settings (R521, R522). -/

namespace Sys2Proof.Machine

/-- How field r (instance i) of page pg, holding v, stands in the register map; nothing where v is the printed value. -/
def holds (pg : Nat) (r : Row) (v : Nat) (i : Nat := 0) : List (Nat × Nat) :=
  if v = r.reset then [] else [(fieldKey pg r i, v ^^^ r.reset)]

/-- Waybook of engine t: positions 0 to 11 of a row host its logical engines, position 12 is the spare. -/
def engineReset (t : Nat) : List (Nat × Nat) :=
  let e := 164 + t
  if t % 13 = 12 then holds 0 Wbe.STATE 1 e else holds 0 Wbe.LOGICAL (12 * (t / 13) + t % 13) e

/-- Table 04.9: REF_SEL, MULT, MIRROR of PLL p. -/
def pllInit (p : Nat) : Nat × Nat × Nat :=
  match p with
  | 0 => (2, 8, 31)
  | 1 => (1, 5, 31)
  | 2 => (1, 1, 31)
  | 3 | 4 => (0, 12, 31)
  | 5 | 6 => (0, 20, 31)
  | 7 => (0, 30, 31)
  | 8 => (0, 10, 31)
  | 9 | 10 | 11 | 12 => (0, 1120, 31)
  | 13 | 14 => (1, 16, 31)
  | 15 => (0, 16, 31)
  | 16 => (0, 12, 3)
  | 17 => (0, 12, 4)
  | 18 => (0, 20, 5)
  | _ => (0, 30, 7)

def pllReset (p : Nat) : List (Nat × Nat) :=
  let (r, m, q) := pllInit p
  holds (0x41 + p) Hdr.EN (bit (p ≤ 2)) ++ holds (0x41 + p) Pll.REF_SEL r ++ holds (0x41 + p) Pll.MULT m ++
    holds (0x41 + p) Pll.MIRROR q

/-- Slot 0 holds a key for envelopes; slots 1 to 3 are eFuse and blank (log entry 27). -/
def keyReset (slot : Nat) : List (Nat × Nat) :=
  if slot = 0 then holds 0x22 Scp.USE 1 0 ++ holds 0x22 Scp.VALID 1 0 ++ holds 0x22 Scp.FUSED 1 0
  else holds 0x22 Scp.FUSED 1 slot

/-- Every such register, in rising order of key. -/
def resetRegs : List (Nat × Nat) :=
  ([27, 28, 29, 30].flatMap fun e => holds 0 Wbe.STATE 1 e) ++ (List.range 104).flatMap engineReset ++
    (List.range 4).flatMap keyReset ++ (List.range 20).flatMap pllReset

end Sys2Proof.Machine
end

