-- ==== Sys2Proof/Machine/State.lean ====
section
/-! DEFINITION. Machine/State.lean: everything the manual gives the machine, as plain data. A register field has one home:
its bits in `regs`. What no register shows has a named field in the structure of its chapter. -/

namespace Sys2Proof.Machine

/-- Why a step stops with a fault. The block stops on no command: every address has a meaning (R9, R40) and every command
an effect, be it none; so there is no reason, and none is raised. Safe: nothing is claimed of a stop. -/
inductive Fault where
  deriving DecidableEq, Repr

/-- Why the machine gives a command no meaning. -/
inductive Refusal where
  /-- The command has no meaning in this model yet. Raised by `exec` alone. Safe: nothing is claimed of it. -/
  | notModelled (mnemonic : String)
  deriving DecidableEq, Repr

/-- Access responses (Table 02.2). -/
inductive Resp where
  | ok | gated | off | retired
  deriving DecidableEq, Repr

/-- The response and the data of the last page-space access. -/
structure Bus where
  resp : Resp := .ok
  data : Nat := 0
  /-- The data carries poison (R239, R509). -/
  poison : Bool := false
  deriving DecidableEq, Repr

/-- A log entry waiting in the queue (R65): Table 02.11 without SEQ and VALID. -/
structure LogRec where
  code : Nat
  sev : Nat
  agent : Nat
  prelock : Bool
  page : Nat
  bucket : Nat
  turn : Nat
  detail : Nat
  deriving DecidableEq, Repr

/-- A mailbox command as the processor took it: its words, its tag, and the response once the processor has one. -/
structure MailCmd where
  words : List Nat
  tag : Nat
  resp : Option (List Nat)
  deriving DecidableEq, Repr

/-- One channel of a mailbox: the running command, and the cancelled ones whose responses are to come, oldest first
(R63). -/
structure Chan where
  run : Option MailCmd := none
  cancelled : List MailCmd := []
  deriving DecidableEq, Repr

/-! ### Power (chapter 14) -/

/-- A power domain beside its registers: the level its circuits have reached, the running sequence, and what holds it. -/
structure Dom where
  /-- Level reached by the circuits (Table 14.2). -/
  level : Nat := 3
  /-- Step of the entry sequence, 1 to 4; 0 = none runs (Table 14.3). -/
  entry : Nat := 0
  /-- Step of the wake sequence, 1 to 4; 0 = none runs (Table 14.4). -/
  wake : Nat := 0
  /-- Level the running sequence goes to. -/
  goal : Nat := 3
  /-- The running wake began at OFF. -/
  fromOff : Bool := false
  /-- The running entry sequence follows a failed wake (R432). -/
  failing : Bool := false
  /-- STEP reads FAILED (R432). -/
  failed : Bool := false
  /-- The level kept after an abandoned close (R123). -/
  kept : Option Nat := none
  /-- What HLP's slot holds of HLP's own needs for a slab or a plane (R426). -/
  need : Nat := 0
  deriving DecidableEq, Repr

/-- The clock branches of a block (R121): bits 0 CORE, 1 PORT, 2 KEEP. -/
structure Gate where
  /-- Branches open now. -/
  branches : Nat := 7
  /-- Branches that open with the next bucket (R121). -/
  opening : Nat := 0
  /-- A close of branches waits for the bus port (R122). -/
  closing : Bool := false
  /-- The level the close belongs to. -/
  toLevel : Nat := 3
  /-- A close that an enable asked for was abandoned and is to be tried again (R123). -/
  again : Bool := false
  /-- A close of the whole tree, asked by R112, waits for the bus port; the tree is closed by it. -/
  treeClose : Bool := false
  treeClosed : Bool := false
  deriving DecidableEq, Repr

/-- The power cap (R445) between evaluations. -/
structure Pw where
  /-- Consecutive evaluations above P_LIMIT. -/
  above : Nat := 0
  /-- Domains under a power ceiling, latest first. -/
  ceils : List Nat := []
  /-- Power of the always-on domain, in 10 mW. -/
  always : Nat := 0
  /-- DDR4 channels whose REF_2X HLP has set (R449), and external channels last found above T_WARN, as masks. -/
  ref2x : Nat := 0
  extHot : Nat := 0
  deriving DecidableEq, Repr

/-- A temperature point between conversions. -/
structure Point where
  /-- Readings, newest first, at most 101 (R437). -/
  hist : List Int := []
  /-- Consecutive failed reference checks (R438). -/
  refFails : Nat := 0
  deriving DecidableEq, Repr

/-- The model check of one diode position of layer C (R439, R440). -/
structure CCheck where
  formed : Bool := false
  run0 : Nat := 0
  run1 : Nat := 0
  okRun : Nat := 0
  deriving DecidableEq, Repr

/-- A thermal zone between evaluations (R443). -/
structure Zone where
  shedRun : Nat := 0
  exitRun : Nat := 0
  /-- The last evaluation found T_LIMIT or above. -/
  limit : Bool := false
  deriving DecidableEq, Repr

/-! ### Clocks (chapter 04) -/

/-- A PLL beside its registers. -/
structure Pll where
  /-- It is locking, since this microsecond. -/
  locking : Option Nat := none
  /-- It failed under R109 and waits for a spare (R114). -/
  failed : Bool := false
  deriving DecidableEq, Repr

/-- A clock tree beside its registers. -/
structure Tree where
  /-- Source and divider of the running switch (Table 04.5). -/
  swSrc : Nat := 0
  swDiv : Nat := 0
  /-- The divider requested and waiting for the next bucket (R115). -/
  pendDiv : Option Nat := none
  /-- Divider in force. -/
  div : Nat := 0
  /-- The running switch, or the waiting divider, is a deferred write of a full image (R108). -/
  image : Bool := false
  /-- TIME64 of the bucket in which the tree stopped other than by a switch (R118). -/
  shutAt : Option Nat := none
  deriving DecidableEq, Repr

/-- The clock controller beside its registers. -/
structure Ck where
  /-- The start delay is over (R105). -/
  delayOver : Bool := false
  /-- Frequency counters whose window runs (R124). -/
  counting : List Nat := []
  /-- The timing PLL waits for every bucket-derived tree to close before it relocks (R112). -/
  relockWait : Bool := false
  /-- The timing PLL relocks and holds the bucket clock low (R112). -/
  bucketStopped : Bool := true
  /-- A retargeted spare and the failed PLL whose trees wait for it (R114). -/
  retargeted : List (Nat × Nat) := []
  deriving DecidableEq, Repr

/-! ### Machine time (chapter 03) -/

/-- The timing port beside its registers. -/
structure Tp where
  /-- TMG_CK toggles. -/
  ck : Bool := false
  /-- WORD_HUNT: alignment tried and good words in a row at it (R70). -/
  align : Nat := 0
  good : Nat := 0
  /-- TURN_HUNT: buckets since the last good marker, and the spacing before it. -/
  sinceMark : Option Nat := none
  spacing : Option Nat := none
  /-- LOCKED: words failing CHK in a row; turns in a row with a marker error; an error in this turn. -/
  failRun : Nat := 0
  errTurns : Nat := 0
  errNow : Bool := false
  /-- HOLDOVER: good words in a row that agree, and buckets passed. -/
  holdGood : Nat := 0
  holdBuckets : Nat := 0
  /-- The port has been LOCKED since cold start. -/
  everLocked : Bool := false
  /-- Turn length waiting for the next marker (R79). -/
  nextLen : Option Nat := none
  /-- Lay-by fields in force (R80), and whether a write waits for the turn boundary. -/
  layStart : Nat := 0
  layLen : Nat := 0
  layWait : Bool := false
  /-- The turn boundary at which that write takes effect has come. -/
  layDue : Bool := false
  /-- Times from which the next lay-by to begin is cancelled (R81). -/
  cancels : List Nat := []
  /-- The present lay-by is cancelled. -/
  layCancelled : Bool := false
  /-- A lay-by has been observed in this turn; none was in the turn before it. -/
  laySeen : Bool := false
  layNone : Bool := false
  /-- Broadcast stage, and whether TURN_LO came in this turn (R83). -/
  bstage : Nat := 0
  loSeen : Bool := false
  /-- Armed loads: value and TIME64 of the arm (R84). -/
  loadB : Option (Nat × Nat) := none
  loadS : Option (Nat × Nat) := none
  /-- Time bus of the present bucket: CMD, ARG, CMD_VALID. -/
  busCmd : Nat := 0
  busArg : Nat := 0
  busValid : Bool := false
  /-- The command of a good word received in the bucket before this one. -/
  prevCmd : Option Nat := none
  /-- Start-up over CFG_DONE (R99, R101). -/
  released : Bool := false
  /-- TIME64 of a sample that read high and has not been followed by a turn boundary. -/
  sampled : Option Nat := none
  relocked : Bool := false
  started : Bool := false
  /-- TIME64 of the start turn boundary. -/
  startAt : Nat := 0
  /-- User pins and flip-flops: global reset in force (Table 07.10). -/
  globalReset : Bool := true
  deriving DecidableEq, Repr

/-- A firing the scheduler has decided on: what the entry held at the decision (R90). -/
structure Firing where
  entry : Nat
  kind : Nat
  once : Bool
  irq : Bool
  action : Nat
  target : Nat
  ctx : Nat
  param : Nat
  /-- The entry has not been disarmed since. -/
  bound : Bool := true
  deriving DecidableEq, Repr

/-- The milestone scheduler beside its registers. -/
structure Ms where
  /-- CMD, CHAIN and late ABS firings to come: entry and the TIME64 at which it fires (R85). -/
  due : List (Nat × Nat) := []
  /-- Firings decided for the bucket after next, issued for the next bucket, and of this bucket (R90). -/
  decided : List Firing := []
  issued : List Firing := []
  firing : List Firing := []
  /-- Entries of `firing` whose action has been taken. -/
  acted : List Nat := []
  /-- Milestone event lines raised in this bucket, and those to raise in the next, by region (R88, R94). -/
  lines : List (Nat × Nat) := []
  nextLines : List (Nat × Nat) := []
  /-- Pins driven by PULSE: pin and the TIME64 at which the pulse ends. -/
  pulses : List (Nat × Nat) := []
  /-- Timers whose T_COUNT has reached 0 and whose expiry is to come (R94). -/
  expired : List Nat := []
  /-- The unit each timer counts in: T_UNIT as its last reload took it (R93). -/
  units : List (Nat × Nat) := []
  deriving DecidableEq, Repr

/-! ### Stores (chapter 11) -/

/-- A word of a word-code store (R323): the data it was written with, the codeword bits struck since, and whether it was
written as the poison pattern. -/
structure EWord where
  data : Nat := 0
  err : Nat := 0
  poison : Bool := false
  deriving DecidableEq, Repr

/-- An entry of a hot-word table (R327): address, syndrome, count and microsecond of the first correction. -/
structure Hot where
  addr : Nat
  synd : Nat
  count : Nat
  since : Nat
  deriving DecidableEq, Repr

/-- A repair record of a parameter block (R47). -/
structure Repair where
  entry : Nat
  kind : Nat
  committed : Bool
  dead : Bool
  spare : Nat
  place : Nat
  deriving DecidableEq, Repr

/-! ### Regions and contexts (chapters 05 and 06) -/

/-- A staging that runs (R169), and the region-clock edges since the one it applied on. -/
structure Staging where
  ctx : Nat
  src : Nat
  edges : Nat := 0
  deriving DecidableEq, Repr

/-- A stage or switch request: source of Table 06.3, context, the agent whose action it is, and the TIME64 of a register
write that came while buckets ran. -/
structure Req where
  src : Nat
  ctx : Nat
  agent : Nat
  since : Option Nat := none
  deriving DecidableEq, Repr

/-- The region-clock edge a switch or a staging was taken on: TIME64, the edge within its bucket, and the management-clock
cycle. -/
structure EdgeMark where
  t64 : Nat
  edge : Nat
  cycle : Nat
  deriving DecidableEq, Repr

/-- A causeway that both ends drive (R141). -/
structure Conflict where
  x : Nat
  r : Nat
  idx : Nat
  /-- The restage is over and the condition stayed. -/
  persists : Bool
  /-- The check after the restage passed: the drivers come back with the next region-clock edge. -/
  passed : Bool := false
  deriving DecidableEq, Repr

/-- A region beside its registers. -/
structure Rg where
  /-- Which latch set is active: 0 or 1 (§06.2). -/
  active : Nat := 0
  /-- The active latches hold the live context; false while they hold the cleared pattern (R218). -/
  live : Bool := false
  staging : Option Staging := none
  /-- Requests that wait for their edge, in the order made (Table 06.3). -/
  stgReqs : List Req := []
  swReqs : List Req := []
  /-- A staging taken on the edge of a switch: it applies with the next edge (R179). -/
  stgNext : Option Req := none
  /-- The edges on which a staging and a switch were last taken (R179). -/
  stgEdge : Option EdgeMark := none
  swEdge : Option EdgeMark := none
  /-- The cycle after a switch edge: the causeways of both contexts read 0 (R142). -/
  settling : Bool := false
  /-- RESTORE as read when the staged and the live context were staged (R170). -/
  stagedRestore : Bool := true
  liveRestore : Bool := true
  /-- A capture waits for its bucket edge (R157), asked for at this TIME64 while buckets ran. -/
  capReq : Bool := false
  capSince : Option Nat := none
  /-- TIME64 of the bucket on whose first edge the last capture was taken (R158). -/
  capEdge : Option Nat := none
  /-- SRST waits for the region's next clock edge (R144). -/
  srst : Bool := false
  /-- The strobes of the request cluster at the last edge: bit 0 stage, bit 1 switch (R178). -/
  strobes : Nat := 0
  /-- What the MGT and the VOTE port show (R153): RDATA, RESP and DONE of the last access, and ACK. -/
  mgtData : Nat := 0
  /-- An access of the MGT port that waits for its turn: WR, ADDR and WDATA. -/
  mgtWait : Option (Bool × Nat × Nat) := none
  mgtResp : Nat := 0
  mgtDone : Bool := false
  voteAck : Bool := false
  /-- What the RB port read at the last edges, newest first: RDATA and POISON of an edge with RE = 1 (R334). -/
  rbPipe : List (Option (Nat × Nat)) := []
  /-- Causeways whose drivers the checker holds off (R141), held at the LA region of the pair. -/
  conflicts : List Conflict := []
  /-- The layer of the fault behind PEND_COL (R155). -/
  pendLayer : Nat := 0
  deriving DecidableEq, Repr

/-! ### Loading (chapter 07) -/

/-- A frame that waits at the loader: its words, the CRC word it came with (none for REPEAT and ZERO), and how many more
times it is to be written. -/
structure Job where
  data : List Nat
  crc : Option Nat
  times : Nat
  deriving DecidableEq, Repr

/-- An encrypted section (R493). -/
structure Enc where
  slot : Nat
  iv : List Nat
  /-- The ENC_BEGIN packet's six words. -/
  aad : List Nat
  /-- Ciphertext words to come, and those received, newest first. -/
  left : Nat
  cipher : List Nat
  deriving DecidableEq, Repr

/-- The loader beside its registers. -/
structure Ld where
  /-- The load has completed (R219). -/
  complete : Bool := false
  /-- Order of the stream (R196): 0 IMAGE is awaited, 1 body, 2 HMAC passed, 3 CLOSE done, 4 START done. -/
  order : Nat := 0
  flags : Nat := 0
  imageId : Nat := 0
  /-- This device is selected (R195). -/
  selected : Bool := true
  far : Nat := 0
  /-- The open packet: OP, payload words to come, and the words kept, newest first. -/
  op : Nat := 0
  left : Nat := 0
  kept : List Nat := []
  /-- Byte address of the next word of a BULK packet. -/
  bulkAt : Nat := 0
  /-- Data of the last frame of the stream (R202). -/
  last : Option (List Nat) := none
  /-- Contexts written since the sync word, those whose bank was written, and the regions written. -/
  written : List (Nat × Nat) := []
  banks : List (Nat × Nat) := []
  regions : List Nat := []
  /-- RETIRED regions whose skip was logged, and SRC_BUSY logged, once per stream. -/
  skipped : List Nat := []
  busyTold : Bool := false
  /-- Deferred register writes (R197), in stream order. -/
  wreg : List (Nat × Nat) := []
  fenceSeen : Bool := false
  /-- HMAC cover: words since the IMAGE header, newest first, and whether it still grows (R492). -/
  macOn : Bool := true
  seen : List Nat := []
  macOk : Bool := false
  enc : Option Enc := none
  /-- Frames that wait, and words received behind them (R208). -/
  jobs : List Job := []
  buf : List Nat := []
  /-- Words in the slave port's FIFO (R104). -/
  fifo : List Nat := []
  /-- Votes CFP cast for the load: domain and its level before (R209). -/
  votes : List (Nat × Nat) := []
  /-- Writes deferred to the start turn boundary and to the lock of the PLLs, and the profiles the image requests
  (R198). -/
  late : List (Nat × Nat) := []
  srcWrites : List (Nat × Nat) := []
  profiles : List (Nat × Nat) := []
  /-- The image's own clock writes are being judged (R108). -/
  judging : Bool := false
  /-- Microsecond at which Memory Space Enable was first set, and of the last byte of a full image (R213). -/
  enumerated : Option Nat := none
  lastByte : Option Nat := none
  /-- Regions whose last image had READBACK_EN = 0 (R222), and the readback buffer by word. -/
  rbLocked : List Nat := []
  /-- RB_FAR as the running readback took it (R222). -/
  rbFar : Nat := 0
  rbBuf : List (Nat × Nat) := []
  deriving DecidableEq, Repr

/-! ### Trigger engines (chapter 08) -/

/-- A loop level: first and last address of the body, and the passes left. -/
structure Loop where
  first : Nat
  last : Nat
  left : Nat
  deriving DecidableEq, Repr

/-- An engine word in a FIFO: 576 data bits, tag, LAST, and the poisoned lanes as a mask. -/
structure FWord where
  data : Nat
  tag : Nat
  last : Bool
  poison : Nat
  deriving DecidableEq, Repr

/-- A stream FIFO (§08.6): engine words, oldest first; the assembly register, its writes and poisoned lanes; and the
fabric words of the head that an output has delivered. -/
structure Fifo where
  words : List FWord := []
  asm : Nat := 0
  asmN : Nat := 0
  asmP : Nat := 0
  out : Nat := 0
  deriving DecidableEq, Repr

/-- Why an engine does not issue. -/
inductive TeWait where
  | none
  /-- At a WAIT with field F and IMM, since TIME64. -/
  | wait (f imm since : Nat)
  /-- Stalled on an empty input or a full output FIFO. -/
  | popIn (f : Nat)
  | pushOut (f : Nat)
  deriving DecidableEq, Repr

/-- A trigger engine beside its registers and memories. -/
structure Te where
  wait : TeWait := .none
  /-- Innermost first. -/
  loops : List Loop := []
  /-- Vector registers by 32v + lane: 18 data bits and the poison bit above them. -/
  v : List (Nat × Nat) := []
  /-- Accumulators by 32k + lane, 48 bits. -/
  acc : List (Nat × Nat) := []
  /-- FIFOs 0 to 3 by number. -/
  fifos : List (Nat × Fifo) := []
  /-- PUSHCTL that waits for the next push, by output FIFO: tag + 128 · LAST. -/
  ctl : List (Nat × Option Nat) := []
  /-- What RTAG reads for each input FIFO. -/
  popped : List (Nat × Nat) := []
  /-- A register start request: agent and TIME64 of the write. A register halt request. -/
  startReq : Option (Nat × Option Nat) := .none
  haltReq : Bool := false
  /-- A move under §08.8 names this engine; `intact`: the failed engine's memories are intact. -/
  moving : Bool := false
  intact : Bool := false
  /-- ESTATE before FAILED. -/
  held : Nat := 0
  /-- TIME64 at which IN_DROP was last logged, by input FIFO. -/
  dropLog : List (Nat × Option Nat) := []
  /-- Next row of the scrub walk, and next instruction word. -/
  scrub : Nat := 0
  imScrub : Nat := 0
  deriving DecidableEq, Repr

/-! ### Network (chapter 12) -/

/-- A DAT data flit: 512 bits, the end-to-end code, POISON. -/
structure Flit where
  d : Nat
  chk : Nat
  poison : Bool
  deriving DecidableEq, Repr

/-- A packet: network (0 REQ, 1 RSP, 2 SNP, 3 DAT), VC, header flit, data flits. -/
structure Packet where
  net : Nat
  vc : Nat
  h : Nat
  flits : List Flit
  deriving DecidableEq, Repr

/-- A place on the mesh: column, row, endpoint. -/
structure Place where
  x : Nat
  y : Nat
  ep : Nat
  deriving DecidableEq, Repr

/-- Where a flit stands: how many routers of its route it has left (0 = it waits at the endpoint that offers it), and the
network-clock edge at which it came there. -/
structure Spot where
  pos : Nat
  came : Nat
  deriving DecidableEq, Repr

/-- A packet on its way: its number, the endpoint that offers it, and the spot of its header flit and of each data flit. -/
structure Worm where
  id : Nat
  src : Place
  p : Packet
  spots : List Spot
  deriving DecidableEq, Repr

/-- A line that regions share (R380): the line and the mask of sharers. -/
structure DirLine where
  line : Nat
  mask : Nat
  deriving DecidableEq, Repr

/-- A WRITE_DONE that waits for INV_ACKs (R381): line and region of each. -/
structure SnpWait where
  left : List (Nat × Nat)
  done : Packet
  deriving DecidableEq, Repr

/-- What a memory endpoint keeps of shared lines. -/
structure Home where
  dir : List DirLine := []
  waits : List SnpWait := []
  deriving DecidableEq, Repr

/-- A flit on the wires of a NET port (Table 12.6). -/
structure PortFlit where
  net : Nat
  vc : Nat
  head : Bool
  tail : Bool
  poison : Bool
  flit : Nat
  deriving DecidableEq, Repr

/-- The pulse a NET port gave last (R383). -/
inductive NetPulse where
  | refused | noSlot | tmo (tag : Nat)
  deriving DecidableEq, Repr

/-- What row 319 of the home region carries for a bank of general I/O pins: each word has the outputs in [23:0] and their
enables in [47:24] (R506). -/
structure GioPipe where
  /-- What the region-clock edge sampled last, what the GIO-clock edge after it took, and what the edge after that put on
  the balls. -/
  sampled : Nat := 0
  next : Nat := 0
  ball : Nat := 0
  /-- Inputs as the last GIO-clock edge sampled them, and as the region-clock edge after it took them. -/
  taken : Nat := 0
  shown : Nat := 0
  deriving DecidableEq, Repr

/-- A fabric NET port. Credits are kept by 4 · network + VC as the number in use. -/
structure NetPort where
  /-- DAT flits of a packet whose TAIL has not come, by VC. -/
  parts : List (Nat × List PortFlit) := []
  used : List (Nat × Nat) := []
  sent : List (Nat × Nat) := []
  /-- Flits delivered that wait for a credit, and the flit shown last. -/
  waiting : List PortFlit := []
  shown : Option PortFlit := none
  /-- Flits with a credit whose edge on the port-in wires is to come, oldest first. -/
  coming : List PortFlit := []
  pulse : Option NetPulse := none
  /-- Tags of READ and WRITE without an answer, and tags whose answer is discarded (R383). -/
  asked : List Nat := []
  late : List Nat := []
  deriving DecidableEq, Repr

/-- The network beside its registers. -/
structure Mesh where
  /-- Packets that have been offered and have not arrived, oldest first. -/
  flight : List Worm := []
  /-- Packets offered so far. -/
  offered : Nat := 0
  /-- Network-clock edges so far, and the slot of the next one (§12.1). -/
  edge : Nat := 0
  slot : Nat := 0
  /-- By output: the VC served last; by output and VC: the input served last (R368). -/
  lastVc : List (Nat × Nat) := []
  lastIn : List (Nat × Nat) := []
  /-- By link: the edge from which it is free after a replay (R376). -/
  busy : List (Nat × Nat) := []
  /-- Time-slot entries by bank, router, network, output and slot (R372). -/
  slots : List (Nat × Nat) := []
  homes : List (Nat × Home) := []
  ports : List (Nat × NetPort) := []
  /-- Microseconds of the last replays of each link, newest first, at most 17, and the links to be tested (R377). -/
  replays : List (Nat × List Nat) := []
  tests : List Nat := []
  /-- TIME64 of a TBL_COMMIT. -/
  commitAt : Nat := 0
  deriving DecidableEq, Repr

/-! ### Packers (chapter 09) -/

/-- A queued descriptor: its 512 bits, TURN and BUCKET of its write. -/
structure Desc where
  d : Nat
  turn : Nat
  bucket : Nat
  deriving DecidableEq, Repr

/-- An event in an output bank: its words, descriptor and the drop reason of a record (0 = a whole event). -/
structure Event where
  words : List Nat
  desc : Desc
  why : Nat
  deriving DecidableEq, Repr

/-- A packer beside its registers. -/
structure Packer where
  queue : List Desc := []
  /-- The event whose trailer is being formed. -/
  work : Option Event := none
  /-- Formed events, oldest first: two banks (R281). -/
  banks : List Event := []
  /-- TIME64 at which a drop of each reason was last logged. -/
  told : List (Nat × Option Nat) := []
  deriving DecidableEq, Repr

/-! ### DDR4 channels (chapter 11) -/

/-- A channel beside its registers. -/
structure Chn where
  training : Bool := false
  /-- Events that wait for room, by ring, oldest first: words and poisoned flits. -/
  rings : List (Nat × List (List (Nat × Bool))) := []
  patrol : Nat := 0
  /-- Microsecond at which the patrol's pass began. -/
  patrolAt : Nat := 0
  /-- Spills in a turn: the TURN, the count, and whether they were logged. -/
  spillTurn : Option Nat := none
  spills : Nat := 0
  deriving DecidableEq, Repr

/-! ### Shallots (chapter 10) -/

/-- A set of hits: TIME64 and BUCKET of its bucket, the hits kept as (layer, superstrip), the layers beyond the limit, and
whether it is matched. -/
structure HitSet where
  t64 : Nat
  bucket : Nat
  hits : List (Nat × Nat) := []
  hovf : Nat := 0
  thr : Bool := false
  seq : Nat := 0
  fill : Bool := false
  deriving DecidableEq, Repr

/-- A road: pattern, matched layers. -/
structure Road where
  pattern : Nat
  lmask : Nat
  deriving DecidableEq, Repr

/-- A set after its majority: what the road encoder read of it, and what its trailer says. -/
structure RoadSet where
  set : HitSet
  nroads : Nat
  roads : List Road
  bank : Nat
  fixed : Bool
  /-- Matched in BANDWIDTH (R308, R309). -/
  stream : Bool
  /-- Counted in ROAD_OVF_CNT. -/
  told : Bool := false
  /-- Struck bits of its words in the road buffer (R311): of road j at j, of the trailer at 4,096. -/
  struck : List (Nat × Nat) := []
  deriving DecidableEq, Repr

/-- A word a road port drives: ROAD, LAST, POISON. -/
structure RoadWord where
  road : Nat
  last : Bool
  poison : Bool
  deriving DecidableEq, Repr

/-- A shallot beside its registers. -/
structure Shallot where
  filling : Bool := false
  /-- The pending fill, or running one, is of this bank; `auto`: asked by AUTO_COMMIT (R296). -/
  fillBank : Nat := 0
  auto : Bool := false
  /-- When the pending fill was asked for: a bucket must begin first (R294, R296). -/
  fillSince : Option Nat := none
  /-- Bank a verify runs on. -/
  verify : Option Nat := none
  /-- Sets whose bucket has begun, oldest first; the set closed last; sets after their majority, oldest first. -/
  sets : List HitSet := []
  closed : Option HitSet := none
  results : List RoadSet := []
  /-- For each road port: TIME64 of the set it sends and the roads of it sent (R308). -/
  progress : List (Nat × (Nat × Nat)) := []
  /-- What each road port drove in its last window. -/
  out : List (Nat × List RoadWord) := []
  /-- Low half of a window word that waits for its high half. -/
  half : Option (Nat × Nat) := none
  /-- Lost patterns: bank, pattern, words rewritten since (R315). -/
  lost : List (Nat × Nat × Nat) := []
  /-- Next row of each slice's scrub, its passes, and the differences seen in this pass: pattern, bits, times. -/
  scrub : List (Nat × Nat) := []
  diffs : List (Nat × Nat × Nat) := []
  fixed : Bool := false
  deriving DecidableEq, Repr

/-! ### Lanes (chapter 13) -/

/-- A data cell in a transmit FIFO: its number since the half was enabled, payload, MARK, POISON, BTAG, TIME64 of entry. -/
structure TxCell where
  j : Nat
  pay : Nat
  mark : Bool
  poison : Bool
  btag : Nat
  t64 : Nat
  deriving DecidableEq, Repr

/-- A transmit half: its FIFO, the number of the next cell, and cells of a network event that wait for room (payload,
MARK, POISON). -/
structure TxHalf where
  fifo : List TxCell := []
  next : Nat := 0
  wait : List (Nat × Bool × Bool) := []
  deriving DecidableEq, Repr

/-- A transmit group beside its registers. -/
structure TxGroup where
  halves : List (Nat × TxHalf) := []
  /-- Electrical idle, or the 200 µs after it (R400). -/
  quiet : Bool := true
  /-- The park before the last move and the TIME64 at which the move applied, while old cells are still to go (R411). -/
  old : Option (Nat × Nat) := none
  /-- Turns since the last move. -/
  turns : Nat := 0
  /-- Last line bit and equal bits in a row of each lane, as 2 · run + bit (R391). -/
  runs : List (Nat × Nat) := []
  /-- Line bits of the cell each lane sent last. -/
  line : List (Nat × List Bool) := []
  deriving DecidableEq, Repr

/-- A cell a receive half holds: SEQ, BTAG, TIME64 of the bucket BTAG names, the 512 bits, POISON, CRCERR, and the
physical lane it came on (none: a placeholder). -/
structure RxCell where
  seq : Nat
  btag : Nat
  t64 : Nat
  data : Nat
  poison : Bool
  crcerr : Bool
  lane : Option Nat
  deriving DecidableEq, Repr

/-- A receive physical lane beside its registers. -/
structure RxLane where
  /-- As `runs` of a transmit group. -/
  run : Nat := 0
  good : Nat := 0
  bad : Nat := 0
  /-- CRC failures since the last check of R414. -/
  fails : Nat := 0
  deriving DecidableEq, Repr

/-- A logical lane of a receive group. -/
structure RxLogical where
  started : Bool := false
  /-- SEQ of the next cell to queue; SEQ up to which cells are known to have been sent. -/
  expect : Nat := 0
  shown : Nat := 0
  /-- BTAG and TIME64 of the last data cell queued; TIME64 of the newest good cell. -/
  btag : Nat := 0
  t64 : Nat := 0
  newest : Nat := 0
  /-- Cells ready in order, and cells behind a gap. -/
  ready : List RxCell := []
  early : List RxCell := []
  deriving DecidableEq, Repr

/-- What a LANE_RX port was driven with, oldest first. -/
structure RxOut where
  data : Nat
  bstart : Bool
  poison : Bool
  crcerr : Bool
  deriving DecidableEq, Repr

/-- A receive group beside its registers. -/
structure RxGroup where
  lanes : List (Nat × RxLane) := []
  logicals : List (Nat × RxLogical) := []
  /-- Destination words in force, by half (R404). -/
  slots : List (Nat × Nat) := []
  /-- Halves that came back up and have not delivered (R407), as a mask. -/
  resume : Nat := 0
  /-- BTAG of the cell delivered last, by half (R406). -/
  lastTag : List (Nat × Option Nat) := []
  /-- The running eye scan: its lane and ES_DWELL as they were at ES_GO (R416). -/
  scan : Nat × Nat := (0, 0)
  deriving DecidableEq, Repr

/-! ### Host bus (chapter 17) -/

/-- A network request that EP 6 sent for the host. -/
structure UserReq where
  tag : Nat
  region : Nat
  wr : Bool
  deriving DecidableEq, Repr

/-- How a user access was completed: successfully or by a Completer Abort, and the words of a read with their EP. -/
structure Completion where
  region : Nat
  tag : Nat
  ok : Bool
  words : List (Nat × Bool)
  deriving DecidableEq, Repr

/-- The host bus beside its registers. -/
structure Usr where
  /-- Requests without an answer, oldest first, and the last completion. -/
  reqs : List UserReq := []
  done : Option Completion := none
  /-- Events that wait, by host ring. -/
  rings : List (Nat × List (List (Nat × Bool))) := []
  /-- What the device has written to host memory: 64-bit words with their poison, by byte address over 8. -/
  hostMem : List (Nat × (Nat × Bool)) := []
  /-- MSI-X messages that rings have sent, by vector. -/
  vectors : List (Nat × Nat) := []
  /-- MSI-X table and pending bits: 32-bit words from BAR0 byte 0x0830_0000. -/
  msix : List (Nat × Nat) := []
  /-- QUIESCE_N is low; it rose before QUIESCE_DONE (R514). -/
  quiet : Bool := false
  rose : Bool := false
  /-- Start-up waits at the end of SELFTEST for QUIESCE_N to rise (R513). -/
  held : Bool := false
  /-- PERST_N is low in service; the link has not trained since (R504). -/
  perst : Bool := false
  perstSince : Bool := false
  deriving DecidableEq, Repr

/-! ### The scrub walker, self-test and wear (chapter 15) -/

/-- A self-test slice that runs: its kind, the entry of its unit, the vote HLP put aside for it (domain and level) and the
frequency counter it claims. -/
structure Slice where
  kind : Nat
  entry : Nat
  vote : Option (Nat × Nat)
  counter : Option Nat
  deriving DecidableEq, Repr

/-- A stuck-latch candidate: lane, latch bit and value, rewrites since a microsecond. -/
structure Cand where
  lane : Nat
  bit : Nat
  value : Nat
  count : Nat
  since : Nat
  deriving DecidableEq, Repr

/-- A column remap that waits for its pair's running one (R456): pair, physical column and layer; called for by a bond via
(R18) or by the stuck latch of that key. -/
structure Remap where
  pair : Nat
  col : Nat
  layer : Nat
  via : Bool
  latch : Nat
  deriving DecidableEq, Repr

/-- A wear monitor: SLOW in 0.01 %, compensation in 10 mV, alarm, and whether it is ignored. -/
structure Wear where
  slow : Int := 0
  bias : Int := 0
  alarm : Bool := false
  ignored : Bool := false
  deriving DecidableEq, Repr

/-- The walker beside its registers. -/
structure Walker where
  /-- Tile parity of layer C as its difference from the parity of the words as written: row bits [7:0], column bits [15:8];
  by plane, tile and byte lane (R330). -/
  tiles : List (Nat × Nat) := []
  /-- Next cluster row of each lane's array walk; microsecond at which each pass began, by 2 · lane + walk. -/
  at_ : List (Nat × Nat) := []
  began : List (Nat × Nat) := []
  cands : List Cand := []
  /-- Latches taken to be stuck for which no spare column is left (R465). -/
  stuck : List Nat := []
  /-- Copies of the voted control state that disagree with the other two (R466). -/
  outvoted : List Nat := []
  /-- Codeword bits struck in each lane's working tables, by 8 · lane + word, and their tile parity differences by
  10 · lane + tile (R466). -/
  tables : List (Nat × Nat) := []
  tablePar : List (Nat × Nat) := []
  slices : List Slice := []
  /-- Units whose last slice of a kind failed once: kind and entry (R469). -/
  failedOnce : List (Nat × Nat) := []
  wears : List (Nat × Wear) := []
  /-- Column remaps that wait for the pair's running one, oldest first (R456), and the running ones. -/
  remaps : List Remap := []
  running : List Remap := []
  deriving DecidableEq, Repr

/-! ### Security (chapter 16) -/

/-- The security processor beside its registers. -/
structure Sec where
  /-- Words of the patch buffer by word number (§16.3). -/
  patchBuf : List (Nat × Nat) := []
  /-- Firmware patches in force: words by 8192 · processor + word, and length in bytes by processor (R490). -/
  patches : List (Nat × Nat) := []
  patchLen : List (Nat × Nat) := []
  /-- SHA-256 of each processor's patch, first byte most significant. -/
  patchHash : List (Nat × Nat) := []
  /-- SCP restarts for its own patch once the response on this channel is sent. -/
  restartAfter : Option Nat := none
  /-- STATE and LINK of the entries that the eFuse repair store holds (R457). -/
  fused : List (Nat × (Nat × Nat)) := []
  deriving DecidableEq, Repr

/-- The machine. -/
structure State where
  /-- Commands waiting, first in, first out. -/
  pending : List Instr := []
  /-- The model's own counter of free values drawn (log entry 2). -/
  fresh : Nat := 0
  /-- Management-clock cycles since cold-start release. -/
  cycles : Nat := 0
  /-- Every register field of the page space: bit address of its least bit, and how its value differs (bitwise) from
  the value its table gives for a cold start. -/
  regs : List (Nat × Nat) := []
  bus : Bus := {}
  /-- High words latched by a read of the low word (R7), by address of the high word. -/
  shadow : List (Nat × Option Nat) := []
  logQ : List LogRec := []
  chans : List (Nat × Chan) := []
  doms : List (Nat × Dom) := []
  gates : List (Nat × Gate) := []
  plls : List (Nat × Pll) := []
  trees : List (Nat × Tree) := []
  ck : Ck := {}
  tp : Tp := {}
  ms : Ms := {}
  ld : Ld := {}
  pw : Pw := {}
  /-- Regions beside their registers. -/
  rgs : List (Nat × Rg) := []
  /-- Configuration SRAM of layer C: slots by region, context, x, minor 0 to 15 and r (R128). -/
  cfg : List (Nat × EWord) := []
  /-- The two latch sets of every cluster: slots by set, region, x, minor and r (§06.2). -/
  latch : List (Nat × Nat) := []
  /-- Flip-flops: Q of the 16 cells by region, x and r. -/
  ff : List (Nat × Nat) := []
  /-- Restore latches of every cluster: Q in [15:0], poisoned bytes in [17:16] (R170). -/
  restore : List (Nat × Nat) := []
  /-- State and capture banks: byte codewords by region, bank 0 to 8, x, r and byte (R322). -/
  sbank : List (Nat × Nat) := []
  /-- Block memories: byte codewords by region, block and byte (R145). -/
  bm : List (Nat × Nat) := []
  /-- RDATA in [15:0] and POISON in [17:16] of each block-memory port, by region, block and port (R146). -/
  bmOut : List (Nat × Nat) := []
  /-- What the fabric's last access of each port reads, a region-clock edge before it is driven (R146). -/
  bmNext : List (Nat × Nat) := []
  /-- Port tile registers of each row: the 64 port-in and the 64 port-out wires, by region and row (§05.6). -/
  portIn : List (Nat × Nat) := []
  portOut : List (Nat × Nat) := []
  /-- Banks of general I/O pins that the fabric serves (R506). -/
  gio : List (Nat × GioPipe) := []
  /-- One more than the region whose MGT port was served last; 0 before the first (R153). -/
  mgtLast : Nat := 0
  /-- Region buffers: words by slab and word number. -/
  rb : List (Nat × EWord) := []
  /-- RDATA and POISON of each RB port after its last read (R334), by region. -/
  rbOut : List (Nat × (Nat × Nat)) := []
  /-- DDR4: words by channel and word number. -/
  ddr : List (Nat × EWord) := []
  tes : List (Nat × Te) := []
  /-- Engine data memories: lane codewords by engine, row and lane. -/
  dm : List (Nat × Nat) := []
  /-- Engine instruction memories, by engine and word. -/
  im : List (Nat × EWord) := []
  mesh : Mesh := {}
  packers : List (Nat × Packer) := []
  chns : List (Nat × Chn) := []
  shallots : List (Nat × Shallot) := []
  /-- Golden copies: words by shallot, bank, pattern and word (R287, R291). -/
  gold : List (Nat × EWord) := []
  /-- Associative rows by shallot and pattern: SS_0 to SS_7 in [127:0], MASK in [159:128], VALID in [160]. -/
  arows : List (Nat × Nat) := []
  usr : Usr := {}
  wk : Walker := {}
  txs : List (Nat × TxGroup) := []
  rxs : List (Nat × RxGroup) := []
  /-- What each LANE_RX port was driven with last, by 2 · region + port. -/
  rxOut : List (Nat × List RxOut) := []
  /-- Next unit of each scrub walk of a slab, by 3i + array (R339). -/
  walks : List (Nat × Nat) := []
  /-- Hot-word tables by store (R327). -/
  hots : List (Nat × List Hot) := []
  /-- Row moves that wait for their copy: store and row (R328). -/
  moves : List (Store × Nat) := []
  /-- Repair records of all parameter blocks, oldest first (R47). -/
  repairs : List Repair := []
  /-- Codeword bits struck in the parameter stores, by 64-bit word of the Waybook's parameter area, and the difference of the
  mender's parity there, by 10 · (word / 8) + lane (R329, R330). -/
  paramErrs : List (Nat × Nat) := []
  paramPar : List (Nat × Nat) := []
  /-- Corrections since the last summary and the microsecond of that summary, by page and array (R358). -/
  ceSums : List (Nat × (Nat × Nat)) := []
  /-- TIME64 at which an event logged at most once per bucket was last logged, by page and code. -/
  lastLogs : List (Nat × Option Nat) := []
  points : List (Nat × Point) := []
  cchecks : List (Nat × CCheck) := []
  zones : List (Nat × Zone) := []
  /-- Keys of slots 1 to 7 as 256-bit numbers, first byte most significant (R482). -/
  keys : List (Nat × Nat) := []
  sec : Sec := {}
  /-- A ROM failed its self-test: ALERT_N stays asserted (Table 15.4). -/
  romFail : Bool := false
  deriving DecidableEq, Repr

/-- The machine right after reset: every register at the value its table prints for a cold start (or Machine/Reset.lean
gives), nothing written anywhere, no command waiting. -/
def State.reset : State := { regs := resetRegs }

end Sys2Proof.Machine
end

