-- ==== Sys2Proof/Machine/Ops.lean ====
section
/-! DEFINITION. Machine/Ops.lean: the operations every chapter shares: register fields, latched interrupts, the error log,
the Waybook, claims on shared resources, and the answer a block gives an access. -/

namespace Sys2Proof.Machine

/-! ### Register fields -/

/-- The value of field r (instance i) of page pg. -/
def State.rd (s : State) (pg : Nat) (r : Row) (i : Nat := 0) : Nat := mget 0 s.regs (fieldKey pg r i) ^^^ r.reset

/-- Write field r (instance i) of page pg; the value is cut to the field's width. -/
def State.wr (s : State) (pg : Nat) (r : Row) (v : Nat) (i : Nat := 0) : State :=
  { s with regs := mset 0 s.regs (fieldKey pg r i) ((v % 2 ^ r.width) ^^^ r.reset) }

/-- A one-bit field as a Bool. -/
def State.flag (s : State) (pg : Nat) (r : Row) (i : Nat := 0) : Bool := s.rd pg r i = 1

/-- Count n events in a field that saturates at its maximum. -/
def State.count (s : State) (pg : Nat) (r : Row) (n : Nat := 1) (i : Nat := 0) : State :=
  s.wr pg r (satAdd r.width (s.rd pg r i) n) i

/-- Do f when b holds. -/
def State.doIf (s : State) (b : Bool) (f : State → State) : State := if b then f s else s

/-- Do f for every x of a list, in order. -/
def State.each {α : Type} (s : State) (xs : List α) (f : α → State → State) : State := xs.foldl (fun s x => f x s) s

/-- Draw a fresh free value (log entry 2). -/
def State.draw (s : State) : Nat × State := (Config.free s.fresh, { s with fresh := s.fresh + 1 })

/-- Microseconds since cold-start release: 500 management-clock cycles each. -/
def State.us (s : State) : Nat := s.cycles / 500

/-- A field of every table of page pg from byte offset 0x040 on takes its cold-start value (R8). -/
def State.resetPage (s : State) (pg : Nat) : State :=
  { s with regs := mclear s.regs ((pg * 4096 + 0x40) * 8) ((4096 - 0x40) * 8) }

/-! ### The structures held by number -/

def State.dom (s : State) (d : Nat) : Dom := mget {} s.doms d
def State.setDom (s : State) (d : Nat) (v : Dom) : State := { s with doms := mset {} s.doms d v }
def State.gate (s : State) (e : Nat) : Gate := mget {} s.gates e
def State.setGate (s : State) (e : Nat) (v : Gate) : State := { s with gates := mset {} s.gates e v }
def State.pll (s : State) (p : Nat) : Pll := mget {} s.plls p
def State.setPll (s : State) (p : Nat) (v : Pll) : State := { s with plls := mset {} s.plls p v }
def State.tree (s : State) (t : Nat) : Tree := mget {} s.trees t
def State.setTree (s : State) (t : Nat) (v : Tree) : State := { s with trees := mset {} s.trees t v }
def State.chan (s : State) (k : Nat) : Chan := mget {} s.chans k
def State.setChan (s : State) (k : Nat) (v : Chan) : State := { s with chans := mset {} s.chans k v }

/-! ### Machine time as other chapters see it -/

/-- STATE of the timing port. -/
def State.tpState (s : State) : Nat := s.rd Pg.timing Tp.STATE
/-- LOCKED or in HOLDOVER. -/
def State.timed (s : State) : Bool := s.tpState = 4 || s.tpState = 5
def State.turn (s : State) : Nat := s.rd Pg.timing Tp.TURN
def State.bucket (s : State) : Nat := s.rd Pg.timing Tp.BUCKET
def State.time64 (s : State) : Nat := s.rd Pg.timing Tp.TIME64_HI * 2 ^ 32 + s.rd Pg.timing Tp.TIME64_LO
def State.turnLen (s : State) : Nat := s.rd Pg.timing Tp.TURN_LEN_USED
/-- The moment of a register request that waits for a bucket. -/
def State.stamp (s : State) : Option Nat := if s.timed then some s.time64 else none
/-- A bucket has begun since a request was made: its first clock edge takes the request (R157, Table 06.3). -/
def State.bucketSince (s : State) (since : Option Nat) : Bool := s.timed && since.all (· < s.time64)
/-- IN_LAYBY. -/
def State.inLayby (s : State) : Bool := s.flag Pg.timing Tp.IN_LAYBY
/-- Stamped before timing lock: the port has not been LOCKED since cold start (R103). -/
def State.prelock (s : State) : Bool := !s.tp.everLocked

/-! ### Interrupts -/

/-- Bit b of IRQ_RAW. -/
def irqBit (b : Nat) : Row := row 0x010 b 1 .ro 0

/-- Latch bit b of IRQ_RAW of page pg (R50). -/
def State.irq (s : State) (pg b : Nat) : State := s.wr pg (irqBit b) 1

/-- The page's interrupt: the OR of IRQ_STAT (Table 02.7). -/
def State.pageIrq (s : State) (pg : Nat) : Bool :=
  (List.range 32).any fun b => s.flag pg (irqBit b) && bitOf (s.rd pg Hdr.IRQ_EN) b = 1

/-! ### The central error log (R64 to R66) -/

/-- One more entry lost: LOG_LOST counts and LOSS latches (Table 02.13). -/
def State.logLost (s : State) : State := (s.count Pg.log Log.LOG_LOST).irq Pg.log 17

/-- Put an entry behind those that wait; a full queue drops it (R65). -/
def State.enqueue (s : State) (r : LogRec) : State :=
  if 32 ≤ s.logQ.length then s.logLost else { s with logQ := s.logQ ++ [r] }

/-- Queue an entry for page pg; the page counts it and latches ERR (R65, Table 02.7). -/
def State.log (s : State) (pg code sev agent detail : Nat) : State :=
  let s := (s.count pg Hdr.COUNT).irq pg 0
  let pre := s.prelock
  s.enqueue { code, sev, agent, prelock := pre, page := pg, bucket := s.bucket
              turn := if pre then s.us % 2 ^ 32 else s.turn, detail := detail % 2 ^ 32 }

/-- The place of an entry among those of simultaneous events: its page; STATE_CHANGE entries stand behind all others, by their
Waybook entry (R65). -/
def LogRec.rank (r : LogRec) : Nat := if r.code = 0x04 then 2 ^ 16 + r.detail % 2 ^ 16 else r.page

/-- Insert an entry by its place, before those of the same place. -/
def insertRec (r : LogRec) : List LogRec → List LogRec
  | [] => [r]
  | q :: qs => if r.rank ≤ q.rank then r :: q :: qs else q :: insertRec r qs

/-- Do f, whose events fall together: what it logs is queued in the order of R65. -/
def State.simultaneous (s : State) (f : State → State) : State :=
  let t := f { s with logQ := [] }
  (t.logQ.foldr insertRec []).foldl State.enqueue { t with logQ := s.logQ }

/-- A hardware event's entry: its agent is HLP (Table 02.11). -/
def State.logHw (s : State) (pg code sev detail : Nat) : State := s.log pg code sev Ag.hlp detail

/-- Log a hardware event at most once per bucket; sub tells apart what a code logs by itself. -/
def State.logOnce (s : State) (pg code sev detail : Nat) (sub : Nat := 0) : State :=
  let k := (pg * 256 + code) * 2 ^ 16 + sub
  if mget none s.lastLogs k = some s.time64 then s
  else ({ s with lastLogs := mset none s.lastLogs k (some s.time64) }).logHw pg code sev detail

/-- WRITE_IGNORED of page pg (R14). -/
def State.ignored (s : State) (pg : Nat) : State := s.wr pg Hdr.WRITE_IGNORED 1

/-- An RWL write or a KEY refused at byte offset off: LOCK_REFUSED, its interrupt and its log entry (Table 02.12). -/
def State.lockRefused (s : State) (pg off agent : Nat) : State :=
  ((s.wr pg Hdr.LOCK_REFUSED 1).irq pg 2).log pg 0x02 Sev.info agent (off % 4096)

/-- A direct write to an AUTH field refused (R10, Table 02.12). -/
def State.authRefused (s : State) (pg off agent : Nat) : State :=
  ((s.wr pg Hdr.LOCK_REFUSED 1).irq pg 2).log pg 0x03 Sev.info agent (off % 4096)

/-- DETAIL of CLAIM_REFUSED (Table 02.11): registry index or 0x7FF, owner agent, owner feature. -/
def claimDetail (idx agent feature : Nat) : Nat := idx % 2048 + (agent % 8) * 2 ^ 11 + (feature % 256) * 2 ^ 14

/-- A claim or a channel access refused on page pg (R52, R56, R59, R60). -/
def State.claimRefused (s : State) (pg agent detail : Nat) : State :=
  ((s.wr pg Hdr.CLAIM_REFUSED 1).irq pg 1).log pg 0x01 Sev.info agent detail

/-! ### Shared resources (R55 to R58) -/

/-- The owner words of the registry: OWN_AGENT, OWN_FEATURE, CLAIMED as in Table 02.7. -/
def ownAgent : Row := rows 0x040 0 3 .rw 0 4 1008
def ownFeature : Row := rows 0x040 8 8 .rw 0 4 1008
def ownClaimed : Row := rows 0x040 16 1 .rw 0 4 1008

def State.claimed (s : State) (idx : Nat) : Bool := s.flag (Pg.registry idx) ownClaimed (idx % 1008)
def State.claimAgent (s : State) (idx : Nat) : Nat := s.rd (Pg.registry idx) ownAgent (idx % 1008)
def State.claimFeature (s : State) (idx : Nat) : Nat := s.rd (Pg.registry idx) ownFeature (idx % 1008)

def State.setClaim (s : State) (idx agent feature : Nat) (c : Bool) : State :=
  ((s.wr (Pg.registry idx) ownAgent agent (idx % 1008)).wr (Pg.registry idx) ownFeature feature (idx % 1008)).wr
    (Pg.registry idx) ownClaimed (bit c) (idx % 1008)

/-- The claim on resource idx ends: the registry clears CLAIMED (R58). -/
def State.unclaim (s : State) (idx : Nat) : State := s.wr (Pg.registry idx) ownClaimed 0 (idx % 1008)

/-- Whether agent and feature may enable resource idx: it is free or theirs (R55, R56). -/
def State.mayClaim (s : State) (idx agent feature : Nat) : Bool :=
  !s.claimed idx || (s.claimAgent idx = agent && s.claimFeature idx = feature)

/-- Refusal of a claim on idx at page pg, naming the owner (R56). -/
def State.refuseClaim (s : State) (pg idx agent : Nat) : State :=
  s.claimRefused pg agent (claimDetail idx (s.claimAgent idx) (s.claimFeature idx))

/-! ### The Waybook (R42 to R48) -/

def State.wb (s : State) (e : Nat) (r : Row) : Nat := s.rd 0 r e
def State.setWb (s : State) (e : Nat) (r : Row) (v : Nat) : State := s.wr 0 r v e

/-- STATE of entry e. -/
def State.blk (s : State) (e : Nat) : Nat := s.wb e Wbe.STATE

/-- A block that may be used (R45). -/
def State.usable (s : State) (e : Nat) : Bool := s.blk e != St.spare && s.blk e != St.retired

/-- The profile in force for entry e (Table 02.5). -/
def State.profile (s : State) (e : Nat) : Nat := (profileHome e).elim 0 fun h => s.wb h Wbe.PROFILE

/-- PROFILE_PEND and PEND_VALID of entry e. -/
def State.profilePend (s : State) (e : Nat) : Nat := (profileHome e).elim 0 fun h => s.wb h Wbe.PROFILE_PEND
def State.pendValid (s : State) (e : Nat) : Bool := (profileHome e).elim false fun h => s.wb h Wbe.PEND_VALID = 1

/-- One change of STATE in a Waybook update: entry, new STATE, LINK, REASON. -/
structure WbChange where
  entry : Nat
  state : Nat
  link : Nat
  reason : Nat
  deriving DecidableEq, Repr

/-- Write one change of STATE with its stamp (Table 02.5). -/
def State.wbStamp (s : State) (c : WbChange) : State :=
  let s := ((s.setWb c.entry Wbe.STATE c.state).setWb c.entry Wbe.LINK c.link).setWb c.entry Wbe.REASON c.reason
  let s := s.setWb c.entry Wbe.STATE_TURN (if s.prelock then s.us else s.turn)
  let s := (s.setWb c.entry Wbe.STATE_BUCKET s.bucket).setWb c.entry Wbe.PRELOCK (bit s.prelock)
  s.setWb c.entry Wbe.COMMITTED 0

/-- STATE_CHANGE of one entry: interrupt and log entry on its page (R48, Table 02.12). The pages of entry 0 carry no
header, and the manual names no other page for it: page 0x0012 stands in (DESIGN CHOICE, log entry 139). -/
def State.wbNotify (s : State) (c : WbChange) : State :=
  let pg := if c.entry = 0 then Pg.log else pageOf c.entry
  (s.irq pg 4).logHw pg 0x04 (if c.state = St.degraded ∨ c.state = St.retired then Sev.degraded else Sev.info)
    (c.entry + c.state * 2 ^ 16)

/-- Insert by entry number. -/
def insertChange (c : WbChange) : List WbChange → List WbChange
  | [] => [c]
  | d :: ds => if c.entry ≤ d.entry then c :: d :: ds else d :: insertChange c ds

/-- A Waybook update: GEN passes from even to the next even value, every changed field is written, and each change of
STATE raises STATE_CHANGE and is logged in ascending entry order (R48). Further fields are written by f. -/
def State.wbUpdate (s : State) (cs : List WbChange) (f : State → State := id) : State :=
  let cs := cs.filter fun c => s.blk c.entry ≠ c.state
  let s := f (s.each cs fun c s => s.wbStamp c)
  let s := s.wr 0 Wbh.GEN (s.rd 0 Wbh.GEN + 2)
  s.each (cs.foldr insertChange []) fun c s => s.wbNotify c

/-- A repair record in entry e's parameter block: REPAIR_COUNT counts it (Table 02.5). -/
def State.countRepair (s : State) (e : Nat) : State := s.setWb e Wbe.REPAIR_COUNT (satAdd 16 (s.wb e Wbe.REPAIR_COUNT) 1)

/-- The physical engine that hosts logical engine n. -/
def State.hostEngine (s : State) (n : Nat) : Option Nat :=
  (List.range 104).find? fun t => s.wb (En.engine t) Wbe.LOGICAL = n

/-- The logical engine that physical engine t hosts, if any. -/
def State.logicalOf (s : State) (t : Nat) : Option Nat :=
  let n := s.wb (En.engine t) Wbe.LOGICAL
  if n < 96 then some n else none

/-- Tree t stops. A transmit group whose tree closes goes to electrical idle (R400). -/
def State.treeShut (s : State) (t : Nat) : State :=
  let s := s.doIf (s.flag Pg.clocks Clk.OPEN t) fun s => s.setTree t { s.tree t with shutAt := some s.time64 }
  let s := s.wr Pg.clocks Clk.OPEN 0 t
  if 157 ≤ t ∧ t < 169 then { s with txs := mset {} s.txs (t - 157) { mget {} s.txs (t - 157) with quiet := true } } else s

/-! ### How a block answers (Table 02.2) -/

/-- The block whose branches entry e runs on: a packer's are its region's (R107). -/
def gateEntry (e : Nat) : Nat := if typeOf e = 0x32 then e - 280 + 44 else e

/-- A close waits for the bus port. -/
def Gate.waits (g : Gate) : Bool := g.closing || g.treeClose

/-- GATED of entry e (R122): a close waits, or the branch of its bus port is closed. -/
def State.gatedOff (s : State) (e : Nat) : Bool :=
  let g := s.gate (gateEntry e)
  g.waits || g.treeClosed || bitOf g.branches 1 = 0

/-- The response of page pg to agent ag at a block-specific offset. -/
def State.response (s : State) (ag pg : Nat) : Resp :=
  match entryOfPage pg with
  | none => .ok
  | some e =>
    if s.blk e = St.retired ∨ (s.blk e = St.spare ∧ ag ≠ Ag.hlp) then .retired
    else
      let d := domainOf e
      if d ≠ alwaysOn ∧ ((s.dom d).level ≤ 1 ∨ 2 ≤ (s.dom d).entry ∨ (s.dom d).wake ≠ 0) then .off
      else if s.gatedOff e then .gated
      else .ok

/-- Whether agent ag reaches the page space: the debug port only once unlocked (R495). -/
def State.reaches (s : State) (ag : Nat) : Bool := ag ≠ Ag.debug || s.flag (Pg.mailbox 2) Scp.DEBUG_OPEN

/-- Number of a response in LAST_RESP (Table 17.10). -/
def Resp.code : Resp → Nat
  | .ok => 0
  | .gated => 1
  | .off => 2
  | .retired => 3

/-- An access of agent ag to page pg is not served; one of the host is counted on the PCIe page (R509). -/
def State.refusedAccess (s : State) (ag pg : Nat) (r : Resp) : State :=
  let s := { s with bus := { resp := r, data := 0 } }
  if ag = Ag.host then
    ((s.count Pg.pcie Pcie.PS_REFUSED_CNT).wr Pg.pcie Pcie.LAST_RESP r.code).wr Pg.pcie Pcie.LAST_PAGE pg
  else s

/-- Do f on a block-specific register of page pg for agent ag, when the block answers OK; note the response (R39).
`shown` is the page the access names, where that is a page of a bulk window. -/
def State.access (s : State) (ag pg : Nat) (f : State → State) (shown : Nat := pg) : State :=
  if !s.reaches ag then s
  else match s.response ag pg with
    | .ok => f { s with bus := { resp := .ok, data := 0 } }
    | r => s.refusedAccess ag shown r

/-- The data of a read; poisoned data reach the host with EP = 1 (Table 17.8). -/
def State.answer (s : State) (ag pg data : Nat) (poison : Bool := false) : State :=
  let s := { s with bus := { s.bus with data := data, poison := poison } }
  s.doIf (poison && ag = Ag.host) fun s => (s.count Pg.pcie Pcie.POISON_CPL_CNT).logHw Pg.pcie 0x25 Sev.info pg

/-- Do f on a header register (R38): the page shell always answers. -/
def State.shell (s : State) (ag : Nat) (f : State → State) : State :=
  if s.reaches ag then f { s with bus := { resp := .ok, data := 0 } } else s

/-- A write of one field whose row gives RW: the written value takes effect. -/
def State.put (s : State) (pg : Nat) (r : Row) (word : Nat) (i : Nat := 0) : State :=
  s.wr pg r (bitsOf word r.lo r.width) i

/-- The page's LOCK is open (R53). -/
def State.lockOpen (s : State) (pg : Nat) : Bool := s.flag pg Hdr.LOCK_OPEN

end Sys2Proof.Machine
end

