-- ==== Sys2Proof/Machine/Votes.lean ====
section
/-! DEFINITION. Machine/Votes.lean: the level a domain takes (R423), branch enables and gate closes (R121 to R123), and the
start of the entry and wake sequences (R430, R431, R433). -/

namespace Sys2Proof.Machine

/-! ### Votes and ceilings -/

/-- The vote word of domain d: two bits for each agent (R54). -/
def State.slots (s : State) (d : Nat) : Nat := s.rd (pageOf (entryOfDomain d)) Hdr.SLOT
def State.setSlots (s : State) (d v : Nat) : State := s.wr (pageOf (entryOfDomain d)) Hdr.SLOT v

/-- Vote of agent a for domain d. -/
def State.vote (s : State) (d a : Nat) : Nat := bitsOf (s.slots d) (2 * a) 2

/-- The highest of the eight votes. -/
def highest (slots : Nat) : Nat := (List.range 8).foldl (fun h a => max h (bitsOf slots (2 * a) 2)) 0

/-- The zone of Table 14.6 that a logical engine lies in. -/
def engineZone (n : Nat) : Nat := 5 * ((n / 12) % 4) + (5 * (n % 12)) / 12

/-- Zones that act on domain d (Table 14.6). -/
def State.zonesOf (s : State) (d : Nat) : List Nat :=
  (if d < 120 then [d % 40 % 20]
   else if d < 224 then (s.logicalOf (d - 120)).elim [] fun n => [engineZone n]
   else if d < 236 then [20 + (d - 224)] else []) ++ (if d = 268 then [] else [32])

def State.zstate (s : State) (z : Nat) : Nat := s.rd Pg.thermal Thr.ZSTATE z

/-- CEIL of domain d: RET while a zone of it is at SHED or a power ceiling stands on it, 3 = none (R423, R443, R445). -/
def State.ceil (s : State) (d : Nat) : Nat :=
  if (s.zonesOf d).any (fun z => s.zstate z = 3) || s.pw.ceils.contains d then 1 else 3

/-- THROT of domain d (R444, R445): an engine or a shallot in a zone at THROTTLE or above, or under the power cap. -/
def State.throttled (s : State) (d : Nat) : Bool :=
  120 ≤ d && d < 236 && ((s.zonesOf d).any (fun z => 2 ≤ s.zstate z) || s.flag Pg.power Pwr.PCAP)

/-- Every entry of domain d is RETIRED: it is held at OFF (R458). -/
def State.allRetired (s : State) (d : Nat) : Bool := (entriesOfDomain d).all fun e => s.blk e = St.retired

/-- The level the votes and the ceiling ask for (R423); none above OFF while the domain is held there (R432, R458). -/
def State.asked (s : State) (d : Nat) : Nat :=
  if (s.dom d).failed || s.allRetired d then 0 else min (highest (s.slots d)) (s.ceil d)

/-- The level the domain takes, as LEVEL and TAKEN read it (R423, R123). -/
def State.taken (s : State) (d : Nat) : Nat :=
  if (s.dom d).failed || s.allRetired d then 0 else (s.dom d).kept.getD (s.asked d)

/-- STEP of domain d (Table 14.8). -/
def State.stepCode (s : State) (d : Nat) : Nat :=
  if (s.dom d).failed then 6 else if (s.dom d).entry ≠ 0 then 5 else (s.dom d).wake

/-- The power state of entry e is ON: its circuits run at RUN or SLEEP and no sequence has them down. -/
def State.isOn (s : State) (e : Nat) : Bool :=
  domainOf e = alwaysOn || (2 ≤ (s.dom (domainOf e)).level && (s.dom (domainOf e)).entry ≤ 1
    && (s.dom (domainOf e)).wake = 0)

/-- The CORE branch of entry e is open and its tree delivers edges (R121, R103). -/
def State.coreOpen (s : State) (e : Nat) : Bool :=
  bitOf (s.gate (gateEntry e)).branches 0 = 1 && (treeOf e).elim true fun t => s.flag Pg.clocks Clk.OPEN t

/-- The unit can serve an action now: usable, on, and its port open. -/
def State.serves (s : State) (e : Nat) : Bool := s.blk e != St.retired && s.blk e != St.spare && s.isOn e

/-! ### Branches -/

/-- A PLL fed from the bucket clock (R107). -/
def State.bucketDerived (s : State) (p : Nat) : Bool := s.rd (Pg.pll p) Pll.REF_SEL = 0

/-- The PLL that feeds tree t now; none while ACT_SRC reads 7. -/
def State.treePll (s : State) (t : Nat) : Option Nat := treeSource t (s.rd Pg.clocks Clk.ACT_SRC t)

/-- The tree of entry e is fed from the bucket clock. -/
def State.bucketFed (s : State) (e : Nat) : Bool := (treeOf e).any fun t => (s.treePll t).any s.bucketDerived

/-- Branch enables of tree t at a level (R121): bits 0 CORE, 1 PORT, 2 KEEP; none at OFF. -/
def State.treeEnables (s : State) (t level : Nat) : Nat :=
  let f (r : Row) := s.rd Pg.clocks r t
  match level with
  | 0 => 0
  | 1 => f Clk.CORE_DEEP + 2 * f Clk.PORT_DEEP + 4 * f Clk.KEEP_DEEP
  | 2 => f Clk.CORE_SLEEP + 2 * f Clk.PORT_SLEEP + 4 * f Clk.KEEP_SLEEP
  | _ => f Clk.CORE_RUN + 2 * f Clk.PORT_RUN + 4 * f Clk.KEEP_RUN

/-- Branch enables of entry e at a level; a block without a tree of its own has the reset values of Table 04.6
(DESIGN CHOICE, log entry 12). -/
def State.enables (s : State) (e level : Nat) : Nat :=
  match treeOf e with
  | some t => s.treeEnables t level
  | none => match level with
    | 0 => 0
    | 1 => 4
    | 2 => 6
    | _ => 7

/-- Branches of entry e that are enabled open: on a tree fed from the bucket clock with the next bucket, else at once
(R121). -/
def State.openBranches (s : State) (e en : Nat) : State :=
  let g := s.gate e
  if s.bucketFed e then s.setGate e { g with opening := en - (en &&& g.branches) }
  else s.setGate e { g with branches := g.branches ||| en, opening := 0 }

/-- A gate request on entry e towards a level: branches that open do so under R121, a branch that closes waits for the bus
port (R122). -/
def State.gateTo (s : State) (e level : Nat) : State :=
  let g := s.gate e
  let en := s.enables e level
  (s.setGate e { g with closing := g.branches &&& en ≠ g.branches, toLevel := level, again := false }).openBranches e en

/-- A bucket begins: the branches that wait for it open (R121). -/
def State.branchEdge (s : State) : State :=
  s.each (s.gates.filter fun g => g.2.opening ≠ 0) fun g s =>
    s.setGate g.1 { g.2 with branches := g.2.branches ||| g.2.opening, opening := 0 }

/-! ### Sequences -/

/-- Start what the domain's level asks for, unless a sequence or a close runs (R429 to R431, R433). -/
def State.followOne (s : State) (d : Nat) : State :=
  let m := s.dom d
  let e := entryOfDomain d
  if m.entry ≠ 0 ∨ m.wake ≠ 0 ∨ (s.gate e).waits then s
  else
    let goal := if s.allRetired d then 0 else m.kept.getD (s.asked d)
    if goal = m.level then s
    else if 2 ≤ goal ∧ 2 ≤ m.level then
      let s := s.gateTo e goal
      if (s.gate e).closing then s else s.setDom d { m with level := goal }
    else if goal < m.level then
      let s := s.setDom d { m with entry := 1, goal := goal }
      let g := s.gate e
      s.setGate e { g with closing := true, toLevel := goal }
    else
      let pg := pageOf e
      (s.setDom d { m with wake := 1, goal := goal, fromOff := m.level = 0, failed := false }).wr pg Hdr.READY 0

/-- Something the level of domain d depends on was written: a kept level is tried again (R123), a failed wake too
(R432). -/
def State.revoteOne (s : State) (d : Nat) : State :=
  let m := s.dom d
  let up : Bool := 0 < min (highest (s.slots d)) (s.ceil d)
  let e := entryOfDomain d
  let s := s.doIf (s.gate e).again fun s => s.gateTo e m.level
  (s.setDom d { m with kept := none, failed := m.failed && !up }).followOne d

/-! ### The votes of HLP (R426) -/

/-- HLP's own need of domain d for its region: RET on the slab and the plane while the region takes RUN or SLEEP, RUN on
the plane while the region wakes from OFF. -/
def State.regionNeed (s : State) (d : Nat) : Nat :=
  let i := d % 40
  let low := if 2 ≤ s.taken i then 1 else 0
  if 80 ≤ d ∧ d < 120 ∧ (s.dom i).wake ≠ 0 ∧ (s.dom i).fromOff then 3 else low

/-- Domains for which a self-test slice votes RUN. -/
def State.sliceVotes (s : State) (d : Nat) : Bool := s.wk.slices.any fun c => c.vote.any fun v => v.1 = d

/-- HLP's needs of the slab and the plane of region i, from the end of phase PLL on (DEDUCED, log entry 48): where a need
has changed, HLP's slot takes the highest of its needs. -/
def State.hlpVotes (s : State) (i : Nat) : State :=
  if s.rd Pg.loader Ld.PHASE < 3 then s
  else s.each [40 + i, 80 + i] fun d s =>
    let n := s.regionNeed d
    if (s.dom d).need = n then s
    else
      let s := s.setDom d { s.dom d with need := n }
      (s.setSlots d (putBits (s.slots d) (2 * Ag.hlp) 2 (if s.sliceVotes d then 3 else n))).revoteOne d

/-- The domain's level may have changed: start what it asks for, and let HLP's votes follow a region. -/
def State.follow (s : State) (d : Nat) : State :=
  let s := s.followOne d
  if d < 40 then s.hlpVotes d else s

def State.revote (s : State) (d : Nat) : State :=
  let s := s.revoteOne d
  if d < 40 then s.hlpVotes d else s

/-- A Waybook update that may retire every entry of a domain, which then goes to OFF (R48, R458). -/
def State.wbRetire (s : State) (cs : List WbChange) (f : State → State := id) : State :=
  let s := s.wbUpdate cs f
  s.each ((cs.map fun c => domainOf c.entry).filter fun d => d ≠ alwaysOn && s.allRetired d) fun d s => s.follow d

/-- Write agent a's vote (R54); any write of a slot acts (R518). -/
def State.castVote (s : State) (d a level : Nat) : State :=
  (s.setSlots d (putBits (s.slots d) (2 * a) 2 level)).revote d

/-- The bus port of entry e reports idle and the waiting close is made (R122). -/
def State.closeGate (s : State) (e : Nat) : State :=
  let g := s.gate e
  let d := domainOf e
  let s := s.doIf g.treeClose fun s =>
    (treeOf e).elim id (fun t s => s.treeShut t) (s.setGate e { g with treeClose := false, treeClosed := true })
  if !g.closing then s
  else
    let en := s.enables e g.toLevel
    let s := (s.setGate e { s.gate e with closing := false, branches := g.branches &&& en }).openBranches e en
    if d = alwaysOn then s
    else
      let m := s.dom d
      if m.entry = 1 then s.setDom d { m with entry := 2 }
      else (s.setDom d { m with level := g.toLevel }).follow d

/-- The close is abandoned at GATE_TMO (R123): the clock stays on and the domain keeps its level. -/
def State.abandonGate (s : State) (e : Nat) : State :=
  let g := s.gate e
  let d := domainOf e
  if !g.waits then s
  else
    let m := s.dom d
    let level := if d = alwaysOn then 3 else m.level
    let again : Bool := g.again || (g.closing && g.toLevel = level && m.entry = 0)
    let s := s.setGate e { g with closing := false, treeClose := false, toLevel := level, again := again }
    let s := if d = alwaysOn || !g.closing then s
      else s.setDom d { m with entry := 0, failing := false, kept := some m.level }
    ((s.wr (pageOf e) Hdr.GATE_TIMEOUT 1).irq (pageOf e) 3).logHw (pageOf e) 0x08 Sev.info ((treeOf e).getD 0xFF)

/-! ### Self-test slices and the work they give way to (R470) -/

def State.setWk (s : State) (w : Walker) : State := { s with wk := w }

/-- A slice is put off or cut short. -/
def State.sliceDeferred (s : State) : State := s.count Pg.walker Wk.ST_DEFER_CNT

/-- A slice is over: the vote and the counter go back. -/
def State.sliceEnd (s : State) (c : Slice) : State :=
  let s := s.setWk { s.wk with slices := s.wk.slices.erase c }
  let s := c.counter.elim s fun f => s.unclaim (Reg.counter f)
  c.vote.elim s fun v => s.castVote v.1 Ag.hlp (if 40 ≤ v.1 ∧ v.1 < 120 then (s.dom v.1).need else v.2)

/-- Foreground work claims entry e: a slice of that kind on it ends on this edge and counts as deferred (R470). -/
def State.sliceCut (s : State) (kind e : Nat) : State :=
  (s.wk.slices.find? fun c => c.kind = kind && c.entry = e).elim s fun c => (s.sliceEnd c).sliceDeferred

end Sys2Proof.Machine
end

