-- ==== Sys2Proof/Machine/Clocks.lean ====
section
/-! DEFINITION. Machine/Clocks.lean: PLLs, trees, switches, dividers, gates and frequency counters (chapter 04). -/

namespace Sys2Proof.Machine

/-! ### PLLs -/

/-- A PLL that runs: instances 0 to 2 always, the others while EN is 1 (R522), once the start delay is over. -/
def State.pllRuns (s : State) (p : Nat) : Bool := s.ck.delayOver && (p ≤ 2 || s.flag (Pg.pll p) Hdr.EN)

/-- The PLL whose references, range and ceiling hold for p: itself, or for a spare the one its MIRROR names (R110). -/
def State.pllModel (s : State) (p : Nat) : Option Nat :=
  if p < 16 then some p
  else let m := s.rd (Pg.pll p) Pll.MIRROR
    if m < 16 then some m else none

/-- References Table 04.2 allows PLL p. -/
def pllRefs (p : Nat) : List Nat :=
  match p with
  | 0 => [2]
  | 1 | 2 | 13 | 14 => [1]
  | 3 | 4 => [0, 1]
  | _ => [0]

/-- MULT within the range of Table 04.2 (R110). -/
def pllMultOk (p m : Nat) : Bool :=
  if p = 3 ∨ p = 4 then 1 ≤ m && m ≤ 60
  else if p = 7 then 24 ≤ m && m ≤ 48
  else if p = 13 ∨ p = 14 then m = 12 || m = 16
  else 1 ≤ m && m ≤ 2047

/-- Output ceiling of PLL p in kHz, or kbit/s for a lane PLL (Table 04.2); none where the table gives none. -/
def pllCeil (p : Nat) : Option Nat :=
  match p with
  | 0 => some 1600000
  | 1 => some 500000
  | 2 => none
  | 3 | 4 => some 1200000
  | 5 | 6 => some 1000000
  | 7 => some 1500000
  | 8 => some 500000
  | 9 | 10 | 11 | 12 => some 56000000
  | 13 | 14 => some 1600000
  | _ => some 800000

/-- The bucket clock in kHz: BUCKET_KHZ, or 50 MHz before the first lock (R110). -/
def State.bucketKhz (s : State) : Nat := if s.prelock then 50000 else s.rd Pg.clocks Clk.BUCKET_KHZ

/-- Output of a PLL in kHz at a setting (Table 04.2). -/
def State.pllKhzAt (s : State) (p refSel mult : Nat) : Nat :=
  if p = 0 then 32 * s.bucketKhz
  else if refSel = 1 then 100000 * mult
  else s.bucketKhz * mult

def State.pllKhz (s : State) (p : Nat) : Nat :=
  s.pllKhzAt p (s.rd (Pg.pll p) Pll.REF_SEL) (s.rd (Pg.pll p) Pll.MULT)

def State.pllReady (s : State) (p : Nat) : Bool := s.flag (Pg.pll p) Pll.READY

/-- The reference of PLL p is there: TMG_CK, REFCLK (R102), or the bucket clock while the timing PLL is locked. -/
def State.refHere (s : State) (p : Nat) : Bool :=
  match s.rd (Pg.pll p) Pll.REF_SEL with
  | 0 => s.pllReady 0 && !s.ck.bucketStopped
  | 1 => true
  | 2 => s.tp.ck
  | _ => false

/-- PLL p begins to lock when it runs and its reference is there (R109, R111). -/
def State.pllBegin (s : State) (p : Nat) : State :=
  if s.pllRuns p && s.flag (Pg.pll p) Pll.REF_OK && !s.pllReady p && (s.pll p).locking.isNone
  then s.setPll p { s.pll p with locking := some s.us } else s

/-- PLL p looks at its reference: REF_OK follows it, and locking begins when it is there. -/
def State.pllLook (s : State) (p : Nat) : State := (s.wr (Pg.pll p) Pll.REF_OK (bit (s.refHere p))).pllBegin p

/-! ### Ceilings (R108) -/

/-- Ceiling of entry e's clock in kHz under profile pr (Table 04.3). -/
def blockCeil (e pr : Nat) : Nat :=
  let en := pr == Prof.endurance
  match typeOf e with
  | 0x20 | 0x32 => if en then 510000 else 600000
  | 0x30 => if en then 850000 else 1000000
  | 0x31 => if en then 425000 else 500000
  | 0x40 => if en then 47600000 else 56000000
  | 0x42 => if en then 1200000 else 1600000
  | 0x43 => 1500000
  | _ => 800000

/-- The profile the ceiling check uses for entry e: the one in force, or for a full image's own writes, until its start, the
one the image requests (R108). -/
def State.clockProfile (s : State) (e : Nat) (image : Bool) : Nat :=
  if image && !s.tp.started then mget Prof.endurance s.ld.profiles e else s.profile e

/-- Entries whose block runs on tree t: a region's tree clocks its packer too (R107). -/
def blocksOn (t : Nat) : List Nat := if t < 40 then [En.region t, En.packer t] else [entryOfTree t]

/-- The ceiling of tree t: the least of those of its blocks, each under its own profile (R108). -/
def State.treeCeil (s : State) (t : Nat) (image : Bool) : Nat :=
  (blocksOn t).foldl (fun c e => min c (blockCeil e (s.clockProfile e image))) (blockCeil (entryOfTree t) Prof.latency)

/-- The PLL of DDR4 channel c: DDR0 or DDR1 (Table 04.2), or the spare that stands in for it (R114; a channel has no tree to
switch: DEDUCED, log entry 161). -/
def State.ddrPll (s : State) (c : Nat) : Nat :=
  let p := 13 + c / 4
  let l := s.wb (En.pll p) Wbe.LINK
  if s.blk (En.pll p) = St.retired ∧ En.pll 16 ≤ l ∧ l < En.pll 20 then l - En.pll 0 else p

/-- The clock of DDR4 channel c in kHz: it takes its PLL's output directly (Table 04.2). -/
def State.ddrKhz (s : State) (c : Nat) : Nat := s.pllKhz (s.ddrPll c)

/-- DDR4 channel c runs above the ceiling of its profile (R30, R108): a channel has no tree, and no check reports it. -/
def State.ddrOver (s : State) (c : Nat) : Bool := decide (blockCeil (En.ddr c) (s.profile (En.ddr c)) < s.ddrKhz c)

/-- Output of tree t in kHz from PLL p at divider d. -/
def State.treeKhz (s : State) (p d : Nat) : Nat := s.pllKhz p / (d + 1)

/-- A tree, or what a write asks of it, is above the ceiling: the interrupt and the log entry (Table 04.8), with the agent
whose write the check judges. -/
def State.overCeilEvent (s : State) (t ag : Nat) : State := (s.irq Pg.clocks 22).log Pg.clocks 0x23 Sev.info ag t

/-- OVER_CEIL is set and logged. -/
def State.overCeil (s : State) (t ag : Nat) : State := (s.wr Pg.clocks Clk.OVER_CEIL 1 t).overCeilEvent t ag

/-- The check of R108 on tree t: above the ceiling for its blocks' profiles, OVER_CEIL is set and logged. -/
def State.checkCeil (s : State) (t : Nat) (image : Bool := false) (ag : Nat := Ag.hlp) : State :=
  match s.treePll t with
  | none => s.wr Pg.clocks Clk.OVER_CEIL 0 t
  | some p =>
    if s.treeKhz p (s.tree t).div ≤ s.treeCeil t image then s.wr Pg.clocks Clk.OVER_CEIL 0 t else s.overCeil t ag

/-- The trees PLL p feeds. -/
def State.treesOn (s : State) (p : Nat) : List Nat := (List.range 177).filter fun t => s.treePll t = some p

/-! ### Tree switches (R115 to R119) -/

/-- A request of agent ag on tree t is refused (R116): SRC reads ACT_SRC again, save while a switch runs. A refused divider
counts in CNT_REFUSED and latches CLKSW_REFUSED like a refused switch: the manual speaks there of switches alone (DESIGN
CHOICE, log entry 150). -/
def State.switchRefused (s : State) (t src reason : Nat) (ag : Nat := Ag.hlp) : State :=
  let s := s.doIf (!s.flag Pg.clocks Clk.SW_BUSY t) fun s => s.wr Pg.clocks Clk.SRC (s.rd Pg.clocks Clk.ACT_SRC t) t
  let s := (s.wr Pg.clocks Clk.SW_REFUSED 1 t).count Pg.clocks Clk.CNT_REFUSED
  (s.irq Pg.clocks 17).log Pg.clocks 0x20 Sev.info ag (t + src * 2 ^ 8 + reason * 2 ^ 11)

/-- The reason to refuse source src and divider d on tree t, in the order of R115: 0 not READY, 1 over ceiling,
2 not a bucket multiple. -/
def State.switchReason (s : State) (t src d : Nat) (sw : Bool) : Option Nat :=
  match treeSource t src with
  | none => some 0
  | some p =>
    if sw && !s.pllReady p then some 0
    else if s.treeCeil t s.ld.judging < s.treeKhz p d then some 1
    else if s.bucketDerived p && s.rd (Pg.pll p) Pll.MULT % (d + 1) ≠ 0 then some 2
    else none

/-- A write of SRC and DIV of tree t by agent ag (R115, R116). While a switch runs, the output is low and SRC is not written
(R117, R14); a DIV written then is judged against that switch's source and joins it (DESIGN CHOICE, log entry 151). A write
of the DIV in force ends the wait of one that has not applied (DESIGN CHOICE, log entry 152). A refusal over the ceiling sets
OVER_CEIL with its log entry (R108; log entry 17). -/
def State.treeRequest (s : State) (t src d : Nat) (ag : Nat := Ag.hlp) : State :=
  let busy := s.flag Pg.clocks Clk.SW_BUSY t
  let act := s.rd Pg.clocks Clk.ACT_SRC t
  let s := s.doIf (busy && src ≠ s.rd Pg.clocks Clk.SRC t) fun s => s.ignored Pg.clocks
  let sw : Bool := !busy && (src ≠ act || act = 7)
  let srcUse := if busy then (s.tree t).swSrc else src
  let dv : Bool := d ≠ (s.tree t).div
  if !sw && !dv then
    s.doIf (!busy) fun s => (s.wr Pg.clocks Clk.DIV d t).setTree t { s.tree t with pendDiv := none }
  else
    match s.switchReason t srcUse d sw with
    | some r =>
      let s := if r = 1 then s.overCeil t ag else s
      s.switchRefused t srcUse r ag
    | none =>
      let s := (s.wr Pg.clocks Clk.DIV d t).setTree t { s.tree t with image := s.ld.judging }
      if sw then
        let s := ((s.wr Pg.clocks Clk.SRC src t).wr Pg.clocks Clk.SW_BUSY 1 t).wr Pg.clocks Clk.OPEN 0 t
        s.setTree t { s.tree t with swSrc := src, swDiv := d }
      else if busy then s.setTree t { s.tree t with swDiv := d }
      else s.setTree t { s.tree t with pendDiv := some d }

/-- Whole buckets in which tree t, fed from the bucket clock, delivered no edge are logged (R118). -/
def State.clkGap (s : State) (t gap : Nat) : State :=
  if gap = 0 || !(s.treePll t).any s.bucketDerived then s
  else ((s.count Pg.clocks Clk.CNT_GAP).irq Pg.clocks 21).logHw Pg.clocks 0x22 Sev.degraded (t + min gap 0xFFFF * 2 ^ 8)

/-- Whether a tree may deliver edges from PLL p now: one fed from the bucket clock needs a bucket that begins (R113, R117). -/
def State.treeMayRun (s : State) (p : Nat) : Bool := s.pllReady p && (!s.bucketDerived p || s.timed)

/-- Whether a closed tree opens on PLL p: one fed from the bucket clock only while the port is LOCKED (R111, R113). -/
def State.treeMayOpen (s : State) (p : Nat) : Bool := s.pllReady p && (!s.bucketDerived p || s.tpState = 4)

/-- Tree t delivers edges. -/
def State.treeRuns (s : State) (t : Nat) : State :=
  let g := s.gate (entryOfTree t)
  ((s.wr Pg.clocks Clk.OPEN 1 t).setGate (entryOfTree t) { g with treeClosed := false }).setTree t
    { s.tree t with shutAt := none }

/-- Tree t opens at a bucket boundary (R111); the whole buckets since it stopped are its gap (R118). -/
def State.openTree (s : State) (t : Nat) : State :=
  match s.treePll t with
  | none => s
  | some p =>
    if !s.treeMayOpen p || s.flag Pg.clocks Clk.OPEN t then s
    else (s.treeRuns t).clkGap t ((s.tree t).shutAt.elim 0 fun b => s.time64 - b - 1)

/-- The target's READY fell before step 5 (R119): the tree stays low and ACT_SRC reads 7. -/
def State.readyFell (s : State) (t : Nat) : State :=
  let src := (s.tree t).swSrc
  let s := (s.wr Pg.clocks Clk.ACT_SRC 7 t).wr Pg.clocks Clk.SW_BUSY 0 t
  (s.treeShut t).switchRefused t src 3

/-! ### Loss of lock and spares (R109, R114) -/

/-- Spare q is free to come in. -/
def State.spareFree (s : State) (q : Nat) : Bool := s.blk (En.pll q) = St.spare

/-- READY of PLL p falls: the output is held low, and switches to it end (R119). -/
def State.readyGone (s : State) (p : Nat) : State :=
  let s := (s.wr (Pg.pll p) Pll.READY 0).setPll p { s.pll p with locking := none }
  let s := s.each (s.treesOn p) fun t s => s.treeShut t
  s.each ((List.range 177).filter fun t => s.flag Pg.clocks Clk.SW_BUSY t && treeSource t (s.tree t).swSrc = some p)
    fun t s => s.readyFell t

/-- PLL p failed: its trees go to a spare that mirrors it, or to the lowest free spare once that has locked (R114). A spare
that stands in for none is RETIRED and names none (Table 02.6). -/
def State.pllFail (s : State) (p : Nat) : State :=
  let unused := s.spareFree p
  let mine := s.treesOn p
  let mirroring := (List.range 4).map (16 + ·) |>.find? fun q => q ≠ p && s.spareFree q && s.rd (Pg.pll q) Pll.MIRROR = p
  let other := (List.range 4).map (16 + ·) |>.find? fun q => q ≠ p && s.spareFree q
  let s := s.setPll p { s.pll p with failed := true, locking := none }
  let link q := [⟨En.pll p, St.retired, En.pll q, 0x21⟩, ⟨En.pll q, St.inUse, En.pll p, 0x21⟩]
  let tell (q : Nat) (s : State) := (s.irq Pg.clocks 19).logHw Pg.clocks 0x21 Sev.degraded (p + q * 2 ^ 5)
  match (if unused then none else mirroring), (if unused then none else other) with
  | some q, _ =>
    let s := s.each mine fun t s => s.treeRequest t (q - 14) (s.tree t).div
    tell q ((s.wbUpdate (link q)).irq Pg.walker 23)
  | none, some q =>
    let target := (s.pllModel p).getD 31
    let s := s.wr (Pg.pll q) Pll.MIRROR target
    let s := s.wr (Pg.pll q) Pll.REF_SEL (s.rd (Pg.pll p) Pll.REF_SEL)
    let s := s.wr (Pg.pll q) Pll.MULT (s.rd (Pg.pll p) Pll.MULT)
    let s := (s.wr (Pg.pll q) Hdr.EN 1).readyGone q
    let s := { s with ck := { s.ck with retargeted := s.ck.retargeted ++ [(q, p)] } }
    tell q ((s.pllLook q |>.wbUpdate (link q)).irq Pg.walker 23)
  | none, none => tell 31 (s.wbUpdate [⟨En.pll p, St.retired, 0xFFFF, 0x21⟩])

/-- PLL p declares loss of lock (R109): READY falls, the output is held low, and switches to it end (R119). -/
def State.pllLoss (s : State) (p : Nat) : State :=
  if !s.pllReady p && (s.pll p).locking.isNone then s
  else
    ((s.wr (Pg.pll p) Pll.LOL 1).count (Pg.pll p) Pll.LOL_COUNT).irq (Pg.pll p) 17 |>.readyGone p

/-- Bucket-derived trees, by the PLL that feeds them. -/
def State.bucketTrees (s : State) : List Nat :=
  (List.range 177).filter fun t => (s.treePll t).elim false fun p => s.bucketDerived p

/-- Entering PLL_LOCK (R112): the controller asks to close every bucket-derived tree, and the timing PLL relocks only
when the closes are over. -/
def State.askTreeCloses (s : State) : State :=
  let s := s.each (s.bucketTrees.filter fun t => s.flag Pg.clocks Clk.OPEN t) fun t s =>
    let g := s.gate (entryOfTree t)
    s.setGate (entryOfTree t) { g with treeClose := true }
  { s with ck := { s.ck with relockWait := true } }

/-! ### Commands -/

/-- A write of the header EN of a PLL page (R522). Instances 0 to 2 always run. -/
def State.pllEnWrite (s : State) (p : Nat) (en : Bool) : State :=
  if p ≤ 2 then s.doIf (!en) fun s => s.ignored (Pg.pll p)
  else if en then (s.wr (Pg.pll p) Hdr.EN 1).pllLook p
  else (s.wr (Pg.pll p) Hdr.EN 0).readyGone p

/-- PLL_ENABLE (R522). -/
def execPllEnable (ag : Agent) (p : Fin 20) (en : Bool) (s : State) : Host.Outcome State Fault Refusal :=
  .next (s.shell ag fun s => s.pllEnWrite p en)

/-- A setting that Table 04.2 does not allow: true = REF_SEL is at fault, false = MULT (R110). -/
def State.pllRefusal (s : State) (p refSel mult : Nat) : Option Bool :=
  let pg := Pg.pll p
  let chRef : Bool := refSel ≠ s.rd pg Pll.REF_SEL
  let chMult : Bool := mult ≠ s.rd pg Pll.MULT
  match s.pllModel p with
  | none => if chRef then some true else if chMult then some false else none
  | some m =>
    if chRef && !(pllRefs m).contains refSel then some true
    else if !chRef && !chMult then none
    else if !pllMultOk m mult then some false
    else if (pllCeil m).elim false (fun c => decide (c < s.pllKhzAt m refSel mult)) then some false
    else none

/-- A write of REF_SEL and MULT by agent ag (R110). A spare that mirrors the PLL copies them and stays locked (R114). -/
def State.pllSetting (s : State) (p refSel mult : Nat) (ag : Nat := Ag.hlp) : State :=
  let pg := Pg.pll p
  if refSel = s.rd pg Pll.REF_SEL ∧ mult = s.rd pg Pll.MULT then s
  else if p ≤ 2 ∨ s.flag pg Hdr.EN then s.ignored pg
  else
    match s.pllRefusal p refSel mult with
    | some r => (s.wr pg Pll.MULT_REFUSED 1).log pg 0x20 Sev.info ag (mult + refSel * 2 ^ 11 + bit r * 2 ^ 13)
    | none =>
      let s := ((s.wr pg Pll.REF_SEL refSel).wr pg Pll.MULT mult).pllLook p
      let copies := ((List.range 4).map (16 + ·)).filter fun q => s.rd (Pg.pll q) Pll.MIRROR = p && s.spareFree q
      let s := s.each copies fun q s => ((s.wr (Pg.pll q) Pll.REF_SEL refSel).wr (Pg.pll q) Pll.MULT mult).pllLook q
      s.each ((p :: copies).flatMap fun q => s.treesOn q) fun t s => s.checkCeil t s.ld.judging ag

/-- PLL_SETTING_WRITE (R110). -/
def execPllSettingWrite (ag : Agent) (p : Fin 20) (refSel : BitVec 2) (mult : BitVec 11) (s : State) :
    Host.Outcome State Fault Refusal :=
  .next (s.access ag (Pg.pll p) fun s => s.pllSetting p refSel.toNat mult.toNat ag)

/-- A write of MIRROR (Table 04.7, R114): the spare copies the settings of the PLL it names and relocks. -/
def State.mirrorWrite (s : State) (p m : Nat) (ag : Nat := Ag.hlp) : State :=
  let pg := Pg.pll p
  if p < 16 then s
  else if s.blk (En.pll p) = St.inUse then s.doIf (m ≠ s.rd pg Pll.MIRROR) fun s => s.ignored pg
  else
    let s := (s.wr pg Pll.MIRROR m).readyGone p
    let s := s.doIf (m < 16) fun s =>
      (s.wr pg Pll.REF_SEL (s.rd (Pg.pll m) Pll.REF_SEL)).wr pg Pll.MULT (s.rd (Pg.pll m) Pll.MULT)
    let s := s.pllLook p
    s.each (s.treesOn p) fun t s => s.checkCeil t s.ld.judging ag

/-- MIRROR_WRITE (R114). -/
def execMirrorWrite (ag : Agent) (p : Fin 20) (m : BitVec 5) (s : State) : Host.Outcome State Fault Refusal :=
  .next (s.access ag (Pg.pll p) fun s => s.mirrorWrite p m.toNat ag)

/-- PLL_LOSS_OF_LOCK (R109, R114): with its reference there, the PLL has failed. -/
def execPllLossOfLock (p : Fin 20) (s : State) : Host.Outcome State Fault Refusal :=
  .next (
    if !s.pllReady p && (s.pll p).locking.isNone then s
    else if s.flag (Pg.pll p) Pll.REF_OK then s.simultaneous fun s => (s.pllLoss p).pllFail p
    else s.pllLoss p)

/-- References that were lost to an outside cause come back at a moment the manual leaves to the outside: each draws whether
it is now (log entry 149). Their PLLs begin to lock again (R109). -/
def State.refsReturn (s : State) : State :=
  s.each ((List.range 20).filter fun p => s.pllRuns p && s.refHere p && !s.flag (Pg.pll p) Pll.REF_OK) fun p s =>
    let (n, s) := s.draw
    if n % 2 = 1 then s.pllLook p else s

/-- REFERENCE_LOSS (R109): the reference has shown no edge for two periods. -/
def execReferenceLoss (p : Fin 20) (s : State) : Host.Outcome State Fault Refusal :=
  .next (s.wr (Pg.pll p) Pll.REF_OK 0)

/-- TIMING_PLL_RELOCK_START (R112): every close is over; the timing PLL holds the bucket clock low, every bucket-derived
PLL loses lock with REF_OK at 0, and the timing PLL begins to lock. -/
def execTimingPllRelockStart (s : State) : Host.Outcome State Fault Refusal :=
  .next (
    if !s.ck.relockWait || (s.bucketTrees.any fun t => (s.gate (entryOfTree t)).treeClose) then s
    else
      let s := { s with ck := { s.ck with relockWait := false, bucketStopped := true } }
      let s := s.each ((List.range 20).filter fun p => s.bucketDerived p) fun p s =>
        (s.wr (Pg.pll p) Pll.REF_OK 0).pllLoss p
      (s.wr (Pg.pll 0) Pll.READY 0).pllLook 0)

/-- TREE_OPEN (R111): at a bucket boundary, a tree whose PLL is READY opens. -/
def execTreeOpen (t : Fin 177) (s : State) : Host.Outcome State Fault Refusal := .next (s.openTree t)

/-- CLOCK_SWITCH_REQUEST (R116): a write of SRC, with DIV beside it (R115). -/
def execClockSwitchRequest (ag : Agent) (t : Fin 177) (src div : BitVec 3) (s : State) :
    Host.Outcome State Fault Refusal :=
  .next (s.access ag Pg.clocks fun s => s.treeRequest t src.toNat div.toNat ag)

/-- CLOCK_SWITCH_DONE (R117): step 5 of Table 04.5. -/
def execClockSwitchDone (t : Fin 177) (gap : Nat) (s : State) : Host.Outcome State Fault Refusal :=
  .next (
    let m := s.tree t
    match treeSource t m.swSrc with
    | none => s
    | some p =>
      if !s.flag Pg.clocks Clk.SW_BUSY t || !s.treeMayRun p then s
      else
        let s := (s.wr Pg.clocks Clk.ACT_SRC m.swSrc t).wr Pg.clocks Clk.SW_BUSY 0 t
        let s := s.setTree t { m with div := m.swDiv, pendDiv := none, image := false }
        let s := ((s.count Pg.clocks Clk.CNT_SWITCH).irq Pg.clocks 16).treeRuns t
        (s.checkCeil t m.image).clkGap t gap)

/-- OLD_STOPPED (R118): the multiplexer does not wait for a dead clock. -/
def execOldStopped (t : Fin 177) (gap : Nat) (s : State) : Host.Outcome State Fault Refusal :=
  .next (
    if !s.flag Pg.clocks Clk.SW_BUSY t then s
    else (((s.wr Pg.clocks Clk.OLD_STOPPED 1 t).count Pg.clocks Clk.CNT_OLDSTOP).irq Pg.clocks 18).clkGap t gap)

/-- DIVIDER_WRITE (R115): a write of DIV with SRC unchanged. -/
def execDividerWrite (ag : Agent) (t : Fin 177) (div : BitVec 3) (s : State) : Host.Outcome State Fault Refusal :=
  .next (s.access ag Pg.clocks fun s => s.treeRequest t (s.rd Pg.clocks Clk.SRC t) div.toNat ag)

/-- DIVIDER_APPLY (R115): before the first edge of the next bucket. -/
def execDividerApply (t : Fin 177) (s : State) : Host.Outcome State Fault Refusal :=
  .next (
    let m := s.tree t
    m.pendDiv.elim s fun d => (s.setTree t { m with div := d, pendDiv := none, image := false }).checkCeil t m.image)

/-- Write the nine branch enables of tree t (bits 0 to 8 as [20:12] of the register) and follow them (R121). -/
def State.writeEnables (s : State) (t en : Nat) : State :=
  let f (s : State) (r : Row) (i : Nat) := s.wr Pg.clocks r (bitOf en i) t
  let s := f (f (f s Clk.CORE_RUN 0) Clk.CORE_SLEEP 1) Clk.CORE_DEEP 2
  let s := f (f (f s Clk.PORT_RUN 3) Clk.PORT_SLEEP 4) Clk.PORT_DEEP 5
  let s := f (f (f s Clk.KEEP_RUN 6) Clk.KEEP_SLEEP 7) Clk.KEEP_DEEP 8
  let e := entryOfTree t
  let d := domainOf e
  let s := if d = alwaysOn ∨ (s.dom d).kept.isNone then s else s.revote d
  if (s.gate e).waits then s else s.gateTo e (if d = alwaysOn then 3 else (s.dom d).level)

/-- GATE_REQUEST (R121): a write of the branch enables. -/
def execGateRequest (ag : Agent) (t : Fin 177) (enables : BitVec 9) (s : State) : Host.Outcome State Fault Refusal :=
  .next (s.access ag Pg.clocks fun s => s.writeEnables t enables.toNat)

/-- GATE_CLOSE (R122): the port is idle and the branches close. -/
def execGateClose (e : Fin 354) (s : State) : Host.Outcome State Fault Refusal := .next (s.closeGate (gateEntry e))

/-- GATE_TIMEOUT (R123). -/
def execGateTimeout (e : Fin 354) (s : State) : Host.Outcome State Fault Refusal := .next (s.abandonGate (gateEntry e))

/-- A write of a frequency counter's first word (R124, Table 04.6). Setting FC_EN claims the counter with feature code
0x01 (DESIGN CHOICE, log entry 14). Whoever clears FC_EN stops the counter and ends its owner's claim: the manual does not say
what such a write of another agent does (DESIGN CHOICE, log entry 144). -/
def State.fcWrite (s : State) (ag f w : Nat) : State :=
  let was := s.flag Pg.clocks Clk.FC_EN f
  let on : Bool := bitOf w 0 = 1
  let s := ((s.put Pg.clocks Clk.FC_CONT w f).put Pg.clocks Clk.FC_SEL w f).put Pg.clocks Clk.FC_WIN w f
  let s := s.doIf (bitOf w 2 = 1) fun s => s.wr Pg.clocks Clk.FC_DONE 0 f
  let idx := Reg.counter f
  if on && !was then
    if s.mayClaim idx ag 1 then
      let s := (s.setClaim idx ag 1 true).wr Pg.clocks Clk.FC_EN 1 f
      { s with ck := { s.ck with counting := f :: s.ck.counting.erase f } }
    else s.refuseClaim Pg.clocks idx ag
  else if !on && was then
    let s := (s.unclaim idx).wr Pg.clocks Clk.FC_EN 0 f
    { s with ck := { s.ck with counting := s.ck.counting.erase f } }
  else s

/-- FC_START (R124). -/
def execFcStart (ag : Agent) (f : Fin 16) (w0 : Word) (s : State) : Host.Outcome State Fault Refusal :=
  .next (s.access ag Pg.clocks fun s => s.fcWrite ag f w0.toNat)

/-- FC_WINDOW_END (R124): the window counted `edges` edges of the source; a lane PLL passes a ÷32 divider first. -/
def execFcWindowEnd (f : Fin 16) (edges : Word) (s : State) : Host.Outcome State Fault Refusal :=
  .next (
    if !s.ck.counting.contains f.val then s
    else
      let sel := s.rd Pg.clocks Clk.FC_SEL f
      let pre := if 201 ≤ sel ∧ sel ≤ 204 then 32 else 1
      let s := (s.wr Pg.clocks Clk.FC_COUNT (edges.toNat / pre / 64) f).wr Pg.clocks Clk.FC_DONE 1 f
      let s := s.irq Pg.clocks 20
      if s.flag Pg.clocks Clk.FC_CONT f then s
      else { s with ck := { s.ck with counting := s.ck.counting.erase f.val } })

/-- BUCKET_KHZ_UPDATE (R125): the measured bucket clock. -/
def execBucketKhzUpdate (khz : Word) (s : State) : Host.Outcome State Fault Refusal :=
  .next (s.wr Pg.clocks Clk.BUCKET_KHZ khz.toNat)

end Sys2Proof.Machine
end

