-- ==== Sys2Proof/Machine/MilestoneOps.lean ====
section
/-! DEFINITION. Machine/MilestoneOps.lean: the entries and timers of the milestone scheduler: arming, deciding, missing
and the bookkeeping of a firing (R85 to R94). The actions themselves stand in Milestones.lean. -/

namespace Sys2Proof.Machine

/-! ### Entries -/

/-- The page of entry e. -/
def msPage (e : Nat) : Nat := Pg.milestones + e / 128

/-- Field r of entry e. -/
def State.me (s : State) (e : Nat) (r : Row) : Nat := s.rd (msPage e) r (e % 128)
def State.setMe (s : State) (e : Nat) (r : Row) (v : Nat) : State := s.wr (msPage e) r v (e % 128)
def State.msArmed (s : State) (e : Nat) : Bool := s.me e MsE.ARM = 1

/-- Set the bit of entry e in a bitmap of page 0x0032. -/
def State.setMap (s : State) (r : Row) (e : Nat) : State :=
  s.wr Pg.bitmaps r (s.rd Pg.bitmaps r (e / 32) ||| 2 ^ (e % 32)) (e / 32)

def State.setMs (s : State) (m : Ms) : State := { s with ms := m }

namespace Kind
def abs : Nat := 0
def every : Nat := 1
def layby : Nat := 2
def cmd : Nat := 3
def chain : Nat := 4
end Kind

namespace Why
def late : Nat := 1
def badParam : Nat := 2
def claim : Nat := 3
def conflict : Nat := 4
def target : Nat := 5
def lockLost : Nat := 6
def turnLoad : Nat := 7
end Why

/-- x at or after y (R76). -/
def turnAtOrAfter (x y : Nat) : Bool := (x + 2 ^ 32 - y) % 2 ^ 32 < 2 ^ 31

/-- The lead of target (T, B) in buckets; none when it is past (R77). -/
def State.lead (s : State) (t b : Nat) : Option Int :=
  let d := (t + 2 ^ 32 - s.turn) % 2 ^ 32
  if d < 2 ^ 31 then some ((d * s.turnLen + b : Nat) - (s.bucket : Int)) else none

/-- Late or past (R77). -/
def State.isLate (s : State) (t b : Nat) : Bool := (s.lead t b).elim true fun l => l < 2

def allEntries : List Nat := List.range 256

/-- The pin that armed entry e claims for its PULSE action (R88), if it is e's agent that holds it. -/
def State.pulsePin (s : State) (e : Nat) : Option Nat :=
  let pin := Reg.pin (s.me e MsE.TARGET)
  if s.msArmed e && s.me e MsE.ACTION = 7 && s.claimed pin && s.claimFeature pin = 2
      && s.claimAgent pin = s.claimAgent (Reg.milestone e) then some pin
  else none

/-- A firing of entry e outlives e's disarm (R90) without being bound to a later arm. -/
def Firing.unbind (e : Nat) (f : Firing) : Firing := if f.entry = e then { f with bound := false } else f

/-- The entry disarms: its claims are released (R58), that on a pin once no other armed PULSE entry of its agent holds it
(R88), and its firings to come go; one decided already still fires (R90). -/
def State.msDisarm (s : State) (e : Nat) : State :=
  let pin := (s.pulsePin e).filter fun p => allEntries.all fun f => f = e || s.pulsePin f ≠ some p
  let s := (s.setMe e MsE.ARM 0).unclaim (Reg.milestone e)
  let s := pin.elim s fun p => s.unclaim p
  let m := s.ms
  s.setMs { m with due := m.due.filter fun f => f.1 ≠ e, decided := m.decided.map (Firing.unbind e)
                   issued := m.issued.map (Firing.unbind e), firing := m.firing.map (Firing.unbind e) }

/-- A firing of entry e's present arm is decided and its action not yet taken. -/
def State.msBound (s : State) (e : Nat) : Bool :=
  (s.ms.decided ++ s.ms.issued ++ s.ms.firing.filter fun f => !s.ms.acted.contains f.entry).any fun f =>
    f.entry = e && f.bound

/-- Entry e becomes MISSED (R85). -/
def State.msMissed (s : State) (e why : Nat) : State :=
  let s := ((s.setMe e MsE.ST 3).setMe e MsE.WHY why).setMap Ms.MISSED e
  ((s.count Pg.milestones Ms.MS_CNT_MISSED).irq Pg.milestones 17).logHw Pg.milestones 0x21 Sev.degraded
    (e + why * 2 ^ 8)

/-- Armed ABS entries whose target is past or late become MISSED and disarm (R85); an AT beyond the turn gives
BAD_PARAM. An entry decided already fires instead: the manual does not say which of the two holds for a target in bucket 0
or 1 of the turn that a TURN load sets (DESIGN CHOICE, log entry 142). -/
def State.missAbs (s : State) (why : Nat) : State :=
  s.each (allEntries.filter fun e => s.msArmed e && s.me e MsE.KIND = Kind.abs && !s.msBound e) fun e s =>
    if s.turnLen ≤ s.me e MsE.AT then (s.msMissed e Why.badParam).msDisarm e
    else if s.isLate (s.me e MsE.WHEN) (s.me e MsE.AT) then (s.msMissed e why).msDisarm e
    else s

/-- TURN_LEN_USED changed: armed ABS entries with AT outside the turn become MISSED (R85). -/
def State.missLen (s : State) : State :=
  s.each (allEntries.filter fun e => s.msArmed e && s.me e MsE.KIND = Kind.abs && s.turnLen ≤ s.me e MsE.AT)
    fun e s => (s.msMissed e Why.badParam).msDisarm e

/-- Lock is lost: nothing decided for a later bucket fires, and every CMD and CHAIN firing to come becomes MISSED (R73,
R85). ABS entries are judged at the relock. -/
def State.msStop (s : State) : State :=
  let m := s.ms
  let driven (k : Nat) : Bool := k = Kind.cmd || k = Kind.chain
  let lost := ((m.issued ++ m.decided).filter fun f => driven f.kind).map Firing.entry ++
    (m.due.map (·.1)).filter fun e => driven (s.me e MsE.KIND)
  (s.each lost fun e s => s.msMissed e Why.lockLost).setMs { m with decided := [], issued := [], due := [] }

/-! ### Arming (R86, R87) -/

/-- TARGET and PARAM of the action exist (R86, R424). -/
def actionOk (action target param : Nat) : Bool :=
  match action with
  | 0 => true
  | 1 | 2 | 3 | 8 => target < 40
  | 4 | 5 => target < 96
  | 6 => target < 8
  | 7 => target < 192 && 1 ≤ param
  | 9 => param % 512 < 270
  | _ => false

/-- The first reason to refuse the arm of entry e by agent ag (R86). -/
def State.armRefusal (s : State) (ag e : Nat) : Option Nat :=
  let kind := s.me e MsE.KIND
  let at_ := s.me e MsE.AT
  let src := s.me e MsE.SRC
  let act := s.me e MsE.ACTION
  if 5 ≤ kind || !actionOk act (s.me e MsE.TARGET) (s.me e MsE.PARAM)
      || (kind = Kind.every && 16 < s.me e MsE.WHEN % 32)
      || (kind = Kind.cmd && (at_ < 2 || src = 0))
      || (kind = Kind.chain && (at_ = 0 || (src = e && at_ < 2)))
      || ((kind = Kind.abs || kind = Kind.every) && s.timed && s.turnLen ≤ at_) then some Why.badParam
  else if kind = Kind.abs && s.timed && s.me e MsE.LATE_FIRE = 0 && s.isLate (s.me e MsE.WHEN) at_ then some Why.late
  else if !s.mayClaim (Reg.milestone e) ag 1
      || (act = 7 && !s.mayClaim (Reg.pin (s.me e MsE.TARGET)) ag 2) then some Why.claim
  else none

/-- Arm entry e for agent ag, its other fields written (R86). -/
def State.msArm (s : State) (ag e : Nat) : State :=
  match s.armRefusal ag e with
  | some why =>
    let s := (s.setMe e MsE.ARM 0).setMe e MsE.WHY why
    let s := s.doIf (why = Why.claim) fun s =>
      s.refuseClaim (msPage e) (if s.mayClaim (Reg.milestone e) ag 1 then Reg.pin (s.me e MsE.TARGET)
        else Reg.milestone e) ag
    (s.irq Pg.milestones 19).log Pg.milestones 0x20 Sev.info ag (e + why * 2 ^ 8)
  | none =>
    let s := ((s.setMe e MsE.ARM 1).setMe e MsE.ST 1).setMe e MsE.WHY 0
    let s := s.setClaim (Reg.milestone e) ag 1 true
    let s := s.doIf (s.me e MsE.ACTION = 7) fun s => s.setClaim (Reg.pin (s.me e MsE.TARGET)) ag 2 true
    let kind := s.me e MsE.KIND
    if kind = Kind.abs && s.timed && s.isLate (s.me e MsE.WHEN) (s.me e MsE.AT) then
      s.setMs { s.ms with due := s.ms.due ++ [(e, s.time64 + 2)] }
    else if kind = Kind.chain && s.me e MsE.SRC = e then
      s.setMs { s.ms with due := s.ms.due ++ [(e, s.time64 + s.me e MsE.AT)] }
    else s

/-- The fields of word 0 that a write carries, ARM aside. -/
def State.msFields (s : State) (e w : Nat) : State :=
  let f (s : State) (r : Row) := s.setMe e r (bitsOf w r.lo r.width)
  f (f (f (f (f (f s MsE.KIND) MsE.LATE_FIRE) MsE.ONCE) MsE.IRQ) MsE.REPEAT) MsE.SRC

/-- A write of word 0 of entry e (R86, R87). -/
def State.msWrite0 (s : State) (ag e w : Nat) : State :=
  let arm : Bool := bitOf w 0 = 1
  if s.msArmed e then
    if arm then s.ignored (msPage e)
    else ((s.msDisarm e).msFields e w).setMe e MsE.ST 0
  else
    let s := s.msFields e w
    if arm then s.msArm ag e else s

/-- A write of word k (1 to 3) of entry e: ignored while the entry is armed (R87). -/
def State.msWriteN (s : State) (e k w : Nat) : State :=
  if s.msArmed e then s.ignored (msPage e)
  else match k with
    | 1 => s.setMe e MsE.WHEN w
    | 2 => s.setMe e MsE.AT w
    | _ =>
      let f (s : State) (r : Row) := s.setMe e r (bitsOf w r.lo r.width)
      f (f (f (f s MsE.ACTION) MsE.TARGET) MsE.CTX) MsE.PARAM

/-! ### Deciding (R85, R90) -/

/-- A bucket of machine time: TIME64, TURN, BUCKET, the turn length and the lay-by then in force. -/
structure Moment where
  t64 : Nat
  turn : Nat
  bucket : Nat
  len : Nat
  layStart : Nat
  layLen : Nat
  deriving DecidableEq, Repr

/-- LAYBY_START and LAYBY_LEN in force (R80): those written once their turn boundary has come. -/
def State.layNow (s : State) : Nat × Nat :=
  if s.tp.layDue then (s.rd Pg.timing Tp.LAYBY_START, s.rd Pg.timing Tp.LAYBY_LEN) else (s.tp.layStart, s.tp.layLen)

def State.now (s : State) : Moment :=
  ⟨s.time64, s.turn, s.bucket, s.turnLen, s.layNow.1, s.layNow.2⟩

/-- The lay-by limits of R80. -/
def layOk (start len turnLen : Nat) : Bool := len = 0 || (start + len ≤ turnLen && len < turnLen)

/-- The armed TURN load that applies at a marker at TIME64 t, if any; a broadcast load comes first (R84). -/
def State.loadAt (s : State) (t : Nat) : Option Nat :=
  let ok (l : Option (Nat × Nat)) := l.bind fun v => if v.2 + 2 ≤ t then some v.1 else none
  (ok s.tp.loadB).or (ok s.tp.loadS)

/-- The bucket after m, as the port will count it. -/
def State.after (s : State) (m : Moment) : Moment :=
  if m.bucket + 1 < m.len then { m with t64 := m.t64 + 1, bucket := m.bucket + 1 }
  else
    { t64 := m.t64 + 1, turn := (s.loadAt (m.t64 + 1)).getD ((m.turn + 1) % 2 ^ 32), bucket := 0
      len := s.tp.nextLen.getD m.len
      layStart := if s.tp.layWait then s.rd Pg.timing Tp.LAYBY_START else m.layStart
      layLen := if s.tp.layWait then s.rd Pg.timing Tp.LAYBY_LEN else m.layLen }

/-- Whether m lies in an observed lay-by (R80, R81): it has begun by now, or it begins later and is not cancelled. -/
def State.observed (s : State) (m : Moment) : Bool :=
  layOk m.layStart m.layLen m.len && m.layStart ≤ m.bucket && m.bucket < m.layStart + m.layLen &&
    (let begin_ := m.t64 - (m.bucket - m.layStart)
     if begin_ ≤ s.time64 then s.inLayby else s.tp.cancels.all fun c => begin_ < c)

/-- Entry e's own condition holds at m (ABS, EVERY, LAYBY). -/
def State.matches (s : State) (e : Nat) (m : Moment) : Bool :=
  let at_ := s.me e MsE.AT
  match s.me e MsE.KIND with
  | 0 => s.me e MsE.WHEN = m.turn && at_ = m.bucket
  | 1 =>
    let mask := 2 ^ (s.me e MsE.WHEN % 32)
    at_ = m.bucket && m.turn % mask = bitsOf (s.me e MsE.WHEN) 16 16 % mask
  | 2 => at_ < m.layLen && m.bucket = m.layStart + at_ && s.observed m
  | _ => false

/-- Entries that fire in the bucket after next (R90): each once, in ascending order. -/
def State.deciding (s : State) : List Nat :=
  let m := s.after (s.after s.now)
  allEntries.filter fun e =>
    s.msArmed e && !(s.me e MsE.ONCE = 1 && s.msBound e) &&
      (s.matches e m || s.ms.due.any fun f => f.1 = e && f.2 = m.t64)

/-- The firing of entry e, as the entry stands. -/
def State.firingNow (s : State) (e : Nat) : Firing :=
  { entry := e, kind := s.me e MsE.KIND, once := s.me e MsE.ONCE = 1, irq := s.me e MsE.IRQ = 1, action := s.me e MsE.ACTION
    target := s.me e MsE.TARGET, ctx := s.me e MsE.CTX, param := s.me e MsE.PARAM }

/-- Firings that the entries of `fired`, firing at TIME64 t, start (R85): CHAIN entries, and repeating ones. -/
def State.chained (s : State) (fired : List Nat) (t : Nat) : List (Nat × Nat) :=
  (allEntries.filter fun c => s.msArmed c && s.me c MsE.KIND = Kind.chain &&
    (fired.contains (s.me c MsE.SRC) || (fired.contains c && s.me c MsE.REPEAT = 1))).map
      fun c => (c, t + s.me c MsE.AT)

/-- The decision at the end of a bucket (R90). -/
def State.evaluate (s : State) : State :=
  if !s.timed then s
  else
    let fired := s.deciding
    let t := s.time64 + 2
    s.setMs { s.ms with decided := fired.map s.firingNow, due := (s.ms.due.filter fun f => t < f.2) ++ s.chained fired t }

/-- A good command starts the CMD entries that name it and are armed when it is received: the manual does not say that the
arm must come before the word (DESIGN CHOICE, log entry 143) (R85). -/
def State.cmdTriggers (s : State) (cmd : Nat) : State :=
  let es := allEntries.filter fun e => s.msArmed e && s.me e MsE.KIND = Kind.cmd && s.me e MsE.SRC = cmd
  s.setMs { s.ms with due := s.ms.due ++ es.map fun e => (e, s.time64 + s.me e MsE.AT) }

/-! ### Firing (R87 to R91) -/

/-- Two firings act on the same target with the same action, and only that of the lower entry may apply (R91). -/
def Firing.sameTarget (e f : Firing) : Bool :=
  let a := e.action
  f.action = a && a ≠ 0 && a ≠ 7 && a ≠ 8 &&
    (if a = 9 then e.param % 512 = f.param % 512 else e.target = f.target)

/-- An entry's action failed (R89) or lost (R91). -/
def State.msFail (s : State) (e why : Nat) : State :=
  let s := (s.setMe e MsE.WHY why).setMap Ms.FAILED e
  let s := s.count Pg.milestones (if why = Why.conflict then Ms.MS_CNT_CONFLICT else Ms.MS_CNT_FAIL)
  (s.irq Pg.milestones 18).log Pg.milestones 0x22 Sev.degraded Ag.milestone (e + why * 2 ^ 8)

/-- What every firing does beside its action (R87, R89). -/
def State.msFired (s : State) (f : Firing) : State :=
  let e := f.entry
  let s := (s.setMe e MsE.ST 2).setMap Ms.FIRED e
  let s := s.count Pg.milestones Ms.MS_CNT_FIRED
  let s := s.wr Pg.milestones Ms.LAST_ENTRY ((s.ms.firing.map Firing.entry).foldl max 0)
  let s := (s.wr Pg.milestones Ms.LAST_BUCKET s.bucket).wr Pg.milestones Ms.LAST_TURN s.turn
  let s := s.doIf f.irq fun s => s.irq Pg.milestones 16
  if s.msArmed e && s.ms.firing.contains f && f.bound && (f.kind = Kind.abs || f.once) then s.msDisarm e else s

/-- The firing of entry e in this bucket with action number a, if its action is still to be taken. -/
def State.firingOf (s : State) (e a : Nat) : Option Firing :=
  if s.ms.acted.contains e then none else s.ms.firing.find? fun f => f.entry = e && f.action = a

/-- Entry e fires with action number a: act answers whether the target took the action, and the state after it. Nothing
happens unless the entry fires in this bucket and has not acted yet (log entry 5). -/
def State.fire (s : State) (e a : Nat) (act : Firing → State → Bool × State) : State :=
  match s.firingOf e a with
  | none => s
  | some f =>
    let s := s.setMs { s.ms with acted := e :: s.ms.acted }
    let s :=
      if s.ms.firing.any fun g => g.entry < e && f.sameTarget g then s.msFail e Why.conflict
      else
        let (ok, s) := act f s
        if ok then s.setMe e MsE.WHY 0 else s.msFail e Why.target
    s.msFired f

/-- The firings of this bucket that are still to act, with one of some actions on a target: in the order of the actions
(R91), and of the entries. -/
def State.firesOn (s : State) (actions : List Nat) (target : Nat) : List Firing :=
  actions.flatMap fun a =>
    s.ms.firing.filter fun f => f.action = a && f.target = target && !s.ms.acted.contains f.entry

/-! ### Timers (R93, R94) -/

def State.tm (s : State) (t : Nat) (r : Row) : Nat := s.rd Pg.milestones r t
def State.setTm (s : State) (t : Nat) (r : Row) (v : Nat) : State := s.wr Pg.milestones r v t

/-- T_LOAD as it acts. -/
def State.tmLoad (s : State) (t : Nat) : Nat := max 1 (s.tm t Tmr.T_LOAD)

/-- The unit timer t counts in. -/
def State.tmUnit (s : State) (t : Nat) : Nat := mget 0 s.ms.units t

/-- Timer t reloads: T_COUNT and the unit in force take what T_LOAD and T_UNIT hold (R93). -/
def State.tmReload (s : State) (t : Nat) : State :=
  (s.setTm t Tmr.T_COUNT (s.tmLoad t)).setMs { s.ms with units := mset 0 s.ms.units t (s.tm t Tmr.T_UNIT) }

/-- A unit of `unit` passes: the running timers of that unit count down (R93). -/
def State.tickTimers (s : State) (unit : Nat) : State :=
  s.each (List.range 32) fun t s =>
    if s.tm t Tmr.T_EN = 1 && s.tmUnit t = unit && s.tm t Tmr.T_COUNT ≠ 0 then
      let n := s.tm t Tmr.T_COUNT - 1
      (s.setTm t Tmr.T_COUNT n).doIf (n = 0) fun s => s.setMs { s.ms with expired := s.ms.expired ++ [t] }
    else s

/-- A write of word 0 of timer t (R93). Whoever clears T_EN stops the timer and ends its owner's claim: the manual does not
say what such a write of another agent does (DESIGN CHOICE, log entry 144). One that finds the timer running and leaves T_EN
at 1 changes nothing of it (R518), whoever makes it. -/
def State.tmWrite0 (s : State) (ag t w : Nat) : State :=
  let f (s : State) (r : Row) := s.setTm t r (bitsOf w r.lo r.width)
  let was : Bool := s.tm t Tmr.T_EN = 1
  let on : Bool := bitOf w 0 = 1
  let s := f (f (f (f (f (f s Tmr.T_UNIT) Tmr.T_AUTO) Tmr.T_IRQ) Tmr.T_FAB) Tmr.T_REGION) Tmr.T_MASK
  let s := s.doIf (bitOf w 7 = 1) fun s => s.setTm t Tmr.T_EXP 0
  let s :=
    if on && !was then
      if s.mayClaim (Reg.timer t) ag 1 then
        let s := ((s.setClaim (Reg.timer t) ag 1 true).setTm t Tmr.T_EN 1).tmReload t
        s.setMs { s.ms with expired := s.ms.expired.filter (· ≠ t) }
      else s.refuseClaim Pg.milestones (Reg.timer t) ag
    else if !on && was then (s.unclaim (Reg.timer t)).setTm t Tmr.T_EN 0
    else s
  s.doIf (bitOf w 6 = 1) fun s => s.tmReload t

/-- Raise event lines of a region beside those raised already (R91). -/
def addLines (m : List (Nat × Nat)) (region mask : Nat) : List (Nat × Nat) :=
  mset 0 m region (mget 0 m region ||| mask)

/-- Timer t expires (R94). A bucket or turn timer expires at a boundary, and its event lines rise with this bucket; those
of a microsecond timer rise with the next. -/
def State.tmExpire (s : State) (t : Nat) : State :=
  if !s.ms.expired.contains t then s
  else
    let s := (s.setMs { s.ms with expired := s.ms.expired.erase t }).setTm t Tmr.T_EXP 1
    let s := s.doIf (s.tm t Tmr.T_IRQ = 1) fun s => s.irq Pg.milestones 20
    let r := s.tm t Tmr.T_REGION
    let s := s.doIf (s.tm t Tmr.T_FAB = 1 && decide (r < 40) && s.serves (En.region r)) fun s =>
      let mask := s.tm t Tmr.T_MASK
      if s.tmUnit t < 2 then s.setMs { s.ms with lines := addLines s.ms.lines r mask }
      else s.setMs { s.ms with nextLines := addLines s.ms.nextLines r mask }
    s.doIf (s.tm t Tmr.T_AUTO = 1) fun s => s.tmReload t

end Sys2Proof.Machine
end

