-- ==== Sys2Proof/Machine/Codes.lean ====
section
/-! DEFINITION. Machine/Codes.lean: the error codes of the stores (R322, R323, R523) and the cyclic codes of the streams. -/

namespace Sys2Proof.Machine

/-- Read outcomes (Table 11.3). -/
inductive ReadOutcome where
  | clean | corrected | uncorrectable | poison
  deriving DecidableEq, Repr

/-- Parity of the bits of n below w. -/
def parity (n w : Nat) : Nat := onesIn n w % 2

def isPow2 (p : Nat) : Bool := p = 1 || p = 2 || p = 4 || p = 8 || p = 16 || p = 32 || p = 64

/-- Positions of the data bits of a Hamming code of n positions, in ascending order (R322). -/
def dataPositions (n : Nat) : List Nat := ((List.range n).map (· + 1)).filter fun p => !isPow2 p

/-- XOR of the position numbers of the data bits that are 1: the Hamming check field (R322). -/
def hamming (n data : Nat) : Nat :=
  ((dataPositions n).zipIdx).foldl (fun c p => if bitOf data p.2 = 1 then c ^^^ p.1 else c) 0

/-- Codeword of w data bits with k Hamming bits over n positions: data, then check bits, then parity (R322). -/
def hamEncode (n w k data : Nat) : Nat :=
  let h := hamming n data
  let body := data % 2 ^ w + h * 2 ^ w
  body + parity body (w + k) * 2 ^ (w + k)

/-- Syndrome and parity syndrome of a codeword (R322). -/
def hamSyndrome (n w k raw : Nat) : Nat × Nat :=
  (hamming n (raw % 2 ^ w) ^^^ bitsOf raw w k, parity raw (w + k + 1))

/-- The data bit at position p, if a data bit stands there. -/
def dataAt (n p : Nat) : Option Nat := (dataPositions n).idxOf? p

/-- Outcome, data and syndrome number of a read (R322, R523). -/
def hamDecode (n w k raw : Nat) : ReadOutcome × Nat × Nat :=
  let d := raw % 2 ^ w
  let (s, p) := hamSyndrome n w k raw
  let num := s + p * 2 ^ k
  if s = 0 ∧ p = 0 then (.clean, d, num)
  else if p = 1 ∧ s ≤ n then
    (.corrected, (dataAt n s).elim d fun i => d ^^^ 2 ^ i, num)
  else if p = 1 ∧ s = 2 ^ k - 1 then (.poison, 0, num)
  else (.uncorrectable, 0, num)

/-- The byte code: 8 data bits, 5 check bits, 12 positions. -/
def byteEncode (d : Nat) : Nat := hamEncode 12 8 4 d
def byteDecode (raw : Nat) : ReadOutcome × Nat × Nat := hamDecode 12 8 4 raw
/-- Data 0 with check field 0x1F. -/
def bytePoison : Nat := 0x1F00

/-- The lane code: 18 data bits, 6 check bits, 23 positions. -/
def laneEncode (d : Nat) : Nat := hamEncode 23 18 5 d
def laneDecode (raw : Nat) : ReadOutcome × Nat × Nat := hamDecode 23 18 5 raw
/-- The poison pattern of the lane code: data 0 with check field 0x1F (R322). -/
def lanePoison : Nat := 0x1F * 2 ^ 18

/-- The end-to-end code of a DAT data word (R365): 64 data bits, 7 Hamming bits and parity. -/
def e2eCheck (d : Nat) : Nat := hamEncode 71 64 7 d / 2 ^ 64
def e2eDecode (d chk : Nat) : ReadOutcome × Nat × Nat := hamDecode 71 64 7 (d % 2 ^ 64 + chk % 256 * 2 ^ 64)

/-- CRC-8 with generator x^8 + x^2 + x + 1 over bits [503:0], bit 0 first (R363). -/
def hcrc (h : Nat) : Nat :=
  (List.range 504).foldl (fun c i =>
    let c2 := c * 2 % 256
    if (c / 128 + bitOf h i) % 2 = 1 then c2 ^^^ 0x07 else c2) 0

/-- A word as a write leaves it. -/
def cleanWord (d : Nat) : EWord := { data := d % 2 ^ 64 }
/-- The poison pattern of the word code (R323). -/
def poisonWord : EWord := { data := 0, err := 0, poison := true }

/-- Outcome of a word-code read (R323, R523): up to two struck bits are corrected, three are detected. The manual does not
list WCODE, so what more than three struck bits read as is a free value (log entry 6). -/
def wordDecode (w : EWord) : ReadOutcome × Nat :=
  let n := onesIn w.err 80
  if n = 0 then if w.poison then (.poison, 0) else (.clean, w.data)
  else if w.poison ∨ 3 < n then
    let v := Config.wordCodeWild w.err (if w.poison then 2 ^ 64 else w.data)
    let k := v / 2 ^ 64 % 4
    if k = 0 then (.clean, v % 2 ^ 64)
    else if k = 1 then (.corrected, v % 2 ^ 64)
    else if k = 2 then (.poison, 0)
    else (.uncorrectable, 0)
  else if n ≤ 2 then (.corrected, w.data)
  else (.uncorrectable, 0)

/-- The word after a read's write-back (R326): corrected words are rewritten, uncorrectable ones become poison. -/
def wordBack (w : EWord) : EWord :=
  match wordDecode w with
  | (.corrected, d) => cleanWord d
  | (.uncorrectable, _) => poisonWord
  | _ => w

/-- One bit of CRC-32C, reflected form: polynomial 0x1EDC_6F41 mirrored. -/
def crc32cBit (c : Nat) : Nat := if c % 2 = 1 then (c / 2) ^^^ 0x82F63B78 else c / 2

/-- One byte of CRC-32C. -/
def crc32cByte (c b : Nat) : Nat := (List.range 8).foldl (fun c _ => crc32cBit c) (c ^^^ b)

/-- CRC-32C of a list of 32-bit words, each least significant byte first, from register value c. -/
def crc32cWords (c : Nat) (ws : List Nat) : Nat :=
  ws.foldl (fun c w => (List.range 4).foldl (fun c i => crc32cByte c (bitsOf w (8 * i) 8)) c) c

/-- CRC-32C with initial value and final XOR of all ones. -/
def crc32c (ws : List Nat) : Nat := crc32cWords 0xFFFFFFFF ws ^^^ 0xFFFFFFFF

/-- Product of two CRC registers as polynomials modulo the generator, reflected: bit 31 is the coefficient of x^0. -/
def gfMul (a b : Nat) : Nat :=
  ((List.range 32).foldl (fun (p : Nat × Nat) i => (if bitOf a (31 - i) = 1 then p.1 ^^^ p.2 else p.1, crc32cBit p.2)) (0, b)).1

/-- x^n modulo the generator, for n below 2^40. -/
def gfPow (n : Nat) : Nat :=
  ((List.range 40).foldl (fun (p : Nat × Nat) i => (if bitOf n i = 1 then gfMul p.1 p.2 else p.1, gfMul p.2 p.2))
    (2 ^ 31, 2 ^ 30)).1

/-- The CRC register after n words of zero: a zero bit multiplies it by x. -/
def crcZeros (c n : Nat) : Nat := gfMul (gfPow (64 * n)) c

/-- CRC-32C of `total` 64-bit words of which those listed, in rising place, are not zero. -/
def crcSparse (total : Nat) (ws : List (Nat × Nat)) : Nat :=
  let (c, at_) := ws.foldl (fun (a : Nat × Nat) w =>
    (crc32cWords (crcZeros a.1 (w.1 - a.2)) [w.2 % 2 ^ 32, w.2 / 2 ^ 32], w.1 + 1)) (0xFFFFFFFF, 0)
  crcZeros c (total - at_) ^^^ 0xFFFFFFFF

end Sys2Proof.Machine
end

