-- ==== Sys2Proof/Machine/Mesh.lean ====
section
/-! DEFINITION. Machine/Mesh.lean: packets and what carries them (chapter 12): headers, endpoints, time slots, injection,
routers, and the directories of shared lines (log entry 40). -/

namespace Sys2Proof.Machine

def State.setMesh (s : State) (m : Mesh) : State := { s with mesh := m }

/-! ### Headers (Table 12.3) -/

namespace Hd
def op (h : Nat) : Nat := bitsOf h 0 4
def dx (h : Nat) : Nat := bitsOf h 4 4
def dy (h : Nat) : Nat := bitsOf h 8 3
def ep (h : Nat) : Nat := bitsOf h 11 5
def sx (h : Nat) : Nat := bitsOf h 16 4
def sy (h : Nat) : Nat := bitsOf h 20 3
def sep (h : Nat) : Nat := bitsOf h 23 5
def tag (h : Nat) : Nat := bitsOf h 28 8
/-- LEN and ADDR of a REQ header. -/
def reqLen (h : Nat) : Nat := bitsOf h 36 4 + 1
def reqAddr (h : Nat) : Nat := bitsOf h 40 40
def code (h : Nat) : Nat := bitsOf h 36 3
/-- LINE of a SNP header. -/
def line (h : Nat) : Nat := bitsOf h 28 34
/-- Fields of a DAT header. -/
def len (h : Nat) : Nat := bitsOf h 36 11
def addr (h : Nat) : Nat := bitsOf h 48 40
def wmask (h : Nat) : Nat := bitsOf h 128 128
end Hd

def destOf (h : Nat) : Place := ⟨Hd.dx h, Hd.dy h, Hd.ep h⟩
def sourceOf (h : Nat) : Place := ⟨Hd.sx h, Hd.sy h, Hd.sep h⟩

/-- The fields every header has. -/
def headerOf (op : Nat) (dst src : Place) (tag : Nat) : Nat :=
  op + dst.x * 2 ^ 4 + dst.y * 2 ^ 8 + dst.ep * 2 ^ 11 + src.x * 2 ^ 16 + src.y * 2 ^ 20 + src.ep * 2 ^ 23
    + tag * 2 ^ 28

/-- A DAT header with its HCRC. -/
def datHeader (op : Nat) (dst src : Place) (tag len : Nat) (shared : Bool) (addr wmask : Nat) : Nat :=
  let h := headerOf op dst src tag + len * 2 ^ 36 + bit shared * 2 ^ 47 + addr * 2 ^ 48 + wmask * 2 ^ 128
  h + hcrc h * 2 ^ 504

namespace Nw
def req : Nat := 0
def rsp : Nat := 1
def snp : Nat := 2
def dat : Nat := 3
end Nw

/-! ### Endpoints (Table 12.1) -/

/-- Column of the router of column band y (§05.6). -/
def bandColumn (y : Nat) : Nat := [1, 3, 6, 8, 10].getD y 0

/-- Router of region instance i. -/
def regionRouter (i : Nat) : Nat × Nat := (bandColumn (i % 5), 4 * (i / 20) + i % 20 / 5)

/-- Endpoint ep of region i. -/
def regionPlace (i ep : Nat) : Place := ⟨(regionRouter i).1, (regionRouter i).2, ep⟩

/-- Endpoint of DDR4 channel c. -/
def ddrPlace (c : Nat) : Place := if c < 4 then ⟨0, 2 * c, 4⟩ else ⟨11, 2 * (c - 4), 4⟩

def pciePlace : Place := ⟨6, 4, 6⟩

/-- What stands at an endpoint. -/
inductive Unit' where
  | engine (n : Nat)
  | port (i : Nat)
  | packer (i : Nat)
  | slab (i : Nat)
  | ddr (c : Nat)
  | tx (g : Nat)
  | pcie
  deriving DecidableEq, Repr

/-- The region whose router stands at (x, y). -/
def regionAt (x y : Nat) : Option Nat := (List.range 40).find? fun i => regionRouter i = (x, y)

/-- The unit at a place (R361). -/
def unitAt (p : Place) : Option Unit' :=
  if 12 ≤ p.x ∨ 8 ≤ p.y then none
  else match p.ep with
    | 0 => some (.engine (12 * p.y + p.x))
    | 1 => (regionAt p.x p.y).map .port
    | 2 => (regionAt p.x p.y).map .packer
    | 3 => (regionAt p.x p.y).map .slab
    | 4 => ((List.range 8).find? fun c => ddrPlace c = p).map .ddr
    | 5 => if p.y = 0 then some (.tx p.x) else none
    | 6 => if p = pciePlace then some .pcie else none
    | _ => none

/-- The Waybook entry of a unit; none for a logical engine without a host. -/
def State.unitEntry (s : State) : Unit' → Option Nat
  | .engine n => (s.hostEngine n).map En.engine
  | .port i => some (En.region i)
  | .packer i => some (En.packer i)
  | .slab i => some (En.slab i)
  | .ddr c => some (En.ddr c)
  | .tx g => some (En.tx g)
  | .pcie => some En.pcie

/-! ### Time slots (R370 to R375) -/

/-- Network-clock cycles per bucket: the output of PLL NET over the bucket clock, 0 before lock (Table 12.7). -/
def State.netK (s : State) : Nat :=
  if s.prelock then 0 else s.rd (Pg.pll 7) Pll.MULT / (s.rd Pg.clocks Clk.DIV 156 + 1)

/-- Key of a slot entry: bank, router, network, output, slot (R372). -/
def slotKey (bank x y net out k : Nat) : Nat := bank * 2 ^ 17 + 64 * (5 * (4 * (12 * y + x) + net) + out) + k

/-- A link of a network: router and output (Table 12.8). -/
def linkKey (x y out net : Nat) : Nat := x + y * 2 ^ 4 + out * 2 ^ 7 + net * 2 ^ 10

/-- A local entry in force at the place's router names its endpoint on a network. -/
def State.hasSlot (s : State) (p : Place) (net : Nat) : Bool :=
  let bank := s.rd Pg.network Net.ACT_TBL
  (List.range 5).any fun o => (List.range s.netK).any fun k =>
    mget 0 s.mesh.slots (slotKey bank p.x p.y net o k) % 256 = 5 + p.ep * 8

/-- The source's profile sends on VC 0 alone (R375). -/
def State.fixedFlow (s : State) (p : Place) : Bool :=
  (unitAt p).elim false fun u => (s.unitEntry u).elim false fun e =>
    (profileHome e).isSome && (s.profile e = Prof.latency || s.profile e = Prof.thasol)

/-- A packet refused for want of a slot is counted and logged (R375). -/
def State.noSlot (s : State) (p : Place) : State :=
  ((s.count Pg.network Net.NO_SLOT_CNT).irq Pg.network 23).logOnce Pg.network 0x23 Sev.info (p.x + p.y * 2 ^ 4 + p.ep * 2 ^ 7)

/-- What becomes of an injected packet. -/
inductive Injected where
  | sent | noRoute | noSlot
  deriving DecidableEq, Repr

/-- The network has power and its clock. -/
def State.netRuns (s : State) : Bool := s.isOn En.network && s.rd Pg.clocks Clk.OPEN 156 = 1

/-- The packet as a port at p sends it: in LATENCY and THASOL on VC 0 (R375). -/
def State.onFlow (s : State) (p : Packet) (src : Place := sourceOf p.h) : Packet :=
  if s.fixedFlow src then { p with vc := 0 } else p

/-- The checks of an injection (R369, R375): with the tables in force, a LATENCY or THASOL port sends on VC 0 and needs a
slot (log entry 41). -/
def State.injectWhy (s : State) (p : Packet) (src : Place := sourceOf p.h) : Injected :=
  if 12 ≤ Hd.dx p.h then .noRoute
  else if s.flag Pg.network Net.GT_EN && s.fixedFlow src && !s.hasSlot src p.net then .noSlot
  else .sent

/-- A refused packet is counted. -/
def State.injectCount (s : State) (p : Packet) (w : Injected) (src : Place := sourceOf p.h) : State :=
  match w with
  | .sent => s
  | .noRoute => s.count Pg.network Net.NO_ROUTE_CNT
  | .noSlot => s.noSlot src

/-- The packet as it waits at the port that offers it; it enters the router at the second edge from now (R382). -/
def State.worm (s : State) (p : Packet) (src : Place := sourceOf p.h) : Worm :=
  ⟨s.mesh.offered, src, p, List.replicate (p.flits.length + 1) ⟨0, s.mesh.edge + 1⟩⟩

/-- The packet stands at its port and moves with the network clock. -/
def State.launch (s : State) (p : Packet) (src : Place := sourceOf p.h) : State :=
  s.setMesh { s.mesh with flight := s.mesh.flight ++ [s.worm p src], offered := s.mesh.offered + 1 }

/-- The port at src offers a packet. -/
def State.inject (s : State) (p : Packet) (src : Place := sourceOf p.h) : Injected × State :=
  let w := s.injectWhy p src
  (w, if w = .sent then s.launch (s.onFlow p src) src else s.injectCount p w src)

/-- A unit sends a packet and does not look at what becomes of it. -/
def State.send (s : State) (p : Packet) : State := (s.inject p).2

/-- An RSP that answers header h from its destination. -/
def State.respond (s : State) (h op code : Nat) : State :=
  s.send ⟨Nw.rsp, 1, headerOf op (sourceOf h) (destOf h) (Hd.tag h) + code * 2 ^ 36, []⟩

/-! ### Directories (R380, R381) -/

/-- A number for each memory endpoint. -/
def homeKey : SharedHome → Nat
  | .slab i => i
  | .ddr c => 100 + c

def State.home (s : State) (k : Nat) : Home := mget {} s.mesh.homes k
def State.setHome (s : State) (k : Nat) (v : Home) : State :=
  s.setMesh { s.mesh with homes := mset {} s.mesh.homes k v }

/-- The place of memory endpoint k. -/
def homePlace (k : Nat) : Place := if k < 100 then regionPlace k 3 else ddrPlace (k - 100)

/-- Regions of a sharer mask. -/
def sharersOf (mask : Nat) : List Nat := (List.range 40).filter fun i => bitOf mask i = 1

/-- Sharers of a line. -/
def State.sharers (s : State) (k line : Nat) : List Nat :=
  ((s.home k).dir.find? fun d => d.line = line).elim [] fun d => sharersOf d.mask

/-- A write to a line: an INV goes to each sharer on VC 1 of SNP, and the entry is freed (R381). -/
def State.invalidate (s : State) (k line : Nat) : State :=
  let rs := s.sharers k line
  if rs.isEmpty then s
  else
    let s := s.setHome k { s.home k with dir := (s.home k).dir.filter fun d => d.line ≠ line }
    s.each rs fun i s => s.send ⟨Nw.snp, 1, headerOf 0 (regionPlace i 1) (homePlace k) 0 + line * 2 ^ 28, []⟩

/-- Region i becomes a sharer of a line; false when the directory is full (R380). -/
def State.share (s : State) (k line i : Nat) : Bool × State :=
  let h := s.home k
  if h.dir.any fun d => d.line = line then
    (true, s.setHome k { h with dir := h.dir.map fun d => if d.line = line then { d with mask := d.mask ||| 2 ^ i } else d })
  else if h.dir.length < 256 then (true, s.setHome k { h with dir := h.dir ++ [⟨line, 2 ^ i⟩] })
  else (false, s.count Pg.network Net.DIR_FULL_CNT)

/-- Region i gives up its copy of a line (R380). -/
def State.unshare (s : State) (k line i : Nat) : State :=
  let h := s.home k
  s.setHome k { h with dir := (h.dir.map fun d =>
    if d.line = line then { d with mask := d.mask - bitOf d.mask i * 2 ^ i } else d).filter fun d => d.mask ≠ 0 }

/-! ### Data flits (R365, R378) -/

/-- A data flit of eight words; POISON is set when any of them is poisoned. -/
def flitOf (ws : List (Nat × Bool)) : Flit :=
  let d := ws.zipIdx.foldl (fun n w => n + w.1.1 % 2 ^ 64 * 2 ^ (64 * w.2)) 0
  let c := ws.zipIdx.foldl (fun n w => n + e2eCheck (w.1.1 % 2 ^ 64) * 2 ^ (8 * w.2)) 0
  ⟨d, c, ws.any (·.2)⟩

/-- The destination's check of a flit: its words, and whether it is poisoned; corrections and losses are counted. -/
def State.checkFlit (s : State) (h : Nat) (f : Flit) : (List Nat × Bool) × State :=
  let rs := (List.range 8).map fun j => e2eDecode (bitsOf f.d (64 * j) 64) (bitsOf f.chk (8 * j) 8)
  let ce := (rs.filter fun r => r.1 = .corrected).length
  let ue := (rs.filter fun r => r.1 ≠ .corrected && r.1 ≠ .clean).length
  let s := s.doIf (ce ≠ 0) fun s => s.count Pg.network Net.E2E_CE_CNT ce
  let s := s.doIf (ue ≠ 0) fun s =>
    ((s.count Pg.network Net.E2E_UE_CNT ue).irq Pg.network 17).logHw Pg.network 0x21 Sev.uncorrected
      (Hd.dx h + Hd.dy h * 2 ^ 4 + Hd.ep h * 2 ^ 7 + Hd.sx h * 2 ^ 12 + Hd.sy h * 2 ^ 16 + Hd.sep h * 2 ^ 19)
  ((rs.map (·.2.1), f.poison || ue ≠ 0), s)

/-- Check every flit of a packet. -/
def State.checkFlits (s : State) (h : Nat) : List Flit → List (List Nat × Bool) × State
  | [] => ([], s)
  | f :: fs =>
    let (r, s) := s.checkFlit h f
    let (rs, s) := s.checkFlits h fs
    (r :: rs, s)

/-- Words in groups of eight, the last padded with zero words. -/
def linesOf (ws : List Nat) : Nat → List (List Nat)
  | 0 => []
  | n + 1 => if ws.isEmpty then [] else ((ws.take 8) ++ List.replicate (8 - (ws.take 8).length) 0) :: linesOf (ws.drop 8) n

/-- An EVENT packet (R362). -/
def eventPacket (dst src : Place) (addr : Nat) (ws : List Nat) : Packet :=
  let fs := (linesOf ws ws.length).map fun l => flitOf (l.map fun w => (w, false))
  ⟨Nw.dat, 1, datHeader 2 dst src 0 fs.length false addr 0, fs⟩

end Sys2Proof.Machine
end

