-- ==== Sys2Proof/Machine/Timing.lean ====
section
/-! DEFINITION. Machine/Timing.lean: the timing port (§03.1 to §03.5), the start over CFG_DONE up to its samples (R99), and
the commands of the timers (§03.6). -/

namespace Sys2Proof.Machine

/-! ### The timing word (R68, R520) -/

/-- One step of the shift register of R520. -/
def crc7Step (c b : Nat) : Nat :=
  let f := b ^^^ bitOf c 6
  let c := (c * 2) % 128
  if f = 1 then c ^^^ 0x09 else c

/-- CHK of a word from its bits [31:7] (R520). -/
def chkOf (w : Nat) : Nat := (List.range 25).foldl (fun c i => crc7Step c (bitOf w (31 - i))) 0

/-- A timing word with a right CHK. -/
def goodWord (tm : Bool) (cmd arg : Nat) : Nat :=
  let m := bit tm * 2 ^ 31 + cmd * 2 ^ 23 + arg * 2 ^ 7
  m + chkOf m

def State.tpRd (s : State) (r : Row) : Nat := s.rd Pg.timing r
def State.tpWr (s : State) (r : Row) (v : Nat) : State := s.wr Pg.timing r v
def State.setTp (s : State) (t : Tp) : State := { s with tp := t }

/-! ### Lay-by (R80, R81) -/

/-- LAYBY_BAD (R80), judged against TURN_LEN_USED as it stands. -/
def State.laybyBad (s : State) : Bool := !layOk s.tp.layStart s.tp.layLen s.turnLen

/-- IN_LAYBY follows the present bucket, looked at once in each bucket: at a boundary at which a written lay-by takes effect,
when it does so (LAYBY_APPLY). A lay-by that begins at or after a cancelled time is not observed (R81). -/
def State.laybyLook (s : State) : State :=
  let b := s.bucket
  let inside : Bool := s.timed && !s.tp.layDue && !s.laybyBad && s.tp.layStart ≤ b && b < s.tp.layStart + s.tp.layLen
  let was := s.inLayby
  let s :=
    if inside && b = s.tp.layStart then
      s.setTp { s.tp with layCancelled := s.tp.cancels.any fun c => c ≤ s.time64
                          cancels := s.tp.cancels.filter fun c => s.time64 < c }
    else s
  let is : Bool := inside && !s.tp.layCancelled
  let s := s.doIf (was && (!is || b = s.tp.layStart)) fun s => (s.tpWr Tp.IN_LAYBY 0).irq Pg.timing 22
  s.doIf (is && (!was || b = s.tp.layStart)) fun s =>
    ((s.setTp { s.tp with laySeen := true }).tpWr Tp.IN_LAYBY 1).irq Pg.timing 21

/-- The moment at which what waits for the lay-by takes effect: the first bucket of an observed lay-by, or the turn boundary
that ends a turn without one, be it for a cancel (R32, R81). -/
def State.quietPoint (s : State) : Bool :=
  s.timed && ((s.inLayby && s.bucket = s.tp.layStart) || (s.bucket = 0 && s.tp.layNone))

/-- LAYBY_REMAIN of the time bus (R81). -/
def State.laybyRemain (s : State) : Nat := if s.inLayby then s.tp.layStart + s.tp.layLen - s.bucket else 0

/-- TURN_LEN_USED changes (R79): LAYBY_BAD is judged again and entries outside the turn are missed (R80, R85). -/
def State.setTurnLen (s : State) (n : Nat) : State :=
  if n = s.turnLen then s else (s.tpWr Tp.TURN_LEN_USED n).missLen

/-- The lay-by fields written take effect (R80). -/
def State.laybyTake (s : State) : State :=
  s.setTp { s.tp with layStart := s.tpRd Tp.LAYBY_START, layLen := s.tpRd Tp.LAYBY_LEN, layWait := false, layDue := false }

/-- A write of TP_LAYBY (R80). -/
def State.laybyWrite (s : State) (v : Nat) : State :=
  let s := (s.tpWr Tp.LAYBY_START (bitsOf v 0 16)).tpWr Tp.LAYBY_LEN (bitsOf v 16 16)
  if s.timed then s.setTp { s.tp with layWait := true } else s.laybyTake

/-! ### Loads (R83, R84) -/

def State.loadPending (s : State) : State :=
  s.tpWr Tp.LOAD_PEND (bit (s.tp.loadB.isSome || s.tp.loadS.isSome))

/-- The TURN load whose armed times allow it applies (R84). `due` says which armed loads this marker takes. -/
def State.applyLoad (s : State) (due : Nat × Nat → Bool) : State :=
  let b := s.tp.loadB.filter due
  let w := s.tp.loadS.filter due
  match b.or w with
  | none => s
  | some (v, _) =>
    let s := s.doIf (b.isSome && w.isSome) fun s => s.tpWr Tp.SW_LOAD_LOST 1
    let s := s.setTp { s.tp with
      loadB := if b.isSome then none else s.tp.loadB
      loadS := if w.isSome then none else s.tp.loadS }
    let s := ((s.tpWr Tp.TURN v).tpWr Tp.TURN_SUSPECT 0).loadPending
    (s.irq Pg.timing 20).logHw Pg.timing 0x24 Sev.info v

/-- A good command other than NOP, or a NOP, acts in the timing port (R82). -/
def State.timingCmd (s : State) (cmd arg : Nat) : State :=
  if cmd = 0 then s
  else
    let s := s.setTp { s.tp with busCmd := cmd, busArg := arg, busValid := true }
    let s := (s.tpWr Tp.LAST_CMD cmd).tpWr Tp.LAST_ARG arg
    let s := s.cmdTriggers cmd
    let en : Bool := s.tpRd Tp.TURN_BCAST_EN = 1
    match cmd with
    | 1 => s.doIf en fun s => s.setTp { s.tp with bstage := putBits s.tp.bstage 0 16 arg, loSeen := true }
    | 2 => s.doIf en fun s =>
        if s.tp.loSeen then
          let v := putBits s.tp.bstage 16 16 arg
          (s.setTp { s.tp with bstage := v, loadB := some (v, s.time64) }).loadPending
        else (s.count Pg.timing Tp.CNT_CMD_BAD).logHw Pg.timing 0x25 Sev.info arg
    | 3 => s.setTp { s.tp with cancels := s.tp.cancels ++ [s.time64 + 2] }
    | _ => s

/-! ### Lock and loss (R70 to R74) -/

/-- The port leaves LOCKED or HOLDOVER for TURN_HUNT or PLL_LOCK (R73). IN_LAYBY reads 0 from then on and LAYBY_END does not
latch: the manual does not say whether a lay-by ends with the loss (DESIGN CHOICE, log entry 145). -/
def State.lockLost (s : State) (st : Nat) : State :=
  let s := (s.tpWr Tp.STATE st).tpWr Tp.IN_LAYBY 0
  let s := s.setTp { s.tp with
    sinceMark := none, spacing := none, align := 0, good := 0, failRun := 0, errTurns := 0, errNow := false
    loSeen := false, busValid := false, relocked := s.tp.relocked || (s.tp.released && !s.tp.started)
    sampled := none }
  let s := ((s.irq Pg.timing 17).count Pg.timing Tp.CNT_LOCKLOSS).logHw Pg.timing 0x22 Sev.degraded st
  let s := s.msStop
  if st = 1 then s.askTreeCloses else s

/-- LOCKED to HOLDOVER (R72). -/
def State.enterHoldover (s : State) : State :=
  let s := (s.tpWr Tp.STATE 5).setTp { s.tp with holdGood := 0, holdBuckets := 0, failRun := 0 }
  (s.irq Pg.timing 18).logHw Pg.timing 0x21 Sev.corrected 0

/-- TURN_HUNT to LOCKED at a marker (R74). CMD and CHAIN firings that a command received or an arm made without lock started
count their AT from this bucket: the manual does not say from which (DESIGN CHOICE, log entry 146) (R82, R85). -/
def State.enterLocked (s : State) (len : Nat) : State :=
  let first := !s.tp.everLocked
  let t := s.time64 + 1
  let due := s.ms.due.map fun f => (f.1, f.2 + bit !first)
  let s := (s.setMs { s.ms with due := due, firing := [], acted := [] }).doIf s.tp.layWait fun s => s.laybyTake
  let s := ((s.tpWr Tp.STATE 4).tpWr Tp.BUCKET 0).setTp { s.tp with
    everLocked := true, failRun := 0, errTurns := 0, errNow := false, nextLen := none, layCancelled := false
    laySeen := false, layNone := false }
  let s := if first then s
    else
      let s := (s.tpWr Tp.TURN (s.turn + 1)).tpWr Tp.TURN_SUSPECT 1
      (s.tpWr Tp.TIME64_LO (t % 2 ^ 32)).tpWr Tp.TIME64_HI (t / 2 ^ 32)
  let s := s.applyLoad fun _ => true
  let s := (s.tpWr Tp.TURN_LEN_USED len).tpWr Tp.LOCK_TURN s.turn
  let s := ((s.wr Pg.clocks Clk.PRELOCK 0).irq Pg.timing 16).logHw Pg.timing 0x20 Sev.info s.turn
  (s.missAbs Why.lockLost).laybyLook.branchEdge

/-- A marker found in TURN_HUNT, k buckets after the one before it (Table 03.2): three good markers with two equal spacings
that equal TURN_LEN lock. -/
def State.huntMarker (s : State) (k : Option Nat) : State :=
  match k with
  | none => s.setTp { s.tp with sinceMark := some 0, spacing := none, loSeen := false }
  | some k =>
    let want := s.tpRd Tp.TURN_LEN
    if s.tp.spacing = some k ∧ (want = 0 ∨ want = k) ∧ k < 65536 then s.enterLocked k
    else s.setTp { s.tp with sinceMark := some 0, spacing := some k, loSeen := false }

/-- A word received in TURN_HUNT (Table 03.2): the port acts on the commands of good words (R82). -/
def State.huntWord (s : State) (good tm : Bool) (cmd arg : Nat) : State :=
  let k := s.tp.sinceMark.map (· + 1)
  if !good then (s.count Pg.timing Tp.CNT_CHECK).setTp { s.tp with sinceMark := k }
  else (if tm then s.huntMarker k else s.setTp { s.tp with sinceMark := k }).timingCmd cmd arg

/-- A marker error (R71): counted and logged; the third turn in a row with one sends the port to TURN_HUNT. -/
def State.markerErr (s : State) (tm : Bool) : State :=
  let s := ((s.count Pg.timing Tp.CNT_MARKER).irq Pg.timing 19).logHw Pg.timing 0x23 Sev.corrected
    (if tm then s.bucket else 0xFFFF)
  if s.tp.errNow then s
  else
    let s := s.setTp { s.tp with errNow := true, errTurns := s.tp.errTurns + 1 }
    if 3 ≤ s.tp.errTurns then s.lockLost 3 else s

/-- A word received while LOCKED (R69, R71). -/
def State.lockedWord (s : State) (good tm : Bool) (cmd arg : Nat) : State :=
  if !good then
    let s := (s.count Pg.timing Tp.CNT_CHECK).setTp { s.tp with failRun := s.tp.failRun + 1 }
    if 16 ≤ s.tp.failRun then s.enterHoldover else s
  else
    let s := (s.setTp { s.tp with failRun := 0 }).timingCmd cmd arg
    if tm = decide (s.bucket = 0) then s else s.markerErr tm

/-- A word received in HOLDOVER (R71, R72). -/
def State.holdWord (s : State) (good tm : Bool) (cmd arg : Nat) : State :=
  if !good then (s.count Pg.timing Tp.CNT_CHECK).setTp { s.tp with holdGood := 0 }
  else
    let n := if tm = decide (s.bucket = 0) then s.tp.holdGood + 1 else 0
    let s := (s.setTp { s.tp with holdGood := n }).timingCmd cmd arg
    if n < 8 then s
    else
      let s := (s.tpWr Tp.STATE 4).setTp { s.tp with failRun := 0, errTurns := 0, errNow := false }
      s.logHw Pg.timing 0x21 Sev.corrected 1

/-- A word received in WORD_HUNT (R70). -/
def State.wordHunt (s : State) (good : Bool) : State :=
  if !good then s.setTp { s.tp with align := (s.tp.align + 1) % 32, good := 0 }
  else if s.tp.good + 1 < 64 then s.setTp { s.tp with good := s.tp.good + 1 }
  else (s.tpWr Tp.STATE 3).setTp { s.tp with good := 0, sinceMark := none, spacing := none }

/-- A word arrives, at the alignment tried (R68 to R71). -/
def State.timingWord (s : State) (w : Nat) : State :=
  let good : Bool := chkOf w = bitsOf w 0 7
  let tm : Bool := bitOf w 31 = 1
  let cmd := bitsOf w 23 8
  let arg := bitsOf w 7 16
  if !s.tp.ck then s
  else match s.tpState with
    | 2 => s.wordHunt good
    | 3 => s.huntWord good tm cmd arg
    | 4 => s.lockedWord good tm cmd arg
    | 5 => s.holdWord good tm cmd arg
    | _ => s

/-- TIMING_WORD (R68). -/
def execTimingWord (w : Word) (s : State) : Host.Outcome State Fault Refusal := .next (s.timingWord w.toNat)

/-- CMD_NOP (R82): the arrival of a good word with CMD = 0x00. -/
def execCmdNop (tm : Bool) (arg : BitVec 16) (s : State) : Host.Outcome State Fault Refusal :=
  .next (s.timingWord (goodWord tm 0 arg.toNat))

/-- TURN_LO (R83): the arrival of a good word with CMD = 0x01. -/
def execTurnLo (tm : Bool) (arg : BitVec 16) (s : State) : Host.Outcome State Fault Refusal :=
  .next (s.timingWord (goodWord tm 1 arg.toNat))

/-- TURN_HI (R83): the arrival of a good word with CMD = 0x02. -/
def execTurnHi (tm : Bool) (arg : BitVec 16) (s : State) : Host.Outcome State Fault Refusal :=
  .next (s.timingWord (goodWord tm 2 arg.toNat))

/-- LAYBY_CANCEL (R81): the arrival of a good word with CMD = 0x03. -/
def execLaybyCancel (tm : Bool) (arg : BitVec 16) (s : State) : Host.Outcome State Fault Refusal :=
  .next (s.timingWord (goodWord tm 3 arg.toNat))

/-- USER_COMMAND (R82): the arrival of a good word with a CMD of 0x40 to 0xFF, or a reserved one. -/
def execUserCommand (tm : Bool) (cmd : BitVec 8) (arg : BitVec 16) (s : State) : Host.Outcome State Fault Refusal :=
  .next (s.timingWord (goodWord tm cmd.toNat arg.toNat))

/-- TMG_CK_START (R70): TMG_CK toggles; after the start delay the port leaves NO_CLOCK. -/
def execTmgCkStart (s : State) : Host.Outcome State Fault Refusal :=
  .next (
    let s := (s.setTp { s.tp with ck := true }).pllLook 0
    if s.tpState = 0 ∧ s.ck.delayOver then s.tpWr Tp.STATE 1 else s)

/-- TMG_CK_STOP (R70): the reference of the timing PLL is gone; a LOCKED port goes to HOLDOVER, in which the PLL holds
its control value (R72). -/
def execTmgCkStop (s : State) : Host.Outcome State Fault Refusal :=
  .next (
    let s := (s.setTp { s.tp with ck := false }).wr (Pg.pll 0) Pll.REF_OK 0
    if s.tpState = 4 then s.enterHoldover else s)

/-- HOLDOVER_TIMEOUT (R70): HOLD_MAX buckets have passed in HOLDOVER. -/
def execHoldoverTimeout (s : State) : Host.Outcome State Fault Refusal :=
  .next (
    if s.tpState = 5 ∧ min (s.tpRd Tp.HOLD_MAX) 4096 ≤ s.tp.holdBuckets then s.lockLost 1 else s)

/-- The time bus at a boundary (§03.3): CMD_VALID reads 1 in the bucket of its word alone. -/
def State.busShift (s : State) : State :=
  s.setTp { s.tp with prevCmd := if s.tp.busValid then some s.tp.busCmd else none, busValid := false }

/-- The boundary of a bucket (R75): the three counters change together; the issued firings reach their bucket; at a turn
boundary a lay-by that was written is due (R80). -/
def State.boundary (s : State) : State :=
  let s := s.busShift
  if !s.timed then s
  else
    let s := s.doIf s.tp.layDue fun s => s.laybyTake
    let t := s.time64 + 1
    let wrap : Bool := s.turnLen ≤ s.bucket + 1
    let s := (s.tpWr Tp.TIME64_LO (t % 2 ^ 32)).tpWr Tp.TIME64_HI (t / 2 ^ 32)
    let s := s.setTp { s.tp with holdBuckets := s.tp.holdBuckets + bit (s.tpState = 5) }
    let s :=
      if wrap then
        let s := (s.tpWr Tp.BUCKET 0).tpWr Tp.TURN (s.turn + 1)
        let s := s.setTp { s.tp with loSeen := false, errNow := false, layDue := s.tp.layWait
                                     layNone := !s.tp.laySeen, laySeen := false
                                     errTurns := if s.tp.errNow then s.tp.errTurns else 0 }
        match s.tp.nextLen with
        | some n => (s.setTp { s.tp with nextLen := none }).setTurnLen n
        | none => s
      else s.tpWr Tp.BUCKET (s.bucket + 1)
    let m := s.ms
    let s := s.setMs { m with firing := m.issued, issued := m.decided, decided := [], acted := []
                              lines := m.nextLines, nextLines := [] }
    let s := s.tickTimers 0
    let s := s.doIf wrap fun s => s.tickTimers 1
    s.laybyLook

/-- A software TURN load is armed with the value TURN_STAGE holds now (R84); while one is armed, R14 holds. -/
def State.turnLoad (s : State) : State :=
  if s.tp.loadS.isSome then s.ignored Pg.timing
  else (s.setTp { s.tp with loadS := some (s.tpRd Tp.TURN_STAGE, s.time64) }).loadPending

/-- TURN_LOAD (R84). -/
def execTurnLoad (ag : Agent) (s : State) : Host.Outcome State Fault Refusal :=
  .next (s.access ag Pg.timing fun s => s.turnLoad)

/-- TURN_LOADED (R84): at a turn marker 2 or more buckets after its arm, the load applies; ABS entries are judged again
(R85). -/
def execTurnLoaded (s : State) : Host.Outcome State Fault Refusal :=
  .next (
    if s.timed ∧ s.bucket = 0 ∧ (s.loadAt s.time64).isSome then
      (s.applyLoad fun l => l.2 + 2 ≤ s.time64).missAbs Why.turnLoad
    else s)

/-- A write of TURN_LEN: RWL, at the next marker while the port counts (R79). -/
def State.turnLenWrite (s : State) (ag v : Nat) (rwl : Bool := false) : State :=
  if v = s.tpRd Tp.TURN_LEN then s
  else if !rwl && !s.lockOpen Pg.timing then s.lockRefused Pg.timing 0x040 ag
  else
    let s := s.tpWr Tp.TURN_LEN v
    if s.timed then s.setTp { s.tp with nextLen := if v = 0 then none else some v } else s

/-- TURN_LEN_WRITE (R79). -/
def execTurnLenWrite (ag : Agent) (v : BitVec 16) (s : State) : Host.Outcome State Fault Refusal :=
  .next (s.access ag Pg.timing fun s => s.turnLenWrite ag v.toNat)

/-- LAYBY_WRITE (R80). -/
def execLaybyWrite (ag : Agent) (v : Word) (s : State) : Host.Outcome State Fault Refusal :=
  .next (s.access ag Pg.timing fun s => s.laybyWrite v.toNat)

/-- LAYBY_APPLY (R80): at the turn boundary the written lay-by takes effect. -/
def execLaybyApply (s : State) : Host.Outcome State Fault Refusal :=
  .next (if s.tp.layWait ∧ (!s.timed ∨ s.tp.layDue) then s.laybyTake.laybyLook else s)

/-! ### CFG_DONE (R99) -/

/-- Bucket DONE_RELEASE as it acts (Table 03.5). -/
def State.doneRelease (s : State) : Nat :=
  let v := s.tpRd Tp.DONE_RELEASE
  if s.turnLen ≤ v then 0 else v

/-- Bucket DONE_SAMPLE as it acts. -/
def State.doneSample (s : State) : Nat :=
  let v := s.tpRd Tp.DONE_SAMPLE
  if s.turnLen ≤ v then s.turnLen / 2 else v

/-- WAIT_TIMING: the load is complete and CFG_DONE stays low for want of lock (R99). -/
def State.waitTiming (s : State) : Bool := s.ld.complete && !s.tp.released && !s.timed

/-- CFG_DONE_RELEASE (R99). -/
def execCfgDoneRelease (s : State) : Host.Outcome State Fault Refusal :=
  .next (
    if s.ld.complete ∧ s.timed ∧ s.bucket = s.doneRelease then s.setTp { s.tp with released := true } else s)

/-- CFG_DONE_SAMPLE (R99): the line reads high when this device and the others have released it. -/
def execCfgDoneSample (othersLow : Bool) (s : State) : Host.Outcome State Fault Refusal :=
  .next (
    if s.timed ∧ s.bucket = s.doneSample then
      s.setTp { s.tp with sampled := if s.tp.released && !othersLow then some s.time64 else none } else s)

/-! ### PLLs whose READY others wait for -/

/-- A PLL reads READY (R109). The timing PLL's lock takes the port to WORD_HUNT and gives the others their reference
(R70, R111); a retargeted spare takes over the trees that wait for it (R114). -/
def State.pllReadyNow (s : State) (p : Nat) : State :=
  match (s.pll p).locking with
  | none => s
  | some since =>
    if !s.pllRuns p || !s.flag (Pg.pll p) Pll.REF_OK then s
    else
      let s := (s.setPll p { s.pll p with locking := none }).wr (Pg.pll p) Pll.READY 1
      let s := (s.wr (Pg.pll p) Pll.LOCK_US (min (s.us - since) 0xFFFF)).irq (Pg.pll p) 16
      let s :=
        if p = 0 then
          let s := { s with ck := { s.ck with bucketStopped := false } }
          let s := s.each ((List.range 20).filter fun q => s.bucketDerived q) fun q s => s.pllLook q
          if s.tpState = 1 then (s.tpWr Tp.STATE 2).setTp { s.tp with align := 0, good := 0 } else s
        else s
      match s.ck.retargeted.find? fun r => r.1 = p with
      | none => s
      | some (q, old) =>
        let s := s.each (s.treesOn old) fun t s => s.treeRequest t (q - 14) (s.tree t).div
        { s with ck := { s.ck with retargeted := s.ck.retargeted.filter fun r => r.1 ≠ q } }

/-! ### Timers -/

/-- TIMER_ENABLE (R93): a write of a timer's first word. -/
def execTimerEnable (ag : Agent) (t : Fin 32) (w0 : Word) (s : State) : Host.Outcome State Fault Refusal :=
  .next (s.access ag Pg.milestones fun s => s.tmWrite0 ag t (w0.toNat ||| 1))

/-- TIMER_DISABLE (R93): a write of a timer's first word with T_EN = 0. -/
def execTimerDisable (ag : Agent) (t : Fin 32) (w0 : Word) (s : State) : Host.Outcome State Fault Refusal :=
  .next (s.access ag Pg.milestones fun s => s.tmWrite0 ag t (w0.toNat - w0.toNat % 2))

/-- TIMER_RESTART (R93): T_RESTART reloads the count. -/
def execTimerRestart (ag : Agent) (t : Fin 32) (s : State) : Host.Outcome State Fault Refusal :=
  .next (s.access ag Pg.milestones fun s => s.tmReload t)

/-- TIMER_EXPIRY (R94). -/
def execTimerExpiry (t : Fin 32) (s : State) : Host.Outcome State Fault Refusal := .next (s.tmExpire t)

end Sys2Proof.Machine
end

