-- ==== Sys2Proof/Machine/Stores.lean ====
section
/-! DEFINITION. Machine/Stores.lean: what every protected store does (R324 to R329): read outcomes and their counts,
write-back, hot words, row moves and repair records. -/

namespace Sys2Proof.Machine

def State.rg (s : State) (i : Nat) : Rg := mget {} s.rgs i
def State.setRg (s : State) (i : Nat) (v : Rg) : State := { s with rgs := mset {} s.rgs i v }

/-! ### The stores by number -/

/-- A number for each store that keeps a hot-word table; the three arrays of a slab share one (R327). -/
def storeKey : Store → Nat
  | .regionBuffer i => i
  | .blockMem i => i
  | .stateBank i => i
  | .ddr c => 100 + c
  | .engineData t => 200 + t
  | .engineInstr t => 400 + t
  | .golden k => 600 + k
  | .cfgSram i => 700 + i
  | .params e => 1000 + e

/-- The array of a slab, the memory of an engine; 0 elsewhere. -/
def storeArray : Store → Nat
  | .blockMem _ => 1
  | .stateBank _ => 2
  | .engineInstr _ => 1
  | _ => 0

/-- The Waybook entry whose parameter block records a store's repairs (R328, R459). -/
def storeEntry : Store → Nat
  | .regionBuffer i => En.slab i
  | .blockMem i => En.slab i
  | .stateBank i => En.slab i
  | .ddr c => En.ddr c
  | .engineData t => En.engine t
  | .engineInstr t => En.engine t
  | .golden k => En.shallot k
  | .cfgSram i => En.plane i
  | .params e => e

/-- Entries of a store's hot-word table (R327, R329). -/
def hotSize : Store → Nat
  | .params _ => 8
  | _ => 16

/-- Spare rows of a store (Tables 11.1 and 11.2; a golden row is one pattern, a configuration row one cluster's bits in
one context, R459). -/
def State.storeSpares (s : State) : Store → Nat
  | .regionBuffer _ => 756
  | .blockMem _ => 512
  | .stateBank _ => 3
  | .ddr c => 32 * min 2 (s.rd (Pg.ddr c) Ddr.DEV_CFG_RANKS)
  | .engineData _ => 16
  | .engineInstr _ => 16
  | .golden _ => 4096
  | .cfgSram _ => 1280
  | .params e => ceilDiv (paramLen e) (64 * 128)

/-- KIND of a store's repair records (R328, R315). -/
def storeKind : Store → Nat
  | .golden _ => 5
  | _ => 4

/-- Word 1 of a repair record: the row, the array and, for a slab, the spare index (R328, R237, R315, R351, R459). -/
def storePlace (st : Store) (row spare : Nat) : Nat :=
  match st with
  | .regionBuffer _ => row + spare * 2 ^ 19
  | .blockMem _ => row + 1 * 2 ^ 17 + spare * 2 ^ 19
  | .stateBank _ => row + 2 * 2 ^ 17 + spare * 2 ^ 19
  | .engineInstr _ => row + 2 ^ 11
  | .golden _ => row + 2 ^ 18
  | .params _ => row + 2 ^ 31
  | _ => row

/-- The array bits that tell one store's records of an entry from another's. Bit 31 tells the records of a parameter store
from the others of its entry: the manual encodes no location there (DESIGN CHOICE, log entry 160). -/
def sameArray (st : Store) (r : Repair) : Bool :=
  match st with
  | .params _ => bitOf r.place 31 = 1
  | .regionBuffer _ => bitsOf r.place 17 2 = 0
  | .blockMem _ => bitsOf r.place 17 2 = 1
  | .stateBank _ => bitsOf r.place 17 2 = 2
  | .engineData _ => bitOf r.place 11 = 0
  | .engineInstr _ => bitOf r.place 11 = 1
  | .golden _ => bitOf r.place 18 = 1
  | _ => true

/-- Spare rows of a store already in use. -/
def State.sparesUsed (s : State) (st : Store) : Nat :=
  (s.repairs.filter fun r => r.entry = storeEntry st && r.kind = storeKind st && !r.dead && sameArray st r &&
    (bitOf r.place 31 = 0 || st matches .params _)).length

/-! ### Repair records -/

/-- Write a repair record into the parameter block of entry e (R47): a Waybook update, since REPAIR_COUNT counts it (R48,
Table 02.5). A spare that comes in raises SPARE_IN. -/
def State.addRepair (s : State) (r : Repair) : State :=
  ({ s with repairs := s.repairs ++ [r] }.wbUpdate [] fun s => s.countRepair r.entry).doIf (!r.dead) fun s =>
    s.irq Pg.walker 23

/-- Entry e becomes DEGRADED when Table 02.6 lets it, and its STATE is not DEGRADED already. -/
def State.degrade (s : State) (e reason : Nat) : State :=
  if s.blk e = St.usable ∨ s.blk e = St.inUse then s.wbUpdate [⟨e, St.degraded, 0xFFFF, reason⟩] else s

/-- Count n corrections of an array; a summary is logged at most once per second (R358, R360). -/
def State.ceSummary (s : State) (pg arr code shift n : Nat) : State :=
  let k := pg * 4 + arr
  let (c, since) := mget (0, 0) s.ceSums k
  let c := c + n
  if since + 1000000 ≤ s.us then
    ({ s with ceSums := mset (0, 0) s.ceSums k (0, s.us) }).logHw pg code Sev.corrected
      ((if shift = 0 then 0 else arr) + min c 0xFFFF * 2 ^ shift)
  else { s with ceSums := mset (0, 0) s.ceSums k (c, since) }

/-! ### Row moves (R328) -/

/-- The move of a row ended: its code, severity and latched bit on the store's page. -/
def State.tellMove (s : State) (st : Store) (row spare : Nat) (dead : Bool) : State :=
  let sev := if dead then Sev.degraded else Sev.corrected
  let pg := pageOf (storeEntry st)
  match st with
  | .regionBuffer _ | .blockMem _ | .stateBank _ =>
    let d := row + storeArray st * 2 ^ 17
    if dead then (s.irq pg 19).logHw pg 0x24 sev d
    else ((s.wr pg Slab.ROW_SPARED 1).irq pg 18).logHw pg 0x23 sev (d + spare * 2 ^ 19)
  | .ddr _ =>
    if dead then (s.irq pg 20).logHw pg 0x24 sev row
    else ((s.wr pg Ddr.PAGE_RETIRED 1).irq pg 19).logHw pg 0x23 sev row
  | .engineData _ | .engineInstr _ =>
    let d := row + storeArray st * 2 ^ 11
    if dead then s.logHw pg 0x24 sev d
    else ((s.wr pg Te.ROW_SPARED 1).irq pg 20).logHw pg 0x23 sev (d + spare * 2 ^ 12)
  | .golden _ =>
    if dead then s.logHw pg 0x26 sev (row % 2 ^ 18) else (s.irq pg 21).logHw pg 0x25 sev (row % 2 ^ 18 + 2 ^ 18)
  | .cfgSram _ | .params _ => s

/-- The page's count of free spares follows the records. -/
def State.showSpares (s : State) (st : Store) : State :=
  let n := s.storeSpares st - s.sparesUsed st
  let pg := pageOf (storeEntry st)
  match st with
  | .regionBuffer _ => s.wr pg Slab.RB_SPARES n
  | .blockMem _ => s.wr pg Slab.BM_SPARES n
  | .stateBank _ => s.wr pg Slab.SB_SPARES n
  | .ddr _ => s.wr pg Ddr.SPARE_FREE n
  | .engineData _ => s.wr pg Te.DM_SPARES n
  | .engineInstr _ => s.wr pg Te.IM_SPARES n
  | _ => s

/-- No spare row is free: the row stays, its record carries DEAD and the entry becomes DEGRADED (R328). -/
def State.rowDead (s : State) (st : Store) (row : Nat) : State :=
  let e := storeEntry st
  let s := s.addRepair ⟨e, storeKind st, false, true, 0, storePlace st row 0⟩
  (s.tellMove st row 0 true).degrade e 0x24

/-- A stuck row: its copy to a spare starts, when one is free (R328). -/
def State.moveRow (s : State) (st : Store) (row : Nat) : State :=
  if s.moves.contains (st, row) then s
  else if s.sparesUsed st < s.storeSpares st then { s with moves := s.moves ++ [(st, row)] }
  else s.rowDead st row

/-! ### Hot words (R327) -/

def State.hotTable (s : State) (st : Store) : List Hot := mget [] s.hots (storeKey st)

/-- HOT_FILL of the store's page, where it has one. -/
def State.showHot (s : State) (st : Store) : State :=
  let n := (s.hotTable st).length
  match st with
  | .regionBuffer i | .blockMem i | .stateBank i => s.wr (Pg.slab i) Slab.HOT_FILL n
  | .ddr c => s.wr (Pg.ddr c) Ddr.HOT_FILL n
  | _ => s

def State.setHot (s : State) (st : Store) (t : List Hot) : State :=
  ({ s with hots := mset [] s.hots (storeKey st) t }).showHot st

/-- Count an evicted entry. -/
def State.hotEvict (s : State) (st : Store) : State :=
  match st with
  | .regionBuffer i | .blockMem i | .stateBank i => s.count (Pg.slab i) Slab.HOT_EVICT_CNT
  | .ddr c => s.count (Pg.ddr c) Ddr.HOT_EVICT_CNT
  | _ => s

/-- A corrected read of a unit with a syndrome (R327). The table is kept by first correction, oldest first. -/
def State.hotWord (s : State) (st : Store) (addr synd row : Nat) : State :=
  let addr := addr + storeArray st * 2 ^ 40
  let t := s.hotTable st
  match t.find? fun h => h.addr = addr && h.synd = synd with
  | some h =>
    if 3 ≤ h.count + 1 then (s.setHot st (t.erase h)).moveRow st row
    else s.setHot st (t.map fun g => if g = h then { g with count := g.count + 1 } else g)
  | none =>
    let new : Hot := ⟨addr, synd, 1, s.us⟩
    if t.length < hotSize st then s.setHot st (t ++ [new])
    else (s.hotEvict st).setHot st (t.drop 1 ++ [new])

/-! ### The mender (R330, R331) -/

/-- XOR of the bits at `place` of some words. -/
def xorAt (ws : List Nat) (place : Nat) : Nat := ws.foldl (fun n w => (n + bitOf w place) % 2) 0

/-- Rows of tile b whose parity fails, and columns: `errs` are the codeword bits struck, `diff` how the parity held differs
from that of the words as written. -/
def tileRows (errs : List Nat) (diff b : Nat) : List Nat :=
  errs.zipIdx.filterMap fun e => if (parity (bitsOf e.1 (8 * b) 8) 8 + bitOf diff e.2) % 2 = 1 then some e.2 else none
def tileCols (errs : List Nat) (diff b : Nat) : List Nat :=
  (List.range 8).filter fun c => (xorAt errs (8 * b + c) + bitOf diff (8 + c)) % 2 = 1

/-- The mender's pass over the ten tiles of a row of eight words (R331). -/
def mend (errs : List Nat) (diffs : List Nat) : List Nat :=
  (List.range 10).foldl (fun es b =>
    match tileRows es (diffs.getD b 0) b, tileCols es (diffs.getD b 0) b with
    | [r], [c] => es.modify r fun e => e ^^^ 2 ^ (8 * b + c)
    | _, _ => es) errs

/-! ### Parameter stores (R47, R329) -/

/-- A repair record as its two words stand in a parameter block (R47). -/
def Repair.word (r : Repair) (high : Bool) : Nat :=
  if high then r.place % 2 ^ 32 else r.kind + bit r.committed * 2 ^ 8 + bit r.dead * 2 ^ 9 + r.spare % 2 ^ 16 * 2 ^ 16

/-- The word at byte o of entry e's parameter block (R47): length and format version, offset and capacity of the repair
records, the parameters, and the entry's records, oldest first. -/
def State.paramWord (s : State) (e o : Nat) : Nat :=
  if o = 0 then paramLen e + Config.paramShape e / 64 % 2 ^ 16 * 2 ^ 16
  else if o = 4 then paramRecords e + paramRoom e * 2 ^ 16
  else if o < paramRecords e then Config.paramWord e ((o - 8) / 4) % 2 ^ 32
  else ((s.repairs.filter fun r => r.entry = e)[(o - paramRecords e) / 8]?).elim 0 fun r =>
    r.word (o % 8 = 4)

/-- Number of the first 64-bit word of entry e's block among those of the parameter area. -/
def paramBase (e : Nat) : Nat := paramPtr e / 8

/-- Codeword w of entry e's parameter store as it stands in the array. -/
def State.paramCode (s : State) (e w : Nat) : EWord :=
  { data := s.paramWord e (8 * w) + s.paramWord e (8 * w + 4) * 2 ^ 32, err := mget 0 s.paramErrs (paramBase e + w) }

/-- A read of codeword w of entry e's parameter store: its data, whether it is poison, and the state. The store is read-only:
nothing is written back, also of what the mender repairs. Its rows are the eight words of a tile row (DESIGN CHOICE, log
entry 160). -/
def State.paramRead (s : State) (e w : Nat) : (Nat × Bool) × State :=
  let x := s.paramCode e w
  match wordDecode x with
  | (.clean, d) => ((d, false), s)
  | (.corrected, d) =>
    ((d, false), s.doIf (e < 354) fun s => s.hotWord (.params (Fin.ofNat 354 e)) w x.err (w / 8))
  | (.poison, _) => ((0, true), s)
  | (.uncorrectable, _) =>
    let row := w / 8 * 8
    let errs := (List.range 8).map fun r => mget 0 s.paramErrs (paramBase e + row + r)
    let diffs := (List.range 10).map fun b => mget 0 s.paramPar (10 * ((paramBase e + row) / 8) + b)
    match wordDecode { x with err := (mend errs diffs).getD (w % 8) 0 } with
    | (.clean, d) | (.corrected, d) => ((d, false), s)
    | _ => ((0, true), s)

/-! ### Reads of the arrays of a slab -/

def rbKey (region word : Nat) : Nat := region * 2 ^ 23 + word
def bmKey (region blk byte : Nat) : Nat := (region * 1024 + blk) * 4096 + byte
/-- Lane of a data-memory row, and word of an instruction memory, of engine t. -/
def dmKey (t row lane : Nat) : Nat := (t * 2048 + row) * 32 + lane
def imKey (t word : Nat) : Nat := t * 2048 + word
def sbKey (region bank x r b : Nat) : Nat := ((((region * 9 + bank) * 64 + x) * 320) + r) * 2 + b

/-- An uncorrectable unit of a slab array: count, place, interrupt and log (Table 11.12). -/
def State.slabUe (s : State) (i : Nat) (block : Bool) (unit sub : Nat) : State :=
  let pg := Pg.slab i
  if block then
    let s := (s.count pg Slab.BM_UE_CNT).wr pg Slab.LAST_UE_ADDR (unit * 2 ^ 12 + sub)
    ((s.wr pg Slab.LAST_UE_ARR 1).irq pg 17).logHw pg 0x21 Sev.uncorrected (unit + sub * 2 ^ 10)
  else
    let s := (s.count pg Slab.RB_UE_CNT).wr pg Slab.LAST_UE_ADDR unit
    let s := (s.wr pg Slab.LAST_UE_ARR 0).wr pg Slab.LAST_UE_WORD sub
    (s.irq pg 16).logHw pg 0x20 Sev.uncorrected (unit + sub * 2 ^ 20)

/-- Read word w of slab i's region buffer: data, poison, and the state after counting and write-back (R324, R326). -/
def State.rbRead (s : State) (i w : Nat) : Nat × Bool × State :=
  let k := rbKey i w
  let e := mget {} s.rb k
  let back (s : State) := { s with rb := mset {} s.rb k (wordBack e) }.invalidate i (w / 8)
  match wordDecode e with
  | (.clean, d) => (d, false, s)
  | (.poison, _) => (0, true, s)
  | (.corrected, d) =>
    let s := ((back s).count (Pg.slab i) Slab.RB_CE_CNT).ceSummary (Pg.slab i) 0 0x22 16 1
    (d, false, s.doIf (i < 40) fun s => s.hotWord (.regionBuffer (Fin.ofNat 40 i)) w e.err (w / 64))
  | (.uncorrectable, _) => (0, true, (back s).slabUe i false (w / 8) (w % 8))

def State.rbWrite (s : State) (i w d : Nat) (poison : Bool) : State :=
  { s with rb := mset {} s.rb (rbKey i w) (if poison then poisonWord else cleanWord d) }.invalidate i (w / 8)

/-! ### DDR4 words (R342, R351) -/

/-- Key of word w (eight to a line) of channel c. -/
def ddrKey (c w : Nat) : Nat := c * 2 ^ 34 + w

/-- Ranks fitted; code 3 is reserved and counts as none. -/
def State.ddrRanks (s : State) (c : Nat) : Nat :=
  let r := s.rd (Pg.ddr c) Ddr.DEV_CFG_RANKS
  if r = 3 then 0 else r

/-- First bit of the row field of a line address (Table 11.8). -/
def State.ddrRowBit (s : State) (c : Nat) : Nat := 10 + s.ddrRanks c
/-- Rows of a bank: 15, 16 or 17 bits; the reserved size code counts as the largest. -/
def State.ddrRows (s : State) (c : Nat) : Nat := 2 ^ (15 + min 2 (s.rd (Pg.ddr c) Ddr.DEV_CFG_SIZE))
/-- The first line above the usable space, and the number of lines with the spare rows. -/
def State.ddrUsable (s : State) (c : Nat) : Nat := if s.ddrRanks c = 0 then 0 else (s.ddrRows c - 2) * 2 ^ s.ddrRowBit c
def State.ddrLines (s : State) (c : Nat) : Nat := if s.ddrRanks c = 0 then 0 else s.ddrRows c * 2 ^ s.ddrRowBit c

/-- The page of a line as word 1 of its repair record (R351): rank, bank group, bank, row. -/
def State.ddrPage (s : State) (c line : Nat) : Nat :=
  (if s.ddrRanks c = 2 then bitOf line 11 else 0) + bitsOf line 0 2 * 2 + bitsOf line 9 2 * 8
    + line / 2 ^ s.ddrRowBit c * 32

/-- Lines of a page. -/
def State.ddrPageLines (s : State) (c page : Nat) : List Nat :=
  (List.range 128).map fun col => bitsOf page 1 2 + col * 4 + bitsOf page 3 2 * 2 ^ 9
    + (if s.ddrRanks c = 2 then bitOf page 0 * 2 ^ 11 else 0) + page / 32 * 2 ^ s.ddrRowBit c

/-- Read word w of channel c (R324, R326, R351). -/
def State.ddrRead (s : State) (c w : Nat) : Nat × Bool × State :=
  let k := ddrKey c w
  let e := mget {} s.ddr k
  let pg := Pg.ddr c
  let st : Store := .ddr (Fin.ofNat 8 c)
  let back (s : State) := { s with ddr := mset {} s.ddr k (wordBack e) }.invalidate (100 + c) (w / 8)
  match wordDecode e with
  | (.clean, d) => (d, false, s)
  | (.poison, _) => (0, true, s)
  | (.corrected, d) =>
    (d, false, (((back s).count pg Ddr.CE_CNT).ceSummary pg 0 0x21 0 1).hotWord st w e.err (s.ddrPage c (w / 8)))
  | (.uncorrectable, _) =>
    let s := (back s).count pg Ddr.UE_CNT
    let s := ((s.wr pg Ddr.LAST_UE_LINE (w / 8)).wr pg Ddr.LAST_UE_BEAT (w % 8)).irq pg 17
    let s := s.logHw pg 0x20 Sev.uncorrected (w / 8 + w % 8 * 2 ^ 29)
    (0, true, s.moveRow st (s.ddrPage c (w / 8)))

def State.ddrWrite (s : State) (c w d : Nat) (poison : Bool) : State :=
  { s with ddr := mset {} s.ddr (ddrKey c w) (if poison then poisonWord else cleanWord d) }.invalidate (100 + c) (w / 8)

/-- Read byte b of block blk of slab i (R324, R326). -/
def State.bmRead (s : State) (i blk b : Nat) : Nat × Bool × State :=
  let k := bmKey i blk b
  let raw := mget 0 s.bm k
  let back (s : State) (v : Nat) := { s with bm := mset 0 s.bm k v }
  match byteDecode raw with
  | (.clean, d, _) => (d, false, s)
  | (.poison, _, _) => (0, true, s)
  | (.corrected, d, n) =>
    let s := ((back s (byteEncode d)).count (Pg.slab i) Slab.BM_CE_CNT).ceSummary (Pg.slab i) 1 0x22 16 1
    (d, false, s.doIf (i < 40) fun s => s.hotWord (.blockMem (Fin.ofNat 40 i)) (blk * 4096 + b) n (blk * 64 + b / 64))
  | (.uncorrectable, _, _) => (0, true, (back s bytePoison).slabUe i true blk b)

def State.bmWrite (s : State) (i blk b d : Nat) : State :=
  { s with bm := mset 0 s.bm (bmKey i blk b) (byteEncode (d % 256)) }

/-- Read byte b of bank `bank` at (x, r): value and poison; counted and logged on the region page (R170, Table 06.7). -/
def State.sbRead (s : State) (i bank x r b : Nat) : Nat × Bool × State :=
  let k := sbKey i bank x r b
  let raw := mget 0 s.sbank k
  let back (s : State) (v : Nat) := { s with sbank := mset 0 s.sbank k v }
  let pg := Pg.region i
  let place := x + r * 2 ^ 6 + bank * 2 ^ 15 + b * 2 ^ 19
  match byteDecode raw with
  | (.clean, d, _) => (d, false, s)
  | (.poison, _, _) => (0, true, s)
  | (.corrected, d, n) =>
    let s := ((back s (byteEncode d)).count pg Rgn.SB_CE_CNT).logHw pg 0x34 Sev.corrected place
    (d, false, s.doIf (i < 40) fun s => s.hotWord (.stateBank (Fin.ofNat 40 i)) k n r)
  | (.uncorrectable, _, _) =>
    let s := ((back s bytePoison).count pg Rgn.SB_UE_CNT).wr pg Rgn.SB_X x
    let s := ((s.wr pg Rgn.SB_R r).wr pg Rgn.SB_BANK bank).wr pg Rgn.SB_BYTE b
    (0, true, (s.irq pg 29).logHw pg 0x33 Sev.uncorrected place)

/-- Write both bytes of a bank word. -/
def State.sbWrite (s : State) (i bank x r q : Nat) : State :=
  let m := mset 0 s.sbank (sbKey i bank x r 0) (byteEncode (q % 256))
  { s with sbank := mset 0 m (sbKey i bank x r 1) (byteEncode (bitsOf q 8 8)) }

/-! ### Commands -/

/-- The codewords of a moved row as the copy leaves them (R328): corrected ones rewritten, uncorrectable ones poison; a
parameter store's row is written anew from its source (R329). -/
def State.copyRow (s : State) (st : Store) (row : Nat) : State :=
  let words (m : List (Nat × EWord)) (lo n : Nat) :=
    (mrange m lo n).foldl (fun m e => mset {} m e.1 (wordBack e.2)) m
  let byte (raw : Nat) : Nat := match byteDecode raw with
    | (.corrected, d, _) => byteEncode d
    | (.uncorrectable, _, _) => bytePoison
    | _ => raw
  match st with
  | .regionBuffer i =>
    { s with rb := words s.rb (rbKey i (row * 64)) 64 }.each ((List.range 8).map (8 * row + ·)) fun l s => s.invalidate i l
  | .ddr c =>
    s.each (s.ddrPageLines c row) fun l s =>
      { s with ddr := words s.ddr (ddrKey c (8 * l)) 8 }.invalidate (100 + c) l
  | .blockMem i =>
    let lo := bmKey i (row / 64) (row % 64 * 64)
    { s with bm := (mrange s.bm lo 64).foldl (fun m e => mset 0 m e.1 (byte e.2)) s.bm }
  | .engineInstr t => { s with im := words s.im (imKey t row) 1 }
  | .engineData t =>
    let lane (raw : Nat) : Nat := match laneDecode raw with
      | (.corrected, d, _) => laneEncode d
      | (.uncorrectable, _, _) => lanePoison
      | _ => raw
    { s with dm := (mrange s.dm (dmKey t row 0) 32).foldl (fun m e => mset 0 m e.1 (lane e.2)) s.dm }
  | .params e => { s with paramErrs := mclear s.paramErrs (paramBase e + 8 * row) 8 }
  | _ => s

/-- The copy of a row is over, the row map switches and the move is recorded (R328). -/
def State.rowSpared (s : State) (store : Store) (unit : Nat) : State :=
  if !s.moves.contains (store, unit) then s
  else
    let s := { s with moves := s.moves.erase (store, unit) }
    if s.sparesUsed store < s.storeSpares store then
      let spare := s.sparesUsed store
      let s := (s.copyRow store unit).addRepair
        ⟨storeEntry store, storeKind store, false, false, spare, storePlace store unit spare⟩
      (s.showSpares store).tellMove store unit spare false
    else s.rowDead store unit

/-- The move of this row is the first that waits on its Waybook entry: repairs of one entry run one at a time (R456). -/
def State.moveTurn (s : State) (store : Store) (unit : Nat) : Bool :=
  s.moves.find? (fun m => storeEntry m.1 = storeEntry store) = some (store, unit)

/-- ROW_SPARE_DONE (R328). -/
def execRowSpareDone (store : Store) (unit : Nat) (s : State) : Host.Outcome State Fault Refusal :=
  .next (if s.moveTurn store unit then s.rowSpared store unit else s)

/-- HOT_WORD_EXPIRY (R327): one scrub interval after its first correction, the entry at place `unit` of the table expires.
The command is the passing of that interval (log entry 5). -/
def execHotWordExpiry (store : Store) (unit : Nat) (s : State) : Host.Outcome State Fault Refusal :=
  .next (
    match (s.hotTable store)[unit]? with
    | none => s
    | some h => s.setHot store ((s.hotTable store).erase h))

end Sys2Proof.Machine
end

