-- ==== Sys2Proof/Machine/Contexts.lean ====
section
/-! DEFINITION. Machine/Contexts.lean: the regions: latch pairs, staging, the switch, capture, causeway conflicts, column
remap, block memories and attachments (chapters 05 and 06). -/

namespace Sys2Proof.Machine

/-! ### Keys and ranges -/

/-- Slot of minor m (0 to 15) of context c at (x, r) in layer C. -/
def cfgKey (i c x m r : Nat) : Nat := (((i * 8 + c) * 64 + x) * 16 + m) * 320 + r
/-- Slot of minor m at (x, r) in latch set k. -/
def latchKey (k i x m r : Nat) : Nat := (((k * 40 + i) * 64 + x) * 16 + m) * 320 + r
/-- Slots of one context or one latch set of a region. -/
def slotCount : Nat := 64 * 16 * 320
/-- Cluster (x, r) of region i. -/
def ffKey (i x r : Nat) : Nat := (i * 64 + x) * 320 + r
def clusterCount : Nat := 64 * 320

def State.rgRd (s : State) (i : Nat) (r : Row) (k : Nat := 0) : Nat := s.rd (Pg.region i) r k
def State.rgWr (s : State) (i : Nat) (r : Row) (v : Nat) (k : Nat := 0) : State := s.wr (Pg.region i) r v k

def State.liveCtx (s : State) (i : Nat) : Nat := s.rgRd i Rgn.LIVE_CTX

/-- Context c is live: the active latches of region i hold it. -/
def State.isLive (s : State) (i c : Nat) : Bool := (s.rg i).live && s.liveCtx i = c
def State.ctxState (s : State) (i c : Nat) : Nat := s.rgRd i Rgn.CSTATE c
def State.ctxValid (s : State) (i c : Nat) : Bool := s.ctxState i c = 2
def State.stgValid (s : State) (i : Nat) : Bool := s.rgRd i Rgn.STG_VALID = 1

/-- The cleared pattern (R218): every wire start has code 15; every other bit is 0 (log entry 101). -/
def clearedSlot (m : Nat) : Nat := if m = 14 then 2 ^ 64 - 1 else 0

/-- A slot of the active latches; before a context is live they hold the cleared pattern. -/
def State.activeSlot (s : State) (i x m r : Nat) : Nat :=
  if (s.rg i).live then mget 0 s.latch (latchKey (s.rg i).active i x m r) else clearedSlot m

/-- A slot of the staged latches. -/
def State.stagedSlot (s : State) (i x m r : Nat) : Nat := mget 0 s.latch (latchKey (1 - (s.rg i).active) i x m r)

/-- The region and its CORE branch run. -/
def State.regionRuns (s : State) (i : Nat) : Bool :=
  s.isOn (En.region i) && s.coreOpen (En.region i)

/-- Put a run of entries in place of the entries of [lo, lo + n). -/
def mreplace {α : Type} (m : List (Nat × α)) (lo n : Nat) (es : List (Nat × α)) : List (Nat × α) :=
  es.foldl (fun m e => mput m e.1 e.2) (mclear m lo n)

/-! ### INIT bits (Table 05.2) -/

/-- INIT bits that a slot of minor m < 8 gives cells 2m and 2m + 1. -/
def slotInit (m v : Nat) : Nat := bitOf v 20 * 2 ^ (2 * m) + bitOf v 52 * 2 ^ (2 * m + 1)

/-- INIT of every cluster of region i from slots listed by offset (x · 16 + minor) · 320 + r. -/
def initOf (i : Nat) (slots : List (Nat × Nat)) : List (Nat × Nat) :=
  slots.foldl (fun m e =>
    let minor := e.1 / 320 % 16
    if minor < 8 then
      let k := ffKey i (e.1 / 5120) (e.1 % 320)
      mset 0 m k (mget 0 m k ||| slotInit minor e.2)
    else m) []

/-- Slots of latch set k of region i, by offset. -/
def State.latchSlots (s : State) (k i : Nat) : List (Nat × Nat) :=
  (mrange s.latch (latchKey k i 0 0 0) slotCount).map fun e => (e.1 - latchKey k i 0 0 0, e.2)

/-- Slots of context c in layer C as a read delivers them, by offset. -/
def State.cfgSlots (s : State) (i c : Nat) : List (Nat × Nat) :=
  (mrange s.cfg (cfgKey i c 0 0 0) slotCount).filterMap fun e =>
    let d := (wordDecode e.2).2
    if d = 0 then none else some (e.1 - cfgKey i c 0 0 0, d)

/-- Every flip-flop of the region takes the INIT of its live context (R144). -/
def State.resetFfs (s : State) (i : Nat) : State :=
  { s with ff := mreplace s.ff (ffKey i 0 0) clusterCount (initOf i (s.latchSlots (s.rg i).active i)) }

/-- SRST of region i (R144): its flip-flops take INIT at its next clock edge, now while the clock runs. -/
def State.regionSrst (s : State) (i : Nat) : State :=
  if s.regionRuns i then s.resetFfs i else s.setRg i { s.rg i with srst := true }

/-! ### Attachments (R150 to R152) -/

/-- Rows of a port type (Table 05.5). -/
def portRows (t : Nat) : Nat := [0, 9, 9, 1, 1, 2, 2, 14, 9, 2, 1, 2].getD t 0

/-- The unit a port type names can be reached from region i (R151). -/
def portReachable (i type inst : Nat) : Bool :=
  match type with
  | 3 | 4 =>
    let n := inst % 128
    n < 96 && (decide (n / 12 < 4) == decide (i < 20)) && (5 * (n % 12)) / 12 = i % 5
  | 5 | 6 => inst < 12 && (shallotRegions inst).contains (i % 20)
  | _ => type < 12

/-- The home region of general I/O bank b (R506). -/
def homeRegion (b : Nat) : Nat := 15 + b % 4 + 20 * (b / 4)

/-- The reason to refuse entry k of context c of region i with these fields (R151, R506); the lowest when several hold. -/
def State.attWhy (s : State) (i c k type inst base : Nat) : Option Nat :=
  let n := portRows type
  let clash := (List.range 16).any fun j =>
    let b := s.rgRd i Rgn.BASE_ROW (16 * c + j)
    let m := portRows (s.rgRd i Rgn.TYPE (16 * c + j))
    j ≠ k && decide (base < b + m) && decide (b < base + n) && 0 < n && 0 < m
  let io : Bool := decide (base ≤ 319) && decide (319 < base + n) &&
    (List.range 8).any fun b => s.flag (Pg.gio b) Gio.FAB_EN && homeRegion b = i
  if !portReachable i type inst then some 1
  else if clash || io then some 2
  else if 320 < base + n then some 3
  else none

/-- An attachment is refused: ATT_REFUSED, its place and reason (Table 05.6). -/
def State.attRefused (s : State) (i c k why : Nat) (ag : Nat) : State :=
  let s := (s.rgWr i Rgn.ATT_REFUSED 1).rgWr i Rgn.ATT_ENTRY k
  let s := ((s.rgWr i Rgn.ATT_CTX c).rgWr i Rgn.ATT_WHY why).irq (Pg.region i) 20
  s.log (Pg.region i) 0x23 Sev.info ag (k + c * 2 ^ 4 + why * 2 ^ 7)

/-- Context c of region i attaches a port of a type. -/
def State.hasPort (s : State) (i c type : Nat) : Bool :=
  (List.range 16).any fun k => s.rgRd i Rgn.TYPE (16 * c + k) = type

/-- The live context of region i attaches a port of a type. -/
def State.livePort (s : State) (i type : Nat) : Bool := (s.rg i).live && s.hasPort i (s.liveCtx i) type

/-- Registry index of the FIFO that attachment n of region i names, when its logical engine is hosted (R152). -/
def State.attFifo (s : State) (i n : Nat) : Option Nat :=
  let t := s.rgRd i Rgn.TYPE n
  let inst := s.rgRd i Rgn.INST n
  if t = 3 ∨ t = 4 then
    (s.hostEngine (inst % 128)).map fun e => Reg.fifo (4 * e + inst / 128 + (if t = 4 then 2 else 0))
  else none

/-- FIFOs that context c of region i names. -/
def State.ctxFifos (s : State) (i c : Nat) : List Nat := (List.range 16).filterMap fun k => s.attFifo i (16 * c + k)

/-- Feature code of region i's claims (R152). -/
def regionFeature (i : Nat) : Nat := 0x80 + i

/-- A staging of context c claims its FIFOs; a refused claim is marked and reported (R152). -/
def State.claimFifos (s : State) (i c : Nat) : State :=
  s.each (List.range 16) fun k s =>
    let n := 16 * c + k
    match s.attFifo i n with
    | none => s.rgWr i Rgn.REFUSED 0 n
    | some idx =>
      if s.mayClaim idx Ag.fabric (regionFeature i) then
        (s.setClaim idx Ag.fabric (regionFeature i) true).rgWr i Rgn.REFUSED 0 n
      else ((s.rgWr i Rgn.REFUSED 1 n).attRefused i c k 0 Ag.fabric).refuseClaim (Pg.region i) idx Ag.fabric

/-- The region releases the claims that neither its live nor its staged context names (R152). -/
def State.releaseFifos (s : State) (i staged : Nat) : State :=
  let keep := s.ctxFifos i (s.liveCtx i) ++ s.ctxFifos i staged
  s.each ((List.range 416).map Reg.fifo) fun idx s =>
    if s.claimed idx && s.claimAgent idx = Ag.fabric && s.claimFeature idx = regionFeature i && !keep.contains idx
    then s.unclaim idx else s

/-- A write of entry k of context c (R151, R162). -/
def State.attWrite (s : State) (ag i c k v : Nat) : State :=
  let n := 16 * c + k
  let t := bitsOf v 0 4; let inst := bitsOf v 4 8; let base := bitsOf v 12 9
  if t = s.rgRd i Rgn.TYPE n ∧ inst = s.rgRd i Rgn.INST n ∧ base = s.rgRd i Rgn.BASE_ROW n then s
  else if s.isLive i c ∨ (s.rg i).staging.elim false (fun g => g.ctx = c) then s.ignored (Pg.region i)
  else match s.attWhy i c k t inst base with
    | some why => s.attRefused i c k why ag
    | none => (((s.rgWr i Rgn.TYPE t n).rgWr i Rgn.INST inst n).rgWr i Rgn.BASE_ROW base n).releaseFifos i (s.rgRd i Rgn.STG_CTX)

/-! ### Context states (R164 to R168) -/

/-- The live context lost its good copy (R168). -/
def State.liveUnscrubbed (s : State) (i : Nat) : State :=
  if s.rgRd i Rgn.LIVE_UNSCRUBBED = 1 then s
  else ((s.rgWr i Rgn.LIVE_UNSCRUBBED 1).irq (Pg.region i) 30).logHw (Pg.region i) 0x35 Sev.degraded (s.liveCtx i)

/-- Context c is made INVALID with a cause: its interrupt and its log entry, and what it means for a live one (R165, R168). -/
def State.ctxSpoil (s : State) (i c cause : Nat) : State :=
  let s := ((s.rgWr i Rgn.CSTATE 3 c).rgWr i Rgn.INV_CAUSE cause c).irq (Pg.region i) 28
  let s := s.logHw (Pg.region i) 0x32 Sev.degraded (c + cause * 2 ^ 3)
  if s.isLive i c || (!s.isOn (En.region i) && s.liveCtx i = c) then s.liveUnscrubbed i else s

/-- Context c becomes INVALID (R165, Table 06.1): only a LOADING or a VALID one does. -/
def State.ctxInvalid (s : State) (i c cause : Nat) : State :=
  if s.ctxState i c = 1 ∨ s.ctxState i c = 2 then s.ctxSpoil i c cause else s

/-- The configuration plane went to OFF (R167): every context becomes INVALID with cause 4, whatever it was; one that was
INVALID before is told of no second time. -/
def State.ctxLost (s : State) (i c : Nat) : State :=
  if s.ctxState i c = 3 then s.rgWr i Rgn.INV_CAUSE 4 c else s.ctxSpoil i c 4

/-- The bank of context c takes the INIT bits of its cell records (R166). -/
def State.fillInit (s : State) (i c : Nat) : State :=
  let s := { s with sbank := mclear s.sbank (sbKey i c 0 0 0) (clusterCount * 2) }
  s.each (initOf i (s.cfgSlots i c)) fun e s =>
    let k := e.1 - ffKey i 0 0
    s.sbWrite i c (k / 320) (k % 320) e.2

/-- The loader closes context c (R166): VALID, GEN and VALID_TURN. -/
def State.ctxClose (s : State) (i c : Nat) (bankWritten : Bool) : State :=
  let s := s.doIf (!bankWritten) fun s => s.fillInit i c
  let s := (s.rgWr i Rgn.CSTATE 2 c).rgWr i Rgn.GEN (s.rgRd i Rgn.GEN c + 1) c
  (s.rgWr i Rgn.VALID_TURN s.turn c).rgWr i Rgn.INV_CAUSE 0 c

/-! ### Staging (R169 to R172) -/

/-- The prefetch of context c's bank into the restore latches (R170). -/
def State.prefetch (s : State) (i c : Nat) : State :=
  let lo := sbKey i c 0 0 0
  let s := { s with restore := mclear s.restore (ffKey i 0 0) clusterCount }
  s.each ((mrange s.sbank lo (clusterCount * 2)).map (·.1 - lo)) fun k s =>
    let x := k / 640; let r := k / 2 % 320; let b := k % 2
    let (d, p, s) := s.sbRead i c x r b
    let key := ffKey i x r
    { s with restore := mset 0 s.restore key (mget 0 s.restore key + d * 2 ^ (8 * b) + bit p * 2 ^ (16 + b)) }

/-- The first reason to refuse a stage request (R171), the lowest code when several hold (log entry 23); `taken` = an earlier source was taken on this edge. -/
def State.stageWhy (s : State) (i c : Nat) (taken : Bool) : Option Nat :=
  if taken then some 6
  else if !s.ctxValid i c then some 1
  else if (s.rg i).staging.isSome then some 2
  else if s.profile (En.region i) = Prof.thasol then some 3
  else if !(s.regionRuns i && s.isOn (En.plane i)) || !s.usable (En.region i) then some 4
  else if !s.tp.started then some 5
  else none

/-- A staging applies (R169): the staged set takes the context, its bank is prefetched, its FIFOs are claimed. -/
def State.stageBegin (s : State) (i c src : Nat) : State :=
  let g := s.rg i
  let k := 1 - g.active
  let restore : Bool := s.rgRd i Rgn.RESTORE c = 1
  let es := (s.cfgSlots i c).map fun e => (e.1 + latchKey k i 0 0 0, e.2)
  let s := { s with latch := mreplace s.latch (latchKey k i 0 0 0) slotCount es }
  let s := s.setRg i { g with staging := some { ctx := c, src := src }, stagedRestore := restore }
  let s := ((s.rgWr i Rgn.STG_CTX c).rgWr i Rgn.STG_VALID 0).rgWr i Rgn.STAGING 1
  let s := s.doIf restore fun s => s.prefetch i c
  (s.claimFifos i c).releaseFifos i c

/-- A refused stage request (R180). -/
def State.stageRefused (s : State) (i : Nat) (q : Req) (why : Nat) : State :=
  let s := (s.count (Pg.region i) Rgn.STG_REF_CNT).irq (Pg.region i) 27
  let s := ((s.rgWr i Rgn.STG_WHY why).rgWr i Rgn.STG_SRC q.src).rgWr i Rgn.STG_RCTX q.ctx
  s.log (Pg.region i) 0x31 Sev.info q.agent (q.ctx + q.src * 2 ^ 3 + why * 2 ^ 5)

/-- The present edge, as edge `edge` of the present bucket. -/
def State.markEdge (s : State) (edge : Nat) : EdgeMark := ⟨s.time64, edge, s.cycles⟩

/-- Whether something was taken on edge `edge` of the present bucket, or since the last management-clock cycle. -/
def State.onEdge (s : State) (edge : Nat) (m : Option EdgeMark) : Bool :=
  m.any fun m => m.edge = edge && (m.cycle = s.cycles || (s.timed && m.t64 = s.time64))

/-- A staging that is taken: it applies on this edge, or on the next one when a switch has applied on this one (R179). -/
def State.stageTake (s : State) (i : Nat) (q : Req) : State :=
  let g := s.rg i
  let s := s.setRg i { g with stgEdge := some (s.markEdge 0) }
  if g.swEdge.any fun m => m.t64 = s.time64 && m.cycle = s.cycles then s.setRg i { s.rg i with stgNext := some q }
  else s.stageBegin i q.ctx q.src

/-- A stage request on its edge: true when it is accepted (R171, R179). -/
def State.stageTry (s : State) (i : Nat) (q : Req) : Bool × State :=
  match s.stageWhy i q.ctx (s.onEdge 0 (s.rg i).stgEdge) with
  | some why => (false, s.stageRefused i q why)
  | none => (true, s.stageTake i q)

/-- Edge s + 8 of a staging (R169): the staged set holds its context. -/
def State.stageHeld (s : State) (i : Nat) : State :=
  match (s.rg i).staging with
  | none => s
  | some g => (s.rgWr i Rgn.STG_VALID (bit (s.ctxValid i g.ctx))).irq (Pg.region i) 25

/-- Edge s + 9 (R169): STAGING falls, and the bonds are free. -/
def State.stageOver (s : State) (i : Nat) : State :=
  (s.setRg i { s.rg i with staging := none, stgEdge := none }).rgWr i Rgn.STAGING 0

/-- The running staging ends: what is left of its edges passes (R169). -/
def State.stageEnd (s : State) (i : Nat) : State :=
  match (s.rg i).staging with
  | none => s
  | some g => (s.doIf (g.edges < 8) fun s => s.stageHeld i).stageOver i

/-- A region-clock edge of the running staging (R169). -/
def State.stagingEdge (s : State) (i : Nat) : State :=
  match (s.rg i).staging with
  | none => s
  | some g =>
    let s := s.setRg i { s.rg i with staging := some { g with edges := g.edges + 1 } }
    if g.edges = 7 then s.stageHeld i else if g.edges = 8 then s.stageOver i else s

/-! ### Causeway conflicts (R141) -/

/-- The other region of a pair. -/
def partner (i : Nat) : Nat := if i < 20 then i + 20 else i - 20

/-- Both ends of causeway idx at (x, r) drive (R141). -/
def State.bothDrive (s : State) (pair x r idx : Nat) : Bool :=
  bitOf (s.activeSlot pair x 15 r) idx = 1 && bitOf (s.activeSlot (pair + 20) x 15 r) idx = 1

/-- CW_PERSIST of both pages follows the conflicts held. -/
def State.showPersist (s : State) (pair : Nat) : State :=
  let p := bit ((s.rg pair).conflicts.any (·.persists))
  (s.rgWr pair Rgn.CW_PERSIST p).rgWr (pair + 20) Rgn.CW_PERSIST p

/-- One log entry per conflict, on the page of the pair's LA region (R141). -/
def State.logConflict (s : State) (pair : Nat) (c : Conflict) : State :=
  s.logHw (Pg.region pair) 0x20 Sev.corrected (c.x + c.r * 2 ^ 6 + c.idx * 2 ^ 15 + bit c.persists * 2 ^ 21)

/-- The next region-clock edge has come: SRST that waited is acted on (R144), the causeway drivers of the live context are
enabled (R142), those whose check passed after a restage come back (R141), and a staging that waited behind a switch applies
(R179). -/
def State.settle (s : State) (i : Nat) : State :=
  let q := (s.rg i).stgNext
  let s := s.doIf (s.rg i).srst fun s => s.resetFfs i
  let s := s.setRg i { s.rg i with settling := false, stgNext := none, srst := false }
  let s := s.setRg (i % 20) { s.rg (i % 20) with conflicts := (s.rg (i % 20)).conflicts.filter fun c => !c.passed }
  q.elim s fun q => s.stageBegin i q.ctx q.src

/-- A switch of region i: a conflict that persists stays while the condition does; a restage cut short is reported, and the
checker looks at the incoming latches anew (R141, R142, R186). -/
def State.cutRestage (s : State) (i out inc : Nat) : State :=
  let pair := i % 20
  let cut := (s.rg pair).conflicts.filter fun c => !c.persists && !c.passed
  let s := s.each cut fun c s => s.logConflict pair c
  let kept := (s.rg pair).conflicts.filter fun c => c.persists && s.bothDrive pair c.x c.r c.idx
  let s := (s.setRg pair { s.rg pair with conflicts := kept }).showPersist pair
  if cut.isEmpty then s
  else ((s.rgWr i Rgn.STG_VALID 0).rgWr i Rgn.RESTAGE_CUT 1).logHw (Pg.region i) 0x36 Sev.info (out + inc * 2 ^ 3)

/-! ### Column remap (R154, R155) -/

/-- The pending column joins the map of region i's pair: MAP0 < MAP1, REMAP_DONE, the log and the KIND 1 record. -/
def State.applyMap (s : State) (i : Nat) : State :=
  let pair := i % 20
  if s.rgRd pair Rgn.REMAP_PEND = 0 then s
  else
    let col := s.rgRd pair Rgn.PEND_COL
    let m0 := s.rgRd pair Rgn.MAP0
    let layer := (s.rg pair).pendLayer
    let lo := min col m0; let hi := if m0 = 0x7F then 0x7F else max col m0
    let both (s : State) (r : Row) (v : Nat) := (s.rgWr pair r v).rgWr (pair + 20) r v
    let s := both (both (both (both s Rgn.MAP0 lo) Rgn.MAP1 hi) Rgn.REMAP_PEND 0) Rgn.PEND_COL 0x7F
    let s := { s with wk := { s.wk with running := s.wk.running.filter fun q => q.pair ≠ pair } }
    let s := (s.irq (Pg.region pair) 21).irq (Pg.region (pair + 20)) 21
    let s := s.logHw (Pg.region pair) 0x22 Sev.corrected (col + layer * 2 ^ 7 + 2 ^ 8)
    s.addRepair ⟨En.region pair, 1, false, false, 64 + bit (hi ≠ 0x7F), col + layer * 2 ^ 7⟩

/-! ### The switch (R173 to R177) -/

/-- The first reason to refuse a switch (R173); the lowest code when several hold (log entry 23). -/
def State.switchWhy (s : State) (i c : Nat) (taken : Bool) : Option Nat :=
  if taken then some 7
  else if !(s.stgValid i && s.rgRd i Rgn.STG_CTX = c) then some 1
  else if (s.rg i).staging.any fun g => g.edges < 8 then some 2
  else if !s.ctxValid i c then some 3
  else if s.profile (En.region i) = Prof.thasol then some 4
  else if !s.regionRuns i || !s.usable (En.region i) then some 5
  else if !s.tp.started then some 6
  else none

/-- Flip-flops of region i as listed. -/
def State.ffsOf (s : State) (i : Nat) : List (Nat × Nat) := mrange s.ff (ffKey i 0 0) clusterCount

/-- Save flip-flops into a bank (R174, R157). -/
def State.saveBank (s : State) (i bank : Nat) (ffs : List (Nat × Nat)) : State :=
  let s := { s with sbank := mclear s.sbank (sbKey i bank 0 0 0) (clusterCount * 2) }
  s.each ffs fun e s => s.sbWrite i bank ((e.1 - ffKey i 0 0) / 320) ((e.1 - ffKey i 0 0) % 320) e.2

/-- Flip-flops after a restore from the restore latches, with INIT where a byte is poisoned (R177). -/
def restored (rest inits : List (Nat × Nat)) : List (Nat × Nat) :=
  rest.filterMap fun e =>
    let init := mget 0 inits e.1
    let lo := if bitOf e.2 16 = 1 then init % 256 else e.2 % 256
    let hi := if bitOf e.2 17 = 1 then bitsOf init 8 8 else bitsOf e.2 8 8
    if lo + hi * 256 = 0 then none else some (e.1, lo + hi * 256)

/-- A switch to context c applies on region-clock edge `edge` of the present bucket (Table 06.2). -/
def State.switchNow (s : State) (i c edge : Nat) : State :=
  let g := s.rg i
  let o := s.liveCtx i
  let saved := s.ffsOf i
  let inits := initOf i (s.latchSlots (1 - g.active) i)
  let rest := mrange s.restore (ffKey i 0 0) clusterCount
  let s := s.doIf g.live fun s => s.saveBank i o saved
  let next :=
    if s.tp.globalReset || g.srst then inits
    else if c = o then saved
    else if g.stagedRestore then restored rest inits
    else inits
  let s := { s with ff := mreplace s.ff (ffKey i 0 0) clusterCount next
                    restore := mreplace s.restore (ffKey i 0 0) clusterCount saved }
  let g' := { g with active := 1 - g.active, stagedRestore := g.liveRestore, liveRestore := g.stagedRestore }
  let s := s.setRg i { g' with live := g.live || s.ctxValid i c, srst := false, settling := true
                               swEdge := some (s.markEdge edge) }
  let s := ((s.rgWr i Rgn.LIVE_CTX c).rgWr i Rgn.STG_CTX o).rgWr i Rgn.STG_VALID (bit (g.live && s.ctxValid i o))
  let s := (s.rgWr i Rgn.SW_SEQ (s.rgRd i Rgn.SW_SEQ + 1)).rgWr i Rgn.LAST_SW_TURN s.turn
  let s := ((s.rgWr i Rgn.LAST_SW_BUCKET s.bucket).rgWr i Rgn.LAST_SW_EDGE edge).irq (Pg.region i) 24
  let s := s.doIf (s.ctxValid i c) fun s => s.rgWr i Rgn.LIVE_UNSCRUBBED 0
  (s.cutRestage i o c).applyMap i

/-- A refused switch request (R180). -/
def State.switchRefusedCtx (s : State) (i : Nat) (q : Req) (why : Nat) : State :=
  let s := (s.count (Pg.region i) Rgn.SW_REF_CNT).irq (Pg.region i) 26
  let s := ((s.rgWr i Rgn.SW_WHY why).rgWr i Rgn.SW_SRC q.src).rgWr i Rgn.SW_RCTX q.ctx
  s.log (Pg.region i) 0x30 Sev.info q.agent (q.ctx + q.src * 2 ^ 3 + why * 2 ^ 5)

/-- A switch request on its edge: true when it is accepted (R173, R179). -/
def State.switchTry (s : State) (i : Nat) (q : Req) (edge : Nat) : Bool × State :=
  match s.switchWhy i q.ctx (s.onEdge edge (s.rg i).swEdge) with
  | some why => (false, s.switchRefusedCtx i q why)
  | none => (true, s.switchNow i q.ctx edge)

/-! ### Capture (R157 to R159) -/

/-- Whether a capture can take place (R159). -/
def State.captureOk (s : State) (i : Nat) : Bool :=
  s.serves (En.region i) && !s.tp.globalReset && !(s.rg i).srst

/-- A cluster serves a block port in BM mode (R145): row 20k or 20k + 10 with CELLX of cell 15 set. -/
def State.bmHost (s : State) (i x r : Nat) : Bool := r % 10 = 0 && bitOf (s.activeSlot i x 7 r) 63 = 1

/-- The capture bank takes the flip-flops (R157). -/
def State.captureNow (s : State) (i edge : Nat) : State :=
  let ffs := (s.ffsOf i).filter fun e => !s.bmHost i ((e.1 - ffKey i 0 0) / 320) ((e.1 - ffKey i 0 0) % 320)
  let s := (s.saveBank i 8 ffs).rgWr i Rgn.CAP_SEQ (s.rgRd i Rgn.CAP_SEQ + 1)
  let s := ((s.rgWr i Rgn.CAP_TURN s.turn).rgWr i Rgn.CAP_BUCKET s.bucket).rgWr i Rgn.CAP_EDGE edge
  (s.rgWr i Rgn.CAP_DONE 1).irq (Pg.region i) 18

/-- A capture on the first edge of the present bucket: one for all its triggers, a request of a register among them
(R158). -/
def State.captureTake (s : State) (i : Nat) : State :=
  let g := s.rg i
  let s := s.setRg i { g with capReq := g.capReq && !s.bucketSince g.capSince, capEdge := some s.time64 }
  if g.capEdge = some s.time64 then s else s.captureNow i 0

/-! ### The first edge of a bucket (R91, R92, R179) -/

/-- The action of a milestone on a region: true when the region takes it (Table 03.4). -/
def State.regionAct (f : Firing) (s : State) : Bool × State :=
  let i := f.target
  match f.action with
  | 1 => s.stageTry i { src := 0, ctx := f.ctx, agent := Ag.milestone }
  | 2 => s.switchTry i { src := 0, ctx := f.ctx, agent := Ag.milestone } 0
  | _ => if s.captureOk i then (true, s.captureTake i) else (false, s)

/-- The milestones of this bucket with action a on region i act. -/
def State.regionFire (s : State) (i a : Nat) : State :=
  s.each (s.firesOn [a] i) fun f s => s.fire f.entry a State.regionAct

/-- The captures of the bucket's first edge: those of milestones, and the one CAP_REQ asked for (R157). -/
def State.captures (s : State) (i : Nat) : State :=
  let s := s.regionFire i 3
  let g := s.rg i
  s.doIf (g.capReq && s.bucketSince g.capSince && s.captureOk i) fun s => s.captureTake i

/-- A request is due on edge `edge` of the present bucket: one of a register on the first edge of a later bucket than its
write (Table 06.3). -/
def State.reqDue (s : State) (edge : Nat) (q : Req) : Bool := q.src ≠ 3 || (edge = 0 && s.bucketSince q.since)

/-- Requests of some sources that are due on an edge, in the order of the sources (R179). -/
def State.reqsDue (s : State) (srcs : List Nat) (edge : Nat) (reqs : List Req) : List Req :=
  srcs.flatMap fun src => reqs.filter fun q => q.src = src && s.reqDue edge q

/-- The switch requests of some sources that wait are taken on their edge (R173, R179). -/
def State.switchReqs (s : State) (i : Nat) (srcs : List Nat) (edge : Nat) : State :=
  let reqs := (s.rg i).swReqs
  let now := s.reqsDue srcs edge reqs
  let s := s.setRg i { s.rg i with swReqs := reqs.filter fun q => !now.contains q }
  let s := s.doIf (now.any fun q => q.src = 3) fun s => s.rgWr i Rgn.SW_PEND 0
  s.each now fun q s => (s.switchTry i q edge).2

/-- What comes before the milestones of action a on the first edge of the present bucket: captures before switches, and
both before stagings (R91, R92, R179). -/
def State.edgeBefore (s : State) (i a : Nat) : State :=
  match a with
  | 3 => s
  | 2 => s.captures i
  | _ => ((s.captures i).regionFire i 2).switchReqs i [3] 0

/-- Entry e fires with action a on its region, after all that comes before it on the edge. -/
def State.regionMilestone (s : State) (e a : Nat) : State :=
  match s.firingOf e a with
  | none => s
  | some f => (s.edgeBefore f.target a).fire e a State.regionAct

/-! ### Commands of chapter 05 -/

/-- CW_CONFLICT (R141): the checker finds a causeway that both ends drive. -/
def execCwConflict (pair : Fin 20) (x : Fin 64) (r : Fin 320) (idx : Fin 64) (s : State) :
    Host.Outcome State Fault Refusal :=
  .next (
    let g := s.rg pair
    if !s.bothDrive pair x r idx || g.conflicts.any (fun c => c.x = x.val && c.r = r.val && c.idx = idx.val && !c.passed) then s
    else
      let s := s.setRg pair { g with conflicts := g.conflicts ++ [{ x := x, r := r, idx := idx, persists := false }] }
      s.each [pair.val, pair.val + 20] fun i s =>
        let s := ((s.rgWr i Rgn.CW_CONFLICT 1).count (Pg.region i) Rgn.CW_CONF_CNT).rgWr i Rgn.CW_COL x
        ((s.rgWr i Rgn.CW_ROW r).rgWr i Rgn.CW_IDX idx).irq (Pg.region i) 16)

/-- Restage the active latches of cluster (x, r) of region i from layer C's copy of the live context (R141). -/
def State.restage (s : State) (i x r : Nat) : State :=
  let c := s.liveCtx i
  if s.ctxValid i c then
    { s with latch := (List.range 16).foldl (fun m k =>
        mset 0 m (latchKey (s.rg i).active i x k r) (wordDecode (mget {} s.cfg (cfgKey i c x k r))).2) s.latch }
  else s

/-- A staging of either region of the pair holds the configuration bonds (R186). -/
def State.bondsBusy (s : State) (pair : Nat) : Bool :=
  [pair, pair + 20].any fun i => (s.rg i).staging.isSome || (s.rg i).stgNext.isSome

/-- RESTAGE_DONE (R141): the checker looks again. A restage waits for a staging that runs (R186). -/
def execRestageDone (pair : Fin 20) (x : Fin 64) (r : Fin 320) (s : State) : Host.Outcome State Fault Refusal :=
  .next (
    let mine := (s.rg pair).conflicts.filter fun c => c.x = x.val && c.r = r.val && !c.persists && !c.passed
    if mine.isEmpty || s.bondsBusy pair then s
    else s.simultaneous fun s =>
      let s := (s.restage pair x r).restage (pair + 20) x r
      let judge (c : Conflict) : Conflict :=
        { c with persists := s.bothDrive pair x r c.idx, passed := !s.bothDrive pair x r c.idx }
      let judged := mine.map judge
      let s := s.each judged fun c s => s.logConflict pair c
      let rest := (s.rg pair).conflicts.filter fun c => !mine.contains c
      (s.setRg pair { s.rg pair with conflicts := rest ++ judged }).showPersist pair)

/-- RDATA and POISON that port p of block blk drives: 0 and 1 while the slab's clamps hold them (R148). -/
def State.bmPort (s : State) (i blk p : Nat) : Nat :=
  if s.isOn (En.slab i) then mget 0 s.bmOut ((i * 1024 + blk) * 2 + p) else 0x30000

/-- What one port of a block reads: data and poison, with the state after the read's own write-back (R146). -/
def State.bmPortRead (s : State) (i blk : Nat) (wide : Bool) (p : BmPort) : Nat × State :=
  if wide then
    let a := 2 * (p.addr.toNat % 2048)
    let (lo, pl, s) := s.bmRead i blk a
    let (hi, ph, s) := s.bmRead i blk (a + 1)
    (lo + hi * 256 + bit pl * 2 ^ 16 + bit ph * 2 ^ 17, s)
  else
    let (d, pl, s) := s.bmRead i blk p.addr.toNat
    (d + bit pl * 2 ^ 16, s)

/-- Bytes a port writes: place and value (R145, R146). -/
def bmWrites (wide : Bool) (p : BmPort) : List (Nat × Nat) :=
  if !p.en then []
  else if wide then
    let a := 2 * (p.addr.toNat % 2048)
    (if p.we.toNat % 2 = 1 then [(a, p.wdata.toNat % 256)] else []) ++
      (if p.we.toNat / 2 = 1 then [(a + 1, p.wdata.toNat / 256)] else [])
  else if p.we.toNat % 2 = 1 then [(p.addr.toNat, p.wdata.toNat % 256)] else []

/-- Two writes met on one byte (R147). -/
def State.bmCollide (s : State) (i blk : Nat) : State :=
  let s := ((s.rgWr i Rgn.BM_COLLIDE 1).count (Pg.region i) Rgn.BM_COLL_CNT).rgWr i Rgn.BM_LAST blk
  (s.irq (Pg.region i) 19).logHw (Pg.region i) 0x24 Sev.info blk

/-- Both ports of block blk at one region-clock edge (R146, R147); `out` takes what port p reads. -/
def State.bmAccess (s : State) (i x k : Nat) (portA portB : BmPort) (out : State → Nat → Nat → State) : State :=
  let blk := 16 * x + k
  let rA := 20 * k; let rB := 20 * k + 10
  let a := { portA with en := portA.en && s.bmHost i x rA }
  let b := { portB with en := portB.en && s.bmHost i x rB }
  let wA : Bool := bitOf (s.activeSlot i x 7 rA) 31 = 1
  let wB : Bool := bitOf (s.activeSlot i x 7 rB) 31 = 1
  if !s.isOn (En.slab i) then (s.doIf a.en fun s => out s 0 0x30000).doIf b.en fun s => out s 1 0x30000
  else
    let s := s.doIf a.en fun s => let (v, s) := s.bmPortRead i blk wA a; out s 0 v
    let s := s.doIf b.en fun s => let (v, s) := s.bmPortRead i blk wB b; out s 1 v
    let ws := bmWrites wA a
    let vs := bmWrites wB b
    let met := vs.any fun w => ws.any fun v => v.1 = w.1
    let s := s.each (vs.filter fun w => !ws.any fun v => v.1 = w.1) fun w s => s.bmWrite i blk w.1 w.2
    let s := s.each ws fun w s => s.bmWrite i blk w.1 w.2
    if met then s.bmCollide i blk else s

/-- Key of port p of block k of column x. -/
def bmPortKey (i x k p : Nat) : Nat := (i * 1024 + (16 * x + k)) * 2 + p

/-- BM_PORT_ACCESS (R146, R147): both ports of block 16x + k at one region-clock edge, up to the edge from which they drive
what they read (log entry 153). -/
def execBmPortAccess (region : Fin 40) (x : Fin 64) (k : Fin 16) (portA portB : BmPort) (s : State) :
    Host.Outcome State Fault Refusal :=
  .next (
    let out (s : State) (p v : Nat) := { s with bmOut := mset 0 s.bmOut (bmPortKey region x k p) v }
    if s.regionRuns region then s.bmAccess region x k portA portB out else s)

/-- Region i's VOTE port writes slot 5 of a votable domain (R153, R424). -/
def State.voteStrobe (s : State) (i domain level : Nat) : State :=
  if s.regionRuns i && s.livePort i 10 && domain < 270 then
    (s.setRg i { s.rg i with voteAck := true }).castVote domain Ag.fabric level
  else s

/-- FABRIC_VOTE_STROBE (R153, R424). -/
def execFabricVoteStrobe (region : Fin 40) (domain : BitVec 9) (level : BitVec 2) (s : State) :
    Host.Outcome State Fault Refusal :=
  .next (s.voteStrobe region domain.toNat level.toNat)

/-- ATTACHMENT_WRITE (R151). -/
def execAttachmentWrite (ag : Agent) (region : Fin 40) (ctx : Fin 8) (n : Fin 16) (v : Word) (s : State) :
    Host.Outcome State Fault Refusal :=
  .next (s.access ag (Pg.region region) fun s => s.attWrite ag region ctx n v.toNat)

/-- HLP stages region i's live context under the new map and switches to it (R155, R175); a request that is refused is
reported as HLP's (R180), and the map then waits for another switch. -/
def State.selfSwitch (s : State) (i edge : Nat) : State :=
  let q : Req := { src := 1, ctx := s.liveCtx i, agent := Ag.hlp }
  let (ok, s) := s.stageTry i q
  if ok then (((s.settle i).stageEnd i).switchTry i q edge).2 else s

/-- REMAP_APPLY (R155, R156): at the bucket HLP chose, each region of the pair that runs switches to its own live context,
unless a milestone's switch of the same edge brings the map in. A pair of which no region runs has nothing to switch. -/
def execRemapApply (pair : Fin 20) (edge : BitVec 16) (s : State) : Host.Outcome State Fault Refusal :=
  .next (
    if s.rgRd pair Rgn.REMAP_PEND = 0 || !s.quietPoint then s
    else
      let s := s.each [pair.val, pair.val + 20] fun i s => (s.captures i).regionFire i 2
      let on := [pair.val, pair.val + 20].filter fun i => (s.rg i).live && s.regionRuns i
      if s.rgRd pair Rgn.REMAP_PEND = 0 then s
      else if on.isEmpty then s.applyMap pair
      else s.each on fun i s => s.selfSwitch i edge.toNat)

/-- A write of CAP_REQ (R157, R159). -/
def State.captureReq (s : State) (i : Nat) : State :=
  if s.captureOk i then
    if (s.rg i).capReq then s else s.setRg i { s.rg i with capReq := true, capSince := s.stamp }
  else s.ignored (Pg.region i)

/-- An access that carries a write of 1 to CAP_REQ: where the page answers OFF or RETIRED no capture can take place, and
WRITE_IGNORED says so (R159). -/
def State.captureAccess (s : State) (ag i : Nat) (f : State → State) (shown : Nat := Pg.region i) : State :=
  let r := s.response ag (Pg.region i)
  (s.access ag (Pg.region i) f shown).doIf (s.reaches ag && (r = .off || r = .retired)) fun s => s.ignored (Pg.region i)

/-- CAPTURE_REQUEST (R157, R159). -/
def execCaptureRequest (ag : Agent) (region : Fin 40) (s : State) : Host.Outcome State Fault Refusal :=
  .next (s.captureAccess ag region fun s => s.captureReq region)

/-- CAPTURE (R157): the requested capture, on the first region-clock edge of a bucket that began after the request. -/
def execCapture (region : Fin 40) (edge : BitVec 16) (s : State) : Host.Outcome State Fault Refusal :=
  .next (if edge = 0 then s.captures region else s)

/-! ### Commands of chapter 06 -/

/-- A write of STG_GO (R181). -/
def State.stageReq (s : State) (ag i c : Nat) : State :=
  if s.rgRd i Rgn.STG_PEND = 1 then s.ignored (Pg.region i)
  else (s.rgWr i Rgn.STG_PEND 1).setRg i
    { s.rg i with stgReqs := (s.rg i).stgReqs ++ [{ src := 3, ctx := c, agent := ag, since := s.stamp }] }

/-- A write of SW_GO (R181). -/
def State.switchReq (s : State) (ag i c : Nat) : State :=
  if s.rgRd i Rgn.SW_PEND = 1 then s.ignored (Pg.region i)
  else (s.rgWr i Rgn.SW_PEND 1).setRg i
    { s.rg i with swReqs := (s.rg i).swReqs ++ [{ src := 3, ctx := c, agent := ag, since := s.stamp }] }

/-- STAGE_REQUEST (R181). -/
def execStageRequest (ag : Agent) (region : Fin 40) (ctx : Fin 8) (s : State) : Host.Outcome State Fault Refusal :=
  .next (s.access ag (Pg.region region) fun s => s.stageReq ag region ctx)

/-- SWITCH_REQUEST (R181). -/
def execSwitchRequest (ag : Agent) (region : Fin 40) (ctx : Fin 8) (s : State) : Host.Outcome State Fault Refusal :=
  .next (s.access ag (Pg.region region) fun s => s.switchReq ag region ctx)

/-- The region samples its request cluster (R178): column band 0 of a context is its only one (log entry 154). -/
def State.clusterSampled (s : State) (i : Nat) : Bool :=
  s.rgRd i Rgn.FAB_REQ_EN = 1 && s.regionRuns i && (s.rg i).live

/-- The request cluster asks for a staging, or for a switch. -/
def State.clusterStage (s : State) (i c : Nat) : State :=
  s.setRg i { s.rg i with stgReqs := (s.rg i).stgReqs ++ [{ src := 2, ctx := c, agent := Ag.fabric }] }
def State.clusterSwitch (s : State) (i c : Nat) : State :=
  s.setRg i { s.rg i with swReqs := (s.rg i).swReqs ++ [{ src := 2, ctx := c, agent := Ag.fabric }] }

/-- FABRIC_STAGE_STROBE (R178): the stage strobe of the request cluster rises, with a context named at its edge. -/
def execFabricStageStrobe (region : Fin 40) (ctx : Fin 8) (s : State) : Host.Outcome State Fault Refusal :=
  .next (if s.clusterSampled region then s.clusterStage region ctx else s)

/-- FABRIC_SWITCH_STROBE (R178). -/
def execFabricSwitchStrobe (region : Fin 40) (ctx : Fin 8) (s : State) : Host.Outcome State Fault Refusal :=
  .next (if s.clusterSampled region then s.clusterSwitch region ctx else s)

/-- The stage requests that wait are taken on their edge, after all that comes before them on it (R171, R179). One of the
request cluster stays behind a switch of the cluster that still waits. -/
def State.stageApply (s : State) (i : Nat) : State :=
  let s := (s.edgeBefore i 1).regionFire i 1
  let reqs := (s.rg i).stgReqs
  let behind : Bool := (s.rg i).swReqs.any fun q => q.src = 2
  let now := s.reqsDue (if behind then [1, 3] else [1, 2, 3]) 0 reqs
  let s := s.setRg i { s.rg i with stgReqs := reqs.filter fun q => !now.contains q }
  let s := s.doIf (now.any fun q => q.src = 3) fun s => s.rgWr i Rgn.STG_PEND 0
  s.each now fun q s => (s.stageTry i q).2

/-- STAGE_APPLY (R169, R171). -/
def execStageApply (region : Fin 40) (s : State) : Host.Outcome State Fault Refusal := .next (s.stageApply region)

/-- STAGE_DONE (R169): the nine edges of the staging have passed. -/
def execStageDone (region : Fin 40) (s : State) : Host.Outcome State Fault Refusal :=
  .next ((s.doIf (s.rg region).stgNext.isSome fun s => s.settle region).stageEnd region)

/-- The switch requests that wait are taken on edge `edge` of the present bucket, after all that comes before them on it
(R173, R179). -/
def State.switchApply (s : State) (i edge : Nat) : State :=
  ((s.edgeBefore i 2).regionFire i 2).switchReqs i [1, 2, 3] edge

/-- SWITCH_APPLY (R174). -/
def execSwitchApply (region : Fin 40) (edge : BitVec 16) (s : State) : Host.Outcome State Fault Refusal :=
  .next (s.switchApply region edge.toNat)

end Sys2Proof.Machine
end

