-- ==== Sys2Proof/Machine/Fabric.lean ====
section
/-! DEFINITION. Machine/Fabric.lean: the logic fabric at the bit level (chapter 05): what cells, crossbars, wires, causeways,
block-memory hosts and port wires carry, and what a region-clock edge does to the flip-flops. A signal's value is computed
from the state; none is stored. -/

namespace Sys2Proof.Machine

/-! ### Places (§05.1, §05.2) -/

/-- A cluster: its layer (0 = LA, 1 = LB), absolute logical column and absolute row. -/
structure Site where
  l : Nat
  x : Nat
  y : Nat
  deriving DecidableEq, Repr

/-- The region a cluster lies in, and its place there. -/
def Site.region (p : Site) : Nat := 20 * p.l + 5 * (p.y / 320) + p.x / 64
def Site.col (p : Site) : Nat := p.x % 64
def Site.row (p : Site) : Nat := p.y % 320

/-- The cluster at (x, r) of region i. -/
def siteOf (i x r : Nat) : Site := ⟨i / 20, 64 * (i % 5) + x, 320 * (i % 20 / 5) + r⟩

/-- The cluster that faces p across layer C. -/
def Site.facing (p : Site) : Site := { p with l := 1 - p.l }

/-- Length of the wires of kind k. -/
def wireLength (k : Nat) : Nat := [1, 1, 4, 16].getD k 1

/-- The cluster at which the wire starts that ends at p with index w = 4d + k; none where it would lie outside the layer. -/
def Site.wireFrom (p : Site) (w : Nat) : Option Site :=
  let n := wireLength (w % 4)
  match w / 4 with
  | 0 => if n ≤ p.y then some { p with y := p.y - n } else none
  | 1 => if n ≤ p.x then some { p with x := p.x - n } else none
  | 2 => if p.y + n < 1280 then some { p with y := p.y + n } else none
  | _ => if p.x + n < 320 then some { p with x := p.x + n } else none

/-! ### Configuration of a cluster (Tables 05.1 and 05.2) -/

/-- Slot of minor m in the active latches of cluster p. -/
def State.slotAt (s : State) (p : Site) (m : Nat) : Nat := s.activeSlot p.region p.col m p.row

/-- The 4-bit code at place n of a slot. -/
def nibble (slot n : Nat) : Nat := bitsOf slot (4 * n) 4

/-- The record of cell c, and fields of one. -/
def State.cellAt (s : State) (p : Site) (c : Nat) : Nat := bitsOf (s.slotAt p (c / 2)) (32 * (c % 2)) 32
def cellLut (v n : Nat) : Bool := bitOf v n = 1
def cellArith (v : Nat) : Bool := bitOf v 16 = 1
def cellChain (v : Nat) : Bool := bitOf v 17 = 1
def cellOutsel (v : Nat) : Bool := bitOf v 18 = 1
def cellDsel (v : Nat) : Bool := bitOf v 19 = 1
def cellInit (v : Nat) : Bool := bitOf v 20 = 1
def cellRsel (v : Nat) : Nat := bitsOf v 21 3
def cellCesel (v : Nat) : Nat := bitsOf v 24 4

/-- Crossbar select of input k of cell c, select of cluster input j, and select of wire start w. -/
def State.xbarSel (s : State) (p : Site) (c k : Nat) : Nat := nibble (s.slotAt p (8 + c / 4)) (4 * (c % 4) + k)
def State.inputSel (s : State) (p : Site) (j : Nat) : Nat := nibble (s.slotAt p (12 + j / 16)) (j % 16)
def State.startSel (s : State) (p : Site) (w : Nat) : Nat := nibble (s.slotAt p 14) w

/-! ### Signals -/

/-- A signal whose value follows from others within an edge. -/
inductive Net where
  /-- O and COUT of cell c. -/
  | o (p : Site) (c : Nat)
  | cout (p : Site) (c : Nat)
  /-- Cluster input INj. -/
  | inp (p : Site) (j : Nat)
  /-- The wire that starts at p with index w. -/
  | start (p : Site) (w : Nat)
  /-- Causeway i of the clusters at p and facing it. -/
  | cw (p : Site) (i : Nat)
  deriving DecidableEq, Repr

/-- A number for each cluster, and for each signal. -/
def Site.key (p : Site) : Nat := (p.l * 320 + p.x) * 1280 + p.y
def Net.key : Net → Nat
  | .o p c => p.key * 256 + c
  | .cout p c => p.key * 256 + 16 + c
  | .inp p j => p.key * 256 + 32 + j
  | .start p w => p.key * 256 + 64 + w
  | .cw p i => p.key * 256 + 128 + i

/-- More than the signals there are: no chain of them without a loop is longer. -/
def netCount : Nat := 2 ^ 28

/-- A value the manual does not give (log entry 156). -/
def State.floats (s : State) (n : Net) : Bool := Config.floating s.cycles n.key

/-- Cluster p serves a block port; its port drives this (Table 05.4, R148). -/
def State.hostAt (s : State) (p : Site) : Bool := s.bmHost p.region p.col p.row
def State.hostDrives (s : State) (p : Site) : Nat :=
  s.bmPort p.region (16 * p.col + p.row / 20) (p.row / 10 % 2)
/-- The block port of host cluster p has 16-bit width (BMW). -/
def State.hostWide (s : State) (p : Site) : Bool := bitOf (s.slotAt p 7) 31 = 1

/-- O of cell c of a host cluster: RDATA within the width (Table 05.4). -/
def State.hostO (s : State) (p : Site) (c : Nat) : Bool :=
  (s.hostWide p || c < 8) && bitOf (s.hostDrives p) c = 1

/-- Q of cell c: its flip-flop, or POISON of a byte of a host cluster's port (Table 05.4). -/
def State.cellQ (s : State) (p : Site) (c : Nat) : Bool :=
  if s.hostAt p then (c = 0 || (c = 1 && s.hostWide p)) && bitOf (s.hostDrives p) (16 + c) = 1
  else bitOf (mget 0 s.ff (ffKey p.region p.col p.row)) c = 1

/-- Whether the isolation clamps of cluster p's region hold what it drives at 0 (R135). -/
def State.clamped (s : State) (p : Site) : Bool := !s.serves (En.region p.region)

/-- Port-in wire n of the row of cluster p: the port tile register of the row (R149). -/
def State.portInBit (s : State) (p : Site) (n : Nat) : Bool :=
  bitOf (mget 0 s.portIn (p.region * 320 + p.row)) n = 1

/-- Input k of cell c, from the values of other signals (R131). -/
def State.cellIn (s : State) (val : Net → Bool) (p : Site) (c k : Nat) : Bool :=
  let v := s.xbarSel p c k
  if v < 8 then val (.inp p (8 * k + v))
  else if v < 12 then s.cellQ p ((c + v - 8) % 16)
  else val (.o p ((c + 27 - v) % 16))

/-- Index of the look-up table that n inputs of cell c name, I0 least significant. -/
def State.lutIndex (s : State) (val : Net → Bool) (p : Site) (c n : Nat) : Nat :=
  ((List.range n).map fun k => bit (s.cellIn val p c k) * 2 ^ k).sum

/-- CIN of cell c (R130). -/
def State.carryIn (s : State) (val : Net → Bool) (p : Site) (c : Nat) : Bool :=
  cellChain (s.cellAt p c) &&
    (if c ≠ 0 then val (.cout p (c - 1)) else if p.row = 0 then false else val (.cout { p with y := p.y - 1 } 15))

/-- OUT of cell c (Tables 05.2 and 05.4). -/
def State.cellOut (s : State) (val : Net → Bool) (p : Site) (c : Nat) : Bool :=
  if cellOutsel (s.cellAt p c) && !s.hostAt p then s.cellQ p c else val (.o p c)

/-- The wire that ends at p with index w; a place without a start outside the layer carries no value the manual gives. -/
def State.wireEnd (s : State) (val : Net → Bool) (p : Site) (w : Nat) : Bool :=
  match p.wireFrom w with
  | some q => val (.start q w)
  | none => s.floats (.start p (16 + w))

/-- A causeway that reads 0 at both ends: dead (R19), held off by the checker (R141), or in the cycle after a switch (R142). -/
def State.cwOff (s : State) (pair x r i : Nat) : Bool :=
  (s.repairs.any fun q => q.entry = En.region pair && q.kind = 3 && q.place = x + r * 2 ^ 6 + 3 * 2 ^ 15 + i * 2 ^ 18) ||
  ((s.rg pair).conflicts.any fun c => c.x = x && c.r = r && c.idx = i) ||
  [pair, pair + 20].any fun g =>
    (s.rg g).settling && (bitOf (s.activeSlot g x 15 r) i = 1 || bitOf (s.stagedSlot g x 15 r) i = 1)

/-- What the driver of causeway i at cluster p drives, if its configuration enables it (R138). -/
def State.cwDrive (s : State) (val : Net → Bool) (p : Site) (i : Nat) : Option Bool :=
  if bitOf (s.slotAt p 15) i = 0 || s.clamped p then none
  else some (match i / 16 with
    | 0 => val (.o p (i % 16))
    | 1 => s.cellQ p (i % 16)
    | 2 => val (.inp p (i % 16))
    | _ => val (.inp p (16 + i % 16)))

/-- The value of a signal from those it depends on: R130 for O and COUT, R133 for INj, R134 and R135 for a wire, R138 for a
causeway. -/
def State.netStep (s : State) (val : Net → Bool) (n : Net) : Bool :=
  match n with
  | .o p c =>
    let v := s.cellAt p c
    if s.hostAt p then s.hostO p c
    else if cellArith v then (cellLut v (s.lutIndex val p c 3)) ^^ s.carryIn val p c
    else cellLut v (s.lutIndex val p c 4)
  | .cout p c =>
    let v := s.cellAt p c
    if s.hostAt p || !cellArith v then s.floats n
    else if cellLut v (s.lutIndex val p c 3) then s.carryIn val p c
    else cellLut v (8 + s.lutIndex val p c 3)
  | .inp p j =>
    let v := s.inputSel p j
    if v < 12 then s.wireEnd val p ((j + v) % 16)
    else if v = 12 then val (.cw p (2 * j))
    else if v = 13 then val (.cw p (2 * j + 1))
    else if v = 14 then s.portInBit p (8 * (p.col % 8) + j % 8)
    else false
  | .start p w =>
    let v := s.startSel p w
    let d := w / 4; let k := w % 4
    if s.clamped p then false
    else if v < 8 then s.cellOut val p (8 * (w % 2) + v)
    else if v < 12 then s.wireEnd val p (4 * d + (k + v - 8) % 4)
    else if v = 12 then s.wireEnd val p (4 * ((d + 1) % 4) + k)
    else if v = 13 then s.wireEnd val p (4 * ((d + 3) % 4) + k)
    else if v = 14 then s.wireEnd val p (4 * ((d + 1) % 4) + (k + 1) % 4)
    else false
  | .cw p i =>
    if s.cwOff (p.region % 20) p.col p.row i then false
    else match s.cwDrive val p i, s.cwDrive val p.facing i with
      | some a, none => a
      | none, some b => b
      | none, none => false
      | some _, some _ => s.floats n

/-- The value of a signal, through chains of at most `fuel` signals. A signal that depends on itself has no value that the
manual gives (log entry 156). -/
def State.net (s : State) : Nat → Net → Bool
  | 0, n => s.floats n
  | fuel + 1, n => s.netStep (fun m => s.net fuel m) n

/-- The value of a signal just before the next edge. -/
def State.sig (s : State) (n : Net) : Bool := s.net netCount n

/-! ### Nets of a region (R143, R178) and port-out wires (R149) -/

/-- OUT of cell c of cluster (x, r) of region i. -/
def State.outAt (s : State) (i x r c : Nat) : Bool := s.cellOut s.sig (siteOf i x r) c

/-- Clock-enable net n and user reset net m of region i (R143). -/
def State.ceNet (s : State) (i n : Nat) : Bool := s.outAt i 0 (1 + n) 15
def State.rstNet (s : State) (i m : Nat) : Bool := s.outAt i 0 (11 + m) 15

/-- The request cluster of region i: the stage and the switch strobe, and the context named (R178). -/
def State.clusterStrobes (s : State) (i : Nat) : Nat := bit (s.outAt i 0 15 14) + 2 * bit (s.outAt i 0 15 15)
def State.clusterCtx (s : State) (i : Nat) : Nat :=
  bit (s.outAt i 0 15 11) + 2 * bit (s.outAt i 0 15 12) + 4 * bit (s.outAt i 0 15 13)

/-- The port-out wires of row r (R149). -/
def State.portOutRow (s : State) (i r : Nat) : Nat :=
  ((List.range 64).map fun p => bit (s.outAt i (16 * (p / 16)) r (p % 16)) * 2 ^ p).sum

/-! ### The block port of a host cluster (Table 05.4) -/

/-- The number that inputs lo to lo + n − 1 of cluster p spell. -/
def State.inputs (s : State) (p : Site) (lo n : Nat) : Nat :=
  ((List.range n).map fun k => bit (s.sig (.inp p (lo + k))) * 2 ^ k).sum

/-- ADDR, WDATA, WE and EN of the block port that host cluster p serves. -/
def State.hostPort (s : State) (p : Site) : BmPort :=
  let wide := s.hostWide p
  { en := s.hostAt p && s.sig (.inp p 30)
    we := BitVec.ofNat 2 (bit (s.sig (.inp p 28)) + (if wide then 2 * bit (s.sig (.inp p 29)) else 0))
    addr := BitVec.ofNat 12 (s.inputs p 0 (if wide then 11 else 12))
    wdata := BitVec.ofNat 16 (s.inputs p 12 (if wide then 16 else 8)) }

/-! ### A region-clock edge (R132) -/

/-- A reset that RSEL selects beside the global one is active. -/
def State.userReset (s : State) (i v : Nat) : Bool := 1 ≤ cellRsel v && cellRsel v ≤ 4 && s.rstNet i (cellRsel v - 1)

/-- The clock enable of cell c; a reserved code has no meaning (log entry 156). -/
def State.clockEnable (s : State) (i : Nat) (p : Site) (c v : Nat) : Bool :=
  let e := cellCesel v
  if e = 0 then true
  else if e ≤ 8 then s.ceNet i (e - 1)
  else if e = 9 then s.cellIn s.sig p c 2
  else s.floats (.o p c)

/-- What the flip-flop of cell c holds after the next edge, out of the global reset. -/
def State.ffNext (s : State) (i : Nat) (p : Site) (c : Nat) : Bool :=
  let v := s.cellAt p c
  let q := bitOf (mget 0 s.ff (ffKey i p.col p.row)) c = 1
  if s.hostAt p then q
  else if s.userReset i v then cellInit v
  else if s.clockEnable i p c v then if cellDsel v then s.cellIn s.sig p c 3 else s.sig (.o p c)
  else q

/-- Clusters of region i whose cells have a record other than 0: the flip-flops of every other load O = 0. -/
def State.usedClusters (s : State) (i : Nat) : List (Nat × Nat) :=
  ((s.latchSlots (s.rg i).active i).filterMap fun e =>
    if e.1 / 320 % 16 < 8 then some (e.1 / 5120, e.1 % 320) else none).eraseDups

/-- The flip-flops of region i after its next clock edge (R132, R144). -/
def State.ffsNext (s : State) (i : Nat) : List (Nat × Nat) :=
  if s.tp.globalReset || (s.rg i).srst then initOf i (s.latchSlots (s.rg i).active i)
  else (s.usedClusters i).foldl (fun m a =>
    let p := siteOf i a.1 a.2
    mset 0 m (ffKey i a.1 a.2) (((List.range 16).map fun c => bit (s.ffNext i p c) * 2 ^ c).sum)) []

end Sys2Proof.Machine
end

