-- ==== Sys2Proof/Machine/Engine.lean ====
section
/-! DEFINITION. Machine/Engine.lean: the trigger engines (chapter 08): their memories, address generators, FIFOs, starts,
halts and traps, and the meaning of every instruction. The engine clock is not modelled; the cycles an instruction waits
for are a free number (log entry 30). -/

namespace Sys2Proof.Machine

def State.te (s : State) (t : Nat) : Te := mget {} s.tes t
def State.setTe (s : State) (t : Nat) (v : Te) : State := { s with tes := mset {} s.tes t v }
def State.teRd (s : State) (t : Nat) (r : Row) (i : Nat := 0) : Nat := s.rd (Pg.engine t) r i
def State.teWr (s : State) (t : Nat) (r : Row) (v : Nat) (i : Nat := 0) : State := s.wr (Pg.engine t) r v i

/-! Codes of ESTATE. -/
namespace Es
def idle : Nat := 0
def running : Nat := 1
def waiting : Nat := 2
def halted : Nat := 3
def trapped : Nat := 4
def failed : Nat := 5
end Es

/-! Trap causes (Table 08.9). -/
namespace Trap
def illegal : Nat := 1
def poison : Nat := 2
def imemUe : Nat := 3
def inTmo : Nat := 4
def outTmo : Nat := 5
def agBad : Nat := 6
def soft : Nat := 7
def loopDepth : Nat := 8
def badRtt : Nat := 9
end Trap

/-- The domain is on and its CORE branch is open. -/
def State.teCore (s : State) (t : Nat) : Bool :=
  s.isOn (En.engine t) && s.coreOpen (En.engine t)

def State.estate (s : State) (t : Nat) : Nat := s.teRd t Te.ESTATE
def State.teBusy (s : State) (t : Nat) : Bool := s.estate t = Es.running || s.estate t = Es.waiting

/-! ### Memories (R236 to R239) -/

/-- A lane: its 18-bit value as a signed number, and its poison. -/
abbrev Lane := Int × Bool

/-- Read one lane of a data-memory row (R237, R238). -/
def State.dmLane (s : State) (t row lane : Nat) : Lane × State :=
  let k := dmKey t row lane
  let pg := Pg.engine t
  match laneDecode (mget 0 s.dm k) with
  | (.clean, d, _) => ((signedOf 18 d, false), s)
  | (.poison, _, _) => ((0, true), s)
  | (.corrected, d, n) =>
    let s := { s with dm := mset 0 s.dm k (laneEncode d) }
    let s := s.count pg Te.DM_CE_CNT
    ((signedOf 18 d, false),
      s.doIf (t < 104) fun s => s.hotWord (.engineData (Fin.ofNat 104 t)) (row * 32 + lane) n row)
  | (.uncorrectable, _, _) =>
    let s := { s with dm := mset 0 s.dm k lanePoison }
    let s := (s.count pg Te.DM_UE_CNT).wr pg Te.LAST_ROW row
    let s := ((s.wr pg Te.LAST_MEM 0).wr pg Te.LAST_LANE lane).irq pg 21
    ((0, true), s.logHw pg 0x21 Sev.uncorrected (row + lane * 2 ^ 11))

/-- Read the lanes of a row from lane j on. -/
def State.dmLanes (s : State) (t row j : Nat) : Nat → List Lane × State
  | 0 => ([], s)
  | n + 1 =>
    let (v, s) := s.dmLane t row j
    let (vs, s) := s.dmLanes t row (j + 1) n
    (v :: vs, s)

/-- Codeword of a lane as a write stores it. -/
def laneWord (v : Lane) : Nat := if v.2 then lanePoison else laneEncode (fieldOf 18 v.1)

def State.dmWrite (s : State) (t row : Nat) (vs : List Lane) : State :=
  { s with dm := msets 0 s.dm (dmKey t row 0) (vs.map laneWord) }

/-- Read an instruction word: none when it is uncorrectable or poisoned (R238). -/
def State.imRead (s : State) (t a : Nat) : Option Nat × State :=
  let k := imKey t a
  let e := mget {} s.im k
  let pg := Pg.engine t
  let back (s : State) := { s with im := mset {} s.im k (wordBack e) }
  match wordDecode e with
  | (.clean, d) => (some d, s)
  | (.poison, _) => (none, s)
  | (.corrected, d) =>
    let s := (back s).count pg Te.IM_CE_CNT
    (some d, s.doIf (t < 104) fun s => s.hotWord (.engineInstr (Fin.ofNat 104 t)) a e.err a)
  | (.uncorrectable, _) =>
    let s := ((back s).count pg Te.IM_UE_CNT).wr pg Te.LAST_ROW a
    let s := (s.wr pg Te.LAST_MEM 1).irq pg 21
    (none, s.logHw pg 0x22 Sev.uncorrected a)

/-- A write through the data window (R239). -/
def State.dmWindowWrite (s : State) (t row lane v : Nat) : State :=
  { s with dm := mset 0 s.dm (dmKey t row lane) (if bitOf v 31 = 1 then lanePoison else laneEncode (v % 2 ^ 18)) }

/-- A write of one half of an instruction word (R239); the first write clears RELOAD_NEEDED (R258). The other half of a
word that held no good data reads 0 (log entry 31). -/
def State.imWindowWrite (s : State) (t a : Nat) (high : Bool) (v : Nat) : State :=
  if s.teBusy t then s.ignored (Pg.engine t)
  else
    let k := imKey t a
    let d := putBits (wordDecode (mget {} s.im k)).2 (if high then 32 else 0) 32 v
    { s with im := mset {} s.im k (cleanWord d) }.teWr t Te.RELOAD_NEEDED 0

/-! ### Address generators (R240) -/

/-- Address of generator g. -/
def State.agAddr (s : State) (t g : Nat) : Nat := (s.teRd t Te.AG_BASE g + s.teRd t Te.AG_IDX g) % 2048

/-- IDX after one update of generator g from idx; none = AG_BAD. -/
def State.agNext (s : State) (t g idx : Nat) : Option Nat :=
  let len := s.teRd t Te.AG_LEN g
  let st := signedOf 12 (s.teRd t Te.AG_STRIDE g)
  if len = 0 then some (((idx : Int) + st) % 2048).toNat
  else if len ≤ idx ∨ len < st.natAbs then none
  else
    let u := (idx : Int) + st
    some (if (len : Int) ≤ u then u - len else if u < 0 then u + len else u).toNat

/-! ### FIFOs (R247 to R252) -/

def Te.fifo (v : Te) (f : Nat) : Fifo := mget {} v.fifos f

/-- Field of a FIFO's level. -/
def fifoLevel (f : Nat) : Row := [Te.IN0_LVL, Te.IN1_LVL, Te.OUT0_LVL, Te.OUT1_LVL].getD f Te.IN0_LVL

def State.setFifo (s : State) (t f : Nat) (x : Fifo) : State :=
  (s.setTe t { s.te t with fifos := mset {} (s.te t).fifos f x }).teWr t (fifoLevel f) x.words.length

/-- FMT of FIFO f: LANE. -/
def State.fifoLane (s : State) (t f : Nat) : Bool := bitOf (s.teRd t Te.FMT) f = 1

/-- Lanes with a bit in fabric word i of a PACKED word. -/
def packedLanes (i : Nat) : Nat :=
  (List.range 32).foldl (fun m j => if 18 * j < 32 * (i + 1) && 32 * i < 18 * (j + 1) then m + 2 ^ j else m) 0

/-- FULL of input FIFO f: it cannot take two more fabric words (R250); clamped at RET and OFF (R252). -/
def State.fifoFull (s : State) (t f : Nat) : Bool :=
  let x := (s.te t).fifo f
  !s.isOn (En.engine t) ||
    decide ((32 - x.words.length) * (if s.fifoLane t f then 32 else 18) < x.asmN + 2)

/-- AFULL of input FIFO f (R250, R252). -/
def State.fifoAfull (s : State) (t f : Nat) : Bool :=
  !s.isOn (En.engine t) || decide (32 - ((s.te t).fifo f).words.length ≤ s.teRd t Te.AFULL_LVL)

/-- The assembly register closes (R247, Table 08.8). -/
def State.fifoClose (s : State) (t f : Nat) (last : Bool) : State :=
  let x := (s.te t).fifo f
  let tag := if s.fifoLane t f then ceilDiv (9 * x.asmN) 4 else 4 * x.asmN
  s.setFifo t f { words := x.words ++ [⟨x.asm, tag, last, x.asmP⟩] }

/-- The fabric writes an input FIFO on an edge (R247, R250). -/
def State.fifoIn (s : State) (t f data : Nat) (wr last poison : Bool) : State :=
  let pg := Pg.engine t
  if !s.isOn (En.engine t) || (!wr && !last) then s
  else if s.fifoFull t f then
    let s := ((s.wr pg Te.IN_DROP 1).count pg Te.IN_DROP_CNT).irq pg 19
    if mget none (s.te t).dropLog f = some s.time64 then s
    else (s.setTe t { s.te t with dropLog := mset none (s.te t).dropLog f (some s.time64) }).logHw pg 0x25 Sev.info f
  else
    let lane := s.fifoLane t f
    let x := (s.te t).fifo f
    let x := if !wr then x else { x with
      asm := x.asm + (if lane then data % 2 ^ 18 * 2 ^ (18 * x.asmN) else data * 2 ^ (32 * x.asmN))
      asmP := x.asmP ||| (if !poison then 0 else if lane then 2 ^ x.asmN else packedLanes x.asmN)
      asmN := x.asmN + 1 }
    let s := s.setFifo t f x
    if last || (if lane then 32 else 18) ≤ x.asmN then s.fifoClose t f last else s

/-- Fabric words an output word delivers (R248, Table 08.8). -/
def outCount (lane : Bool) (w : FWord) : Nat :=
  let n := if lane then 4 * w.tag / 9 else ceilDiv w.tag 4
  if n = 0 then bit w.last else n

/-- What TE_OUT shows: DATA, VALID, LAST, POISON (R248, R250, R252). -/
def State.teOut (s : State) (t f : Nat) : Nat × Bool × Bool × Bool :=
  let x := (s.te t).fifo f
  if !s.isOn (En.engine t) then (0, false, false, true)
  else match x.words with
    | [] => (0, false, false, false)
    | w :: _ =>
      let lane := s.fifoLane t f
      let n := outCount lane w
      let none_ := (if lane then 4 * w.tag / 9 else ceilDiv w.tag 4) = 0
      let d := if none_ then 0
        else if lane then fieldOf 32 (signedOf 18 (bitsOf w.data (18 * x.out) 18))
        else bitsOf (w.data % 2 ^ (8 * w.tag)) (32 * x.out) 32
      let p := !none_ && (if lane then bitOf w.poison x.out = 1 else w.poison &&& packedLanes x.out ≠ 0)
      (d, true, w.last && x.out + 1 = n, p)

/-- RD on TE_OUT consumes the fabric word shown (R250). -/
def State.fifoOut (s : State) (t f : Nat) : State :=
  let x := (s.te t).fifo f
  match x.words with
  | [] => s
  | w :: ws =>
    if !s.isOn (En.engine t) then s
    else if outCount (s.fifoLane t f) w ≤ x.out + 1 then s.setFifo t f { x with words := ws, out := 0 }
    else s.setFifo t f { x with out := x.out + 1 }

/-- The 576 bits and the poison mask of lanes. -/
def packLanes (vs : List Lane) : Nat × Nat :=
  (vs.zipIdx.foldl (fun n v => n + fieldOf 18 v.1.1 * 2 ^ (18 * v.2)) 0,
    vs.zipIdx.foldl (fun n v => n + bit v.1.2 * 2 ^ v.2) 0)

/-- The lanes of an engine word: bits beyond its tag read 0 and carry no poison (R247). -/
def wordLanes (w : FWord) : List Lane :=
  let d := w.data % 2 ^ (8 * w.tag)
  (List.range 32).map fun j =>
    (signedOf 18 (bitsOf d (18 * j) 18), decide (18 * j < 8 * w.tag) && bitOf w.poison j = 1)

/-- The engine pushes lanes to output FIFO f (0 or 1) with the waiting PUSHCTL, else tag 72 (R248). A word that delivers
nothing takes no place. -/
def State.fifoPush (s : State) (t f : Nat) (vs : List Lane) : State :=
  let c := (mget none (s.te t).ctl f).getD 72
  let s := s.setTe t { s.te t with ctl := mset none (s.te t).ctl f none }
  let (d, p) := packLanes vs
  let w : FWord := ⟨d, c % 128, c / 128 = 1, p⟩
  let x := (s.te t).fifo (2 + f)
  if outCount (s.fifoLane t (2 + f)) w = 0 then s else s.setFifo t (2 + f) { x with words := x.words ++ [w] }

/-- The head of input FIFO f leaves; RTAG reads it (Table 08.5). -/
def State.fifoPop (s : State) (t f : Nat) : State :=
  let x := (s.te t).fifo f
  match x.words with
  | [] => s
  | w :: ws =>
    let s := s.setTe t { s.te t with
      popped := mset 0 (s.te t).popped f (w.tag + bit w.last * 2 ^ 7 + bit ((wordLanes w).any (·.2)) * 2 ^ 8) }
    s.setFifo t f { x with words := ws }

/-- Empty FIFO f with its assembly register (R252). -/
def State.fifoFlush (s : State) (t f : Nat) : State := s.setFifo t f {}

/-! ### Starts, halts and traps (R253 to R256) -/

/-- The engine stops issuing: HALTED. -/
def State.teHaltNow (s : State) (t : Nat) : State :=
  if !s.teBusy t then s
  else ((s.teWr t Te.ESTATE Es.halted).setTe t { s.te t with wait := .none }).irq (Pg.engine t) 16

/-- The reason to refuse a start (R253, Table 08.10); the lowest code when several hold (log entry 23). -/
def State.startWhy (s : State) (t : Nat) : Option Nat :=
  if s.teBusy t then some 1
  else if s.teRd t Te.RELOAD_NEEDED = 1 then some 2
  else if !s.teCore t || !s.usable (En.engine t) then some 3
  else if s.estate t = Es.failed then some 4
  else if (s.te t).moving then some 5
  else none

/-- The engine starts at an instruction address (R253); a TE_PATH slice on it ends (R470). -/
def State.teStart (s : State) (t pc : Nat) : State :=
  let s := s.sliceCut 3 (En.engine t)
  let s := ((s.teWr t Te.PC pc).teWr t Te.IN_HANDLER 0).teWr t Te.CAUSE 0
  let s := ((s.teWr t Te.CYCLES 0).teWr t Te.STALLS 0).teWr t Te.ESTATE Es.running
  s.setTe t { s.te t with loops := [], wait := .none }

/-- A refused start (R253, Table 08.11). -/
def State.teStartRefused (s : State) (t why ag : Nat) (milestone : Bool) : State :=
  let pg := Pg.engine t
  let s := ((s.wr pg Te.START_WHY why).wr pg Te.START_REFUSED 1).irq pg 22
  s.log pg 0x26 Sev.info ag (why + bit milestone * 2 ^ 3)

/-- A trap (R256). -/
def State.teTrapNow (s : State) (t cause : Nat) : State :=
  let pg := Pg.engine t
  let epc := s.teRd t Te.PC
  let s := (s.teWr t Te.CAUSE cause).teWr t Te.EPC epc
  let s := (s.count pg Te.TRAP_CNT).irq pg 17
  let s := s.logHw pg 0x20 (if cause = Trap.poison ∨ cause = Trap.imemUe then Sev.uncorrected else Sev.info)
    (cause + epc * 2 ^ 4 + s.teRd t Te.TRAP_ARG * 2 ^ 15)
  let s := s.setTe t { s.te t with wait := .none }
  if s.teRd t Te.TVEC_EN = 1 ∧ s.teRd t Te.IN_HANDLER = 0 then
    ((s.teWr t Te.IN_HANDLER 1).teWr t Te.PC (s.teRd t Te.TVEC)).teWr t Te.ESTATE Es.running
  else s.teWr t Te.ESTATE Es.trapped

/-! ### Decoding (R242, R243, R245) -/

/-- A run of bits as a mask. -/
def maskAt (lo w : Nat) : Nat := (2 ^ w - 1) * 2 ^ lo

namespace Ef
/-! Masks of the fields of Table 08.4. -/
def rd : Nat := maskAt 54 4
def rs : Nat := maskAt 50 4
def g : Nat := maskAt 48 2
def f : Nat := maskAt 46 2
def addr : Nat := maskAt 32 11
def imm : Nat := maskAt 0 32
def a : Nat := maskAt 54 4
def b : Nat := maskAt 50 4
def d : Nat := maskAt 46 4
def k : Nat := maskAt 45 1
def ua : Nat := maskAt 44 1
def ub : Nat := maskAt 43 1
def ud : Nat := maskAt 42 1
def w : Nat := maskAt 40 2
def sh : Nat := maskAt 35 5
def rnd : Nat := maskAt 34 1
def sreg : Nat := maskAt 30 4
end Ef

/-- The bits an instruction uses beside OP (Table 08.5, "Fields used"). -/
def teUsed (op : Nat) : Nat :=
  match op with
  | 0x02 => Ef.f + Ef.imm
  | 0x03 => Ef.rs + Ef.addr + Ef.imm
  | 0x04 => Ef.addr
  | 0x05 | 0x06 => Ef.rs + Ef.addr
  | 0x07 => Ef.rd + Ef.imm
  | 0x08 => Ef.rd + Ef.rs + Ef.imm
  | 0x09 => Ef.g + Ef.f + Ef.imm
  | 0x0A => Ef.g + Ef.f + Ef.rs
  | 0x0B => Ef.rd + Ef.g + Ef.f
  | 0x0C => Ef.g + Ef.imm
  | 0x0D => Ef.rd + Ef.g
  | 0x0E => Ef.f
  | 0x0F => Ef.imm
  | 0x10 | 0x11 | 0x12 => Ef.a + Ef.b + Ef.k + Ef.ua + Ef.ub
  | 0x13 => Ef.k
  | 0x14 => Ef.a + Ef.k + Ef.sh + Ef.ua
  | 0x15 => Ef.k + Ef.d + Ef.w + Ef.sh + Ef.rnd + Ef.ud
  | 0x16 | 0x17 | 0x18 | 0x19 => Ef.a + Ef.b + Ef.d + Ef.ua + Ef.ub + Ef.ud
  | 0x1A | 0x1B => Ef.a + Ef.d + Ef.ua + Ef.ud
  | 0x1C | 0x1D => Ef.k + Ef.d + Ef.ud
  | 0x1E => Ef.k + Ef.sreg
  | 0x1F => Ef.a
  | _ => 0

/-! Fields of an instruction word. -/
namespace Iw
def op (i : Nat) : Nat := bitsOf i 58 6
def a (i : Nat) : Nat := bitsOf i 54 4
def b (i : Nat) : Nat := bitsOf i 50 4
def d (i : Nat) : Nat := bitsOf i 46 4
def k (i : Nat) : Nat := bitsOf i 45 1
def ua (i : Nat) : Bool := bitOf i 44 = 1
def ub (i : Nat) : Bool := bitOf i 43 = 1
def ud (i : Nat) : Bool := bitOf i 42 = 1
def w (i : Nat) : Nat := bitsOf i 40 2
def sh (i : Nat) : Nat := bitsOf i 35 5
def rnd (i : Nat) : Bool := bitOf i 34 = 1
def sreg (i : Nat) : Nat := bitsOf i 30 4
def rd (i : Nat) : Nat := bitsOf i 54 4
def rs (i : Nat) : Nat := bitsOf i 50 4
def g (i : Nat) : Nat := bitsOf i 48 2
def f (i : Nat) : Nat := bitsOf i 46 2
def addr (i : Nat) : Nat := bitsOf i 32 11
def imm (i : Nat) : Nat := bitsOf i 0 32
end Iw

/-- The selectors an instruction reads, with their update bits. -/
def teSources (i : Nat) : List (Nat × Bool) :=
  match Iw.op i with
  | 0x10 | 0x11 | 0x12 | 0x16 | 0x17 | 0x18 | 0x19 => [(Iw.a i, Iw.ua i), (Iw.b i, Iw.ub i)]
  | 0x14 | 0x1A | 0x1B => [(Iw.a i, Iw.ua i)]
  | _ => []

/-- The destination selector, where the instruction has one. -/
def teDest (i : Nat) : Option Nat :=
  match Iw.op i with
  | 0x15 | 0x16 | 0x17 | 0x18 | 0x19 | 0x1A | 0x1B | 0x1C | 0x1D => some (Iw.d i)
  | _ => none

/-- The instruction at address pc is legal as it stands (R242, R243, R245, Table 08.9); what depends on the machine is
judged at issue. FIFO numbers 2 and 3 of PUSHCTL and RTAG, F of 2 and 3 of RTT, and a CLRP of no vector register are
reserved (log entry 32). -/
def teLegal (pc i : Nat) : Bool :=
  let op := Iw.op i
  decide (op < 0x20) && (i % 2 ^ 58 &&& teUsed op) = i % 2 ^ 58 &&
  (teSources i).all (fun x => x.1 ≠ 14) &&
  (match teSources i with
   | [(a, _), (b, _)] => !(a = b && (a = 12 || a = 13))
   | _ => true) &&
  (teDest i).elim true (fun d => decide (d < 14)) &&
  (match op with
   | 0x02 => !(Iw.f i = 3 && Iw.imm i % 256 = 0)
   | 0x03 => decide (pc < Iw.addr i)
   | 0x0C | 0x0D => decide (Iw.g i < 2)
   | 0x0E => decide (Iw.f i < 2)
   | 0x14 => decide (Iw.sh i ≤ 29)
   | 0x15 => Iw.w i ≠ 3
   | 0x1F => decide (Iw.a i < 8)
   | _ => true)

/-! ### Issue (R227, R234, R251, R256) -/

/-- The engine may issue: RUNNING, or WAITING at a stall; on, clocked, and not in a move. -/
def State.teIssues (s : State) (t : Nat) : Bool :=
  s.teCore t && !(s.te t).moving &&
    (s.estate t = Es.running ||
      (s.estate t = Es.waiting && (match (s.te t).wait with
        | .popIn _ => true
        | .pushOut _ => true
        | _ => false)))

/-- The instruction issues after a free number of cycles without issue (log entry 30): CYCLES and STALLS count. -/
def State.teClock (s : State) (t : Nat) : State :=
  let (n, s) := s.draw
  let s := s.teWr t Te.CYCLES (s.teRd t Te.CYCLES + n + 1)
  let s := s.teWr t Te.STALLS (s.teRd t Te.STALLS + n)
  (s.teWr t Te.ESTATE Es.running).setTe t { s.te t with wait := .none }

/-- The address after the instruction at pc: loops that end there count, the innermost first (R245). -/
def loopNext (pc : Nat) : List Loop → Nat × List Loop
  | [] => ((pc + 1) % 2048, [])
  | l :: ls =>
    if l.last = pc then
      if 1 < l.left then (l.first, { l with left := l.left - 1 } :: ls) else loopNext pc ls
    else ((pc + 1) % 2048, l :: ls)

/-- Go on after the instruction at pc. -/
def State.teAdvance (s : State) (t pc : Nat) : State :=
  let (n, ls) := loopNext pc (s.te t).loops
  (s.teWr t Te.PC n).setTe t { s.te t with loops := ls }

/-- A taken branch: every loop level whose body does not contain the target goes (R245). -/
def State.teJump (s : State) (t a : Nat) : State :=
  (s.teWr t Te.PC a).setTe t { s.te t with loops := (s.te t).loops.filter fun l => l.first ≤ a && a ≤ l.last }

/-- Words an instruction pushes to its destination. -/
def tePushes (i : Nat) : Nat := if Iw.op i = 0x15 ∧ Iw.w i ≠ 0 then 2 else 1

/-- The FIFO that stalls an instruction, if any (R251). -/
def State.teStall (s : State) (t i : Nat) : Option TeWait :=
  match (teSources i).find? fun x => (x.1 = 12 || x.1 = 13) && ((s.te t).fifo (x.1 - 12)).words.isEmpty with
  | some x => some (.popIn (x.1 - 12))
  | none =>
    match teDest i with
    | some d =>
      if (d = 12 ∨ d = 13) ∧ 32 < ((s.te t).fifo (d - 10)).words.length + tePushes i then some (.pushOut (d - 12))
      else none
    | none => none

/-- The engine issues its next instruction, which has opcode op: `run` answers the state after it, or the trap it meets.
Where the instruction at PC is another one, nothing happens (log entry 5). -/
def State.teIssue (s : State) (t op : Nat) (run : Nat → State → Nat ⊕ State) : State :=
  if !s.teIssues t then s
  else
    let pc := s.teRd t Te.PC
    match s.imRead t pc with
    | (none, s') => s'.teTrapNow t Trap.imemUe
    | (some i, s') =>
      if Iw.op i ≠ op then s
      else if !teLegal pc i then s'.teTrapNow t Trap.illegal
      else match s'.teStall t i with
        | some w => (s'.teWr t Te.ESTATE Es.waiting).setTe t { s'.te t with wait := w }
        | none =>
          match run i (s'.teClock t) with
          | .inl cause => s'.teTrapNow t cause
          | .inr s => s

/-- A control instruction that goes on at the next address. -/
def State.teControl (s : State) (t op : Nat) (f : Nat → State → State) : State :=
  s.teIssue t op fun i s => .inr ((f i s).teAdvance t (s.teRd t Te.PC))

/-! ### Vector operands (R240, R241, R243) -/

/-- Lanes of vector register v. -/
def State.vreg (s : State) (t v : Nat) : List Lane :=
  (mgets 0 (s.te t).v (32 * v) 32).map fun n => (signedOf 18 n, bitOf n 18 = 1)

def State.setVreg (s : State) (t v : Nat) (vs : List Lane) : State :=
  s.setTe t { s.te t with v := msets 0 (s.te t).v (32 * v) (vs.map fun x => fieldOf 18 x.1 + bit x.2 * 2 ^ 18) }

/-- Lanes of accumulator bank k. -/
def State.accs (s : State) (t k : Nat) : List Int := (mgets 0 (s.te t).acc (32 * k) 32).map (signedOf 48)

def State.setAccs (s : State) (t k : Nat) (vs : List Int) : State :=
  s.setTe t { s.te t with acc := msets 0 (s.te t).acc (32 * k) (vs.map (fieldOf 48)) }

/-- Lanes a source selector reads (R243). -/
def State.source (s : State) (t sel : Nat) : List Lane × State :=
  if sel < 8 then (s.vreg t sel, s)
  else if sel < 12 then s.dmLanes t (s.agAddr t (sel - 8)) 0 32
  else if sel < 14 then
    (match ((s.te t).fifo (sel - 12)).words with
     | [] => List.replicate 32 (0, false)
     | w :: _ => wordLanes w, s)
  else (List.replicate 32 (0, false), s)

/-- The sources of an instruction, in order. -/
def State.sources (s : State) (t : Nat) : List (Nat × Bool) → List (List Lane) × State
  | [] => ([], s)
  | x :: xs =>
    let (v, s) := s.source t x.1
    let (vs, s) := s.sources t xs
    (v :: vs, s)

/-- Store lanes to a destination selector whose row is `row` (R243). -/
def State.storeTo (s : State) (t d row : Nat) (vs : List Lane) : State :=
  if d < 8 then s.setVreg t d vs
  else if d < 12 then s.dmWrite t row vs
  else s.fifoPush t (d - 12) vs

/-- The generators an instruction updates, each once, with IDX after it (R241); none = AG_BAD. -/
def State.agUpdates (s : State) (t : Nat) : List (Nat × Bool) → Option (List (Nat × Nat))
  | [] => some []
  | (sel, u) :: xs =>
    if u && decide (8 ≤ sel) && decide (sel < 12) then
      match s.agNext t (sel - 8) (s.teRd t Te.AG_IDX (sel - 8)), s.agUpdates t xs with
      | some n, some ns => some ((sel - 8, n) :: ns)
      | _, _ => none
    else s.agUpdates t xs

/-- Write the updated generators. -/
def State.agTake (s : State) (t : Nat) (us : List (Nat × Nat)) : State :=
  s.each us fun u s => s.teWr t Te.AG_IDX u.2 u.1

/-- A vector instruction: its sources are read with the generators as they stand, its FIFOs are popped, `f` takes the
lanes and the row of its destination, and the named generators update once each (R241). `consumes`: a poisoned lane
traps (R255). -/
def State.teVector (s : State) (t op : Nat) (consumes : Bool) (f : Nat → List (List Lane) → Nat → State → State) : State :=
  s.teIssue t op fun i s =>
    let pc := s.teRd t Te.PC
    let dest := (teDest i).toList.map fun d => (d, Iw.ud i)
    match s.agUpdates t (teSources i ++ dest) with
    | none => .inl Trap.agBad
    | some us =>
      let row := s.agAddr t ((teDest i).getD 8 - 8)
      let (vs, s) := s.sources t (teSources i)
      if consumes && vs.any (fun v => v.any (·.2)) then .inr (s.teTrapNow t Trap.poison)
      else
        let s := s.each ((teSources i).filter fun x => x.1 = 12 || x.1 = 13) fun x s => s.fifoPop t (x.1 - 12)
        .inr (((f i vs row s).agTake t us).teAdvance t pc)

/-! ### Arithmetic (R229 to R233) -/

/-- The nearest value of a signed range of w bits. -/
def clampTo (w : Nat) (z : Int) : Int :=
  let top : Int := ((2 ^ (w - 1) : Nat) : Int)
  if top ≤ z then top - 1 else if z < -top then -top else z

/-- Lane-wise on two vectors. -/
def lanes2 (f : Int → Int → Int) (x y : List Lane) : List Int := List.zipWith (fun a b => f a.1 b.1) x y

/-- Write an accumulator bank with saturation (R230). -/
def State.accWrite (s : State) (t k : Nat) (zs : List Int) : State :=
  let pg := Pg.engine t
  let s := s.setAccs t k (zs.map (clampTo 48))
  if zs.any fun z => clampTo 48 z ≠ z then ((s.wr pg Te.ACC_SAT 1).count pg Te.ACC_SAT_CNT).irq pg 18 else s

/-- The first and second source of an instruction. -/
def src1 (vs : List (List Lane)) : List Lane := vs.getD 0 []
def src2 (vs : List (List Lane)) : List Lane := vs.getD 1 []

/-- e(a) of a 48-bit lane: how many of bits 46 down equal bit 47 before the first that differs. -/
def headroom (a : Int) : Nat :=
  let n := fieldOf 48 (if a < 0 then -a - 1 else a)
  47 - (if n = 0 then 0 else Nat.log2 n + 1)

/-- The store value of an accumulator lane (R231). -/
def staValue (a : Int) (sh : Nat) (rnd : Bool) : Int :=
  if sh = 0 then a else if rnd then (a + (2 ^ (sh - 1) : Nat)) / (2 ^ sh : Nat) else a / (2 ^ sh : Nat)

/-- Bits of W (Table 08.4). -/
def staWidth (w : Nat) : Nat := [18, 24, 32].getD w 18

/-- A lane-wise operation with 18-bit saturation (R233). -/
def State.teLanes (s : State) (t op : Nat) (f : Int → Int → Int) : State :=
  s.teVector t op true fun i vs row s =>
    s.storeTo t (Iw.d i) row ((lanes2 f (src1 vs) (src2 vs)).map fun z => (clampTo 18 z, false))

/-- A multiply-accumulate form: g combines the accumulator and the product. -/
def State.teProduct (s : State) (t op : Nat) (g : Int → Int → Int) : State :=
  s.teVector t op true fun i vs _ s =>
    let p := lanes2 (· * ·) (src1 vs) (src2 vs)
    s.accWrite t (Iw.k i) (List.zipWith g (s.accs t (Iw.k i)) p)

/-! ### Milestones on an engine (R91, R92, R254) -/

/-- TE_START and TE_HALT of a milestone: the logical engine is resolved at the moment of firing (R88). A halt is refused
while the engine is retired, off, or moving (R89, §08.8). -/
def State.engineAct (f : Firing) (s : State) : Bool × State :=
  match s.hostEngine f.target with
  | none => (false, s)
  | some t =>
    if f.action = 5 then if s.serves (En.engine t) && !(s.te t).moving then (true, s.teHaltNow t) else (false, s)
    else match s.startWhy t with
      | some why => (false, s.teStartRefused t why Ag.milestone true)
      | none => (true, s.teStart t (f.param % 2048))

/-- The milestones of this bucket with some actions on logical engine n act, in the order of the actions. -/
def State.engineFireOn (s : State) (n : Nat) (acts : List Nat) : State :=
  s.each (s.firesOn acts n) fun f s => s.fire f.entry f.action State.engineAct

/-- The milestones of this bucket that fall on the engine hosted by physical engine t come before a register request
(R92). -/
def State.engineFire (s : State) (t : Nat) (acts : List Nat) : State :=
  (s.logicalOf t).elim s fun n => s.engineFireOn n acts

/-! ### Commands: control instructions -/

/-- START_GO (R254): START_PC is written and a start waits for the first engine-clock edge that begins a bucket. -/
def State.startGo (s : State) (ag t pc : Nat) : State :=
  ((s.teWr t Te.START_PC pc).teWr t Te.START_PEND 1).setTe t { s.te t with startReq := some (ag, s.stamp) }

def execStartGo (ag : Agent) (te : Fin 104) (pc : BitVec 11) (s : State) : Host.Outcome State Fault Refusal :=
  .next (s.access ag (Pg.engine te) fun s => s.startGo ag te pc.toNat)

/-- HALT_GO (R254): issue stops from the next engine-clock edge. -/
def State.haltGo (s : State) (t : Nat) : State := s.setTe t { s.te t with haltReq := true }

def execHaltGo (ag : Agent) (te : Fin 104) (s : State) : Host.Outcome State Fault Refusal :=
  .next (s.access ag (Pg.engine te) fun s => s.haltGo te)

/-- A register start request on the first engine-clock edge that begins a bucket after the write (R253, R254). -/
def State.startApply (s : State) (t : Nat) : State :=
  match (s.te t).startReq with
  | none => s
  | some (ag, since) =>
    if !s.bucketSince since then s
    else
      let s := (s.teWr t Te.START_PEND 0).setTe t { s.te t with startReq := none }
      match s.startWhy t with
      | some why => s.teStartRefused t why ag false
      | none => s.teStart t (s.teRd t Te.START_PC)

/-- TE_START_APPLY (R253). -/
def execTeStartApply (te : Fin 104) (s : State) : Host.Outcome State Fault Refusal :=
  .next ((s.engineFire te [5, 4]).startApply te)

/-- TE_HALT_APPLY (R254): the engine-clock edge after a HALT_GO write. -/
def execTeHaltApply (te : Fin 104) (s : State) : Host.Outcome State Fault Refusal :=
  .next (
    let s := s.engineFire te [5, 4]
    if (s.te te).haltReq then (s.setTe te { s.te te with haltReq := false }).teHaltNow te else s)

/-- NOP. -/
def execTeNop (te : Fin 104) (s : State) : Host.Outcome State Fault Refusal :=
  .next (s.teControl te 0x00 fun _ s => s)

/-- HALT. -/
def execTeHalt (te : Fin 104) (s : State) : Host.Outcome State Fault Refusal :=
  .next (s.teControl te 0x01 fun _ s => s.teHaltNow te)

/-- WAIT (Table 08.5, R245). -/
def execTeWait (te : Fin 104) (s : State) : Host.Outcome State Fault Refusal :=
  .next (s.teIssue te 0x02 fun i s =>
    if Iw.f i = 1 ∧ s.turnLen ≤ Iw.imm i % 2 ^ 16 then .inl Trap.illegal
    else
      let s := s.teAdvance te (s.teRd te Te.PC)
      .inr ((s.teWr te Te.ESTATE Es.waiting).setTe te { s.te te with wait := .wait (Iw.f i) (Iw.imm i) s.time64 }))

/-- The end of a WAIT has come (Table 08.5): F = 0 a later bucket; F = 1 the named bucket; F = 2 the cycles, whose
passing is the command (log entry 5); F = 3 the bucket after a good word with the command. -/
def State.waitOver (s : State) (f imm since : Nat) : Bool :=
  match f with
  | 0 => since < s.time64
  | 1 => s.timed && since < s.time64 && s.bucket = imm % 2 ^ 16
  | 2 => true
  | _ => s.timed && since < s.time64 && s.tp.prevCmd = some (imm % 256)

/-- WAIT_END: the engine goes on. -/
def execWaitEnd (te : Fin 104) (s : State) : Host.Outcome State Fault Refusal :=
  .next (
    match (s.te te).wait with
    | .wait f imm since =>
      if s.estate te = Es.waiting ∧ s.teCore te ∧ !(s.te te).moving ∧ s.waitOver f imm since then
        (s.teWr te Te.ESTATE Es.running).setTe te { s.te te with wait := .none }
      else s
    | _ => s)

/-- LOOP (R245). -/
def execTeLoop (te : Fin 104) (s : State) : Host.Outcome State Fault Refusal :=
  .next (s.teIssue te 0x03 fun i s =>
    let pc := s.teRd te Te.PC
    let n := if Iw.imm i % 2 ^ 16 = 0 then s.teRd te Te.SREG (Iw.rs i) % 2 ^ 16 else Iw.imm i % 2 ^ 16
    if n = 0 then .inr (s.teWr te Te.PC (Iw.addr i + 1))
    else if 4 ≤ (s.te te).loops.length then .inl Trap.loopDepth
    else
      .inr ((s.teWr te Te.PC (pc + 1)).setTe te
        { s.te te with loops := ⟨pc + 1, Iw.addr i, n⟩ :: (s.te te).loops }))

/-- JMP. -/
def execTeJmp (te : Fin 104) (s : State) : Host.Outcome State Fault Refusal :=
  .next (s.teIssue te 0x04 fun i s => .inr (s.teJump te (Iw.addr i)))

/-- A branch on S[RS]. -/
def State.teBranch (s : State) (t op : Nat) (taken : Nat → Bool) : State :=
  s.teIssue t op fun i s =>
    .inr (if taken (s.teRd t Te.SREG (Iw.rs i)) then s.teJump t (Iw.addr i) else s.teAdvance t (s.teRd t Te.PC))

/-- BRZ. -/
def execTeBrz (te : Fin 104) (s : State) : Host.Outcome State Fault Refusal :=
  .next (s.teBranch te 0x05 fun v => v = 0)

/-- BRNZ. -/
def execTeBrnz (te : Fin 104) (s : State) : Host.Outcome State Fault Refusal :=
  .next (s.teBranch te 0x06 fun v => v ≠ 0)

/-- SLI. -/
def execTeSli (te : Fin 104) (s : State) : Host.Outcome State Fault Refusal :=
  .next (s.teControl te 0x07 fun i s => s.teWr te Te.SREG (Iw.imm i) (Iw.rd i))

/-- SADD. -/
def execTeSadd (te : Fin 104) (s : State) : Host.Outcome State Fault Refusal :=
  .next (s.teControl te 0x08 fun i s =>
    s.teWr te Te.SREG (s.teRd te Te.SREG (Iw.rs i) + Iw.imm i) (Iw.rd i))

/-- Field F of a generator. -/
def agField (f : Nat) : Row := [Te.AG_BASE, Te.AG_LEN, Te.AG_IDX, Te.AG_STRIDE].getD f Te.AG_BASE

/-- SETAG. -/
def execTeSetag (te : Fin 104) (s : State) : Host.Outcome State Fault Refusal :=
  .next (s.teControl te 0x09 fun i s => s.teWr te (agField (Iw.f i)) (Iw.imm i) (Iw.g i))

/-- SETAGR. -/
def execTeSetagr (te : Fin 104) (s : State) : Host.Outcome State Fault Refusal :=
  .next (s.teControl te 0x0A fun i s => s.teWr te (agField (Iw.f i)) (s.teRd te Te.SREG (Iw.rs i)) (Iw.g i))

/-- GETAG. -/
def execTeGetag (te : Fin 104) (s : State) : Host.Outcome State Fault Refusal :=
  .next (s.teControl te 0x0B fun i s =>
    let v := s.teRd te (agField (Iw.f i)) (Iw.g i)
    s.teWr te Te.SREG (if Iw.f i = 3 then fieldOf 32 (signedOf 12 v) else v) (Iw.rd i))

/-- PUSHCTL. A tag above 72 has no meaning in Table 08.5: the word carries a free tag of 0 to 72 (log entry 33). -/
def execTePushctl (te : Fin 104) (s : State) : Host.Outcome State Fault Refusal :=
  .next (s.teControl te 0x0C fun i s =>
    let (n, s) := if 72 < Iw.imm i % 128 then s.draw else (0, s)
    let tag := if 72 < Iw.imm i % 128 then n % 73 else Iw.imm i % 128
    s.setTe te { s.te te with ctl := mset none (s.te te).ctl (Iw.g i) (some (tag + bitOf (Iw.imm i) 7 * 128)) })

/-- RTAG. -/
def execTeRtag (te : Fin 104) (s : State) : Host.Outcome State Fault Refusal :=
  .next (s.teControl te 0x0D fun i s => s.teWr te Te.SREG (mget 0 (s.te te).popped (Iw.g i)) (Iw.rd i))

/-- RTT (R256). With F = 1 the engine goes on as after the instruction at EPC, loops counted (log entry 32). -/
def execTeRtt (te : Fin 104) (s : State) : Host.Outcome State Fault Refusal :=
  .next (s.teIssue te 0x0E fun i s =>
    if s.teRd te Te.IN_HANDLER = 0 then .inl Trap.badRtt
    else
      let s := s.teWr te Te.IN_HANDLER 0
      let epc := s.teRd te Te.EPC
      .inr (if Iw.f i = 0 then s.teWr te Te.PC epc else s.teAdvance te epc))

/-- TRAP: TRAP_ARG takes IMM and the engine traps with cause SOFT. -/
def execTeTrap (te : Fin 104) (s : State) : Host.Outcome State Fault Refusal :=
  .next (s.teIssue te 0x0F fun i s => .inr ((s.teWr te Te.TRAP_ARG (Iw.imm i)).teTrapNow te Trap.soft))

/-! ### Commands: vector instructions -/

/-- MAC. -/
def execTeMac (te : Fin 104) (s : State) : Host.Outcome State Fault Refusal := .next (s.teProduct te 0x10 fun a p => a + p)

/-- MSU. -/
def execTeMsu (te : Fin 104) (s : State) : Host.Outcome State Fault Refusal := .next (s.teProduct te 0x11 fun a p => a - p)

/-- MUL. -/
def execTeMul (te : Fin 104) (s : State) : Host.Outcome State Fault Refusal := .next (s.teProduct te 0x12 fun _ p => p)

/-- CLRA. -/
def execTeClra (te : Fin 104) (s : State) : Host.Outcome State Fault Refusal :=
  .next (s.teVector te 0x13 false fun i _ _ s => s.setAccs te (Iw.k i) (List.replicate 32 0))

/-- LDA. -/
def execTeLda (te : Fin 104) (s : State) : Host.Outcome State Fault Refusal :=
  .next (s.teVector te 0x14 true fun i vs _ s =>
    s.accWrite te (Iw.k i) ((src1 vs).map fun x => x.1 * (2 ^ Iw.sh i : Nat)))

/-- The store of STA: low word, then for W = 24 or 32 the high word, to V(d XOR 1), to the row after one update, or to
the same FIFO (R231, R232, R241, §08.5). -/
def State.staStore (s : State) (t i row hiRow : Nat) : State :=
  let pg := Pg.engine t
  let w := staWidth (Iw.w i)
  let raw := (s.accs t (Iw.k i)).map fun a => staValue a (Iw.sh i) (Iw.rnd i)
  let vs := raw.map (clampTo w)
  let s := s.storeTo t (Iw.d i) row (vs.map fun v => (signedOf 18 (fieldOf 18 v), false))
  let s := s.doIf (Iw.w i ≠ 0) fun s =>
    s.storeTo t (if Iw.d i < 8 then Iw.d i ^^^ 1 else Iw.d i) hiRow (vs.map fun v => (v / 2 ^ 18, false))
  if raw ≠ vs then ((s.wr pg Te.ST_SAT 1).count pg Te.ST_SAT_CNT).irq pg 18 else s

/-- STA (R231, R241): a wide store to memory uses its generator's next address, and with UD = 1 leaves it two updates
on. -/
def execTeSta (te : Fin 104) (s : State) : Host.Outcome State Fault Refusal :=
  .next (s.teIssue te 0x15 fun i s =>
    let pc := s.teRd te Te.PC
    let d := Iw.d i
    let g := d - 8
    let mem : Bool := decide (8 ≤ d) && decide (d < 12)
    let row := s.agAddr te g
    let idx := s.teRd te Te.AG_IDX g
    if !mem then .inr ((s.staStore te i 0 0).teAdvance te pc)
    else if Iw.w i = 0 ∧ !Iw.ud i then .inr ((s.staStore te i row 0).teAdvance te pc)
    else match s.agNext te g idx with
      | none => .inl Trap.agBad
      | some i1 =>
        let hi := (s.teRd te Te.AG_BASE g + i1) % 2048
        if Iw.w i = 0 then .inr (((s.staStore te i row 0).agTake te [(g, i1)]).teAdvance te pc)
        else if !Iw.ud i then .inr ((s.staStore te i row hi).teAdvance te pc)
        else match s.agNext te g i1 with
          | none => .inl Trap.agBad
          | some i2 => .inr (((s.staStore te i row hi).agTake te [(g, i2)]).teAdvance te pc))

/-- ADDV. -/
def execTeAddv (te : Fin 104) (s : State) : Host.Outcome State Fault Refusal := .next (s.teLanes te 0x16 fun a b => a + b)

/-- SUBV. -/
def execTeSubv (te : Fin 104) (s : State) : Host.Outcome State Fault Refusal := .next (s.teLanes te 0x17 fun a b => a - b)

/-- MAXV. -/
def execTeMaxv (te : Fin 104) (s : State) : Host.Outcome State Fault Refusal := .next (s.teLanes te 0x18 max)

/-- MINV. -/
def execTeMinv (te : Fin 104) (s : State) : Host.Outcome State Fault Refusal := .next (s.teLanes te 0x19 min)

/-- ABSV. -/
def execTeAbsv (te : Fin 104) (s : State) : Host.Outcome State Fault Refusal :=
  .next (s.teVector te 0x1A true fun i vs row s =>
    s.storeTo te (Iw.d i) row ((src1 vs).map fun x => (clampTo 18 (x.1.natAbs : Int), false)))

/-- MOV: poison moves with the data. -/
def execTeMov (te : Fin 104) (s : State) : Host.Outcome State Fault Refusal :=
  .next (s.teVector te 0x1B false fun i vs row s => s.storeTo te (Iw.d i) row (src1 vs))

/-- EXPA. -/
def execTeExpa (te : Fin 104) (s : State) : Host.Outcome State Fault Refusal :=
  .next (s.teVector te 0x1C false fun i _ row s =>
    s.storeTo te (Iw.d i) row ((s.accs te (Iw.k i)).map fun a => ((headroom a : Int), false)))

/-- NORMA. -/
def execTeNorma (te : Fin 104) (s : State) : Host.Outcome State Fault Refusal :=
  .next (s.teVector te 0x1D false fun i _ row s =>
    let zs := s.accs te (Iw.k i)
    (s.setAccs te (Iw.k i) (zs.map fun a => a * (2 ^ headroom a : Nat))).storeTo te (Iw.d i) row
      (zs.map fun a => ((headroom a : Int), false)))

/-- BFPA. -/
def execTeBfpa (te : Fin 104) (s : State) : Host.Outcome State Fault Refusal :=
  .next (s.teVector te 0x1E false fun i _ _ s =>
    let zs := s.accs te (Iw.k i)
    let e := zs.foldl (fun m a => min m (headroom a)) 47
    (s.setAccs te (Iw.k i) (zs.map fun a => a * (2 ^ e : Nat))).teWr te Te.SREG e (Iw.sreg i))

/-- CLRP. -/
def execTeClrp (te : Fin 104) (s : State) : Host.Outcome State Fault Refusal :=
  .next (s.teVector te 0x1F false fun i _ _ s =>
    s.setVreg te (Iw.a i) ((s.vreg te (Iw.a i)).map fun x => (x.1, false)))

/-- ILLEGAL_INSTRUCTION (R242): the instruction at PC is illegal as it stands. -/
def execIllegalInstruction (te : Fin 104) (s : State) : Host.Outcome State Fault Refusal :=
  .next (
    if !s.teIssues te then s
    else
      match s.imRead te (s.teRd te Te.PC) with
      | (none, s') => s'.teTrapNow te Trap.imemUe
      | (some i, s') => if teLegal (s.teRd te Te.PC) i then s else s'.teTrapNow te Trap.illegal)

/-! ### Commands: FIFOs -/

/-- The entry of region i's live context that attaches a FIFO of logical engine n; not one refused (R152). -/
def State.fifoAttached (s : State) (i type n f : Nat) : Bool :=
  s.regionRuns i && (s.rg i).live && (List.range 16).any fun k =>
    let e := 16 * s.liveCtx i + k
    s.rgRd i Rgn.TYPE e = type && s.rgRd i Rgn.INST e = n + 128 * f && s.rgRd i Rgn.REFUSED e = 0

/-- The fabric's wires of a TE_IN that region i attaches to FIFO f of logical engine n, at a region-clock edge (R250). -/
def State.fifoWrite (s : State) (i n f data : Nat) (wr last poison : Bool) : State :=
  if !s.fifoAttached i 3 n f then s else (s.hostEngine n).elim s fun t => s.fifoIn t f data wr last poison

/-- RD of a TE_OUT that region i attaches, at a region-clock edge (R250). -/
def State.fifoRead (s : State) (i n f : Nat) : State :=
  if !s.fifoAttached i 4 n f then s else (s.hostEngine n).elim s fun t => s.fifoOut t (2 + f)

/-- FIFO_WRITE (R250). -/
def execFifoWrite (region : Fin 40) (lte : Fin 96) (f : Fin 2) (data : Word) (wr last poison : Bool) (s : State) :
    Host.Outcome State Fault Refusal :=
  .next (s.fifoWrite region lte f data.toNat wr last poison)

/-- FIFO_READ (R250). -/
def execFifoRead (region : Fin 40) (lte : Fin 96) (f : Fin 2) (s : State) : Host.Outcome State Fault Refusal :=
  .next (s.fifoRead region lte f)

/-- FIFO_FLUSH (R252). -/
def execFifoFlush (ag : Agent) (te : Fin 104) (mask : BitVec 4) (s : State) : Host.Outcome State Fault Refusal :=
  .next (s.access ag (Pg.engine te) fun s =>
    s.each ((List.range 4).filter fun f => bitOf mask.toNat f = 1) fun f s => s.fifoFlush te f)

/-- FIFO_STALL_TIMEOUT (R251): the engine has stalled on one FIFO for its limit, and neither word nor room came. -/
def execFifoStallTimeout (te : Fin 104) (s : State) : Host.Outcome State Fault Refusal :=
  .next (
    if !(s.teCore te && s.estate te = Es.waiting) then s
    else match (s.te te).wait with
      | .popIn f =>
        if s.teRd te Te.IN_TMO ≠ 0 ∧ ((s.te te).fifo f).words.isEmpty then s.teTrapNow te Trap.inTmo else s
      | .pushOut f =>
        let i := (wordDecode (mget {} s.im (imKey te (s.teRd te Te.PC)))).2
        if s.teRd te Te.OUT_TMO ≠ 0 ∧ 32 < ((s.te te).fifo (2 + f)).words.length + tePushes i
        then s.teTrapNow te Trap.outTmo else s
      | _ => s)

/-! ### Commands: maintenance and windows -/

/-- A maintenance slot: the scrub walk reads one row, spare rows included (R234, R236). Write-back and window accesses
take their slots with the access itself. -/
def State.teSlot (s : State) (t : Nat) : State :=
  if !s.teCore t || s.teRd t Te.SCRUB_EN = 0 then s
  else
    let row := (s.te t).scrub
    let s := s.doIf (row < 2048) fun s => (s.dmLanes t row 0 32).2
    s.setTe t { s.te t with scrub := (row + 1) % 2064 }

/-- ENGINE_MAINTENANCE_SLOT (R234). -/
def execEngineMaintenanceSlot (te : Fin 104) (s : State) : Host.Outcome State Fault Refusal := .next (s.teSlot te)

/-- FORCED_SLOT (R235): maintenance with work waiting forces a slot, be it a write-back, a window access or the walk. -/
def execForcedSlot (te : Fin 104) (s : State) : Host.Outcome State Fault Refusal :=
  .next (if s.teCore te then (s.count (Pg.engine te) Te.FORCED_CNT).teSlot te else s)

/-- First byte of the windows of engine t (R239). -/
def teWindow (t : Nat) : Nat := 0x02000000 + t * 0x80000

/-- A read through the data window (R239): the lane in [30:0], its poison in [31]. -/
def State.dmWindowRead (s : State) (ag t row lane : Nat) : State :=
  let (x, s) := s.dmLane t row lane
  s.answer ag ((teWindow t + 128 * row) / 4096) (if x.2 then 2 ^ 31 else fieldOf 31 x.1) x.2

/-- DATA_WINDOW_ACCESS (R239). -/
def execDataWindowAccess (ag : Agent) (te : Fin 104) (row : Fin 2048) (lane : Fin 32) (wr : Bool) (v : Word) (s : State) :
    Host.Outcome State Fault Refusal :=
  .next (s.access ag (Pg.engine te)
    (fun s => if wr then s.dmWindowWrite te row lane v.toNat else s.dmWindowRead ag te row lane)
    ((teWindow te + 128 * row) / 4096))

/-- INSTRUCTION_WINDOW_WRITE (R239). -/
def execInstructionWindowWrite (ag : Agent) (te : Fin 104) (word : Fin 2048) (high : Bool) (v : Word) (s : State) :
    Host.Outcome State Fault Refusal :=
  .next (s.access ag (Pg.engine te) (fun s => s.imWindowWrite te word high v.toNat)
    ((teWindow te + 0x40000 + 8 * word) / 4096))

/-- IMEM_SCRUB_READ (R236): the maintenance port reads the next instruction word, spare words included. -/
def execImemScrubRead (te : Fin 104) (s : State) : Host.Outcome State Fault Refusal :=
  .next (
    if !s.teCore te || s.teRd te Te.SCRUB_EN = 0 then s
    else
      let a := (s.te te).imScrub
      let s := s.doIf (a < 2048) fun s => (s.imRead te a).2
      s.setTe te { s.te te with imScrub := (a + 1) % 2064 })

/-! ### Sparing (R257, R258) -/

/-- A confirmed fault: HLP stops issue and sets FAILED (R257). -/
def State.teFail (s : State) (t : Nat) : State :=
  if s.estate t = Es.failed then s
  else
    let e := s.estate t
    (s.teWr t Te.ESTATE Es.failed).setTe t { s.te t with held := e }

/-- Both memories zeroed with correct check bits, IDLE, RELOAD_NEEDED (R258). -/
def State.teWipe (s : State) (t : Nat) : State :=
  let s := { s with dm := mclear s.dm (dmKey t 0 0) 65536, im := mclear s.im (imKey t 0) 2048 }
  ((s.teWr t Te.ESTATE Es.idle).teWr t Te.RELOAD_NEEDED 1).setTe t { s.te t with wait := .none }

/-- The row's spare after position p of engine t, as a physical engine (§01.1). -/
def State.rowSpare (s : State) (t : Nat) : Option Nat :=
  (List.range 104).find? fun q => q / 13 = t / 13 && decide (t < q) && s.blk (En.engine q) = St.spare

/-- LOGICAL of engine t in the Waybook, from which its page's field follows: 0xFFFF where it hosts none (Table 02.5). -/
def State.setLogical (s : State) (t n : Nat) : State := s.setWb (En.engine t) Wbe.LOGICAL (if n < 96 then n else 0xFFFF)

/-- The page registers that belong to an engine's state and move with it (log entry 34): control, ESTATE and PC, limits,
FIFO control and levels, TRAP_ARG, CYCLES, STALLS, generators and scalars. -/
def State.copyTeRegs (s : State) (t u : Nat) : State :=
  let base (x : Nat) := Pg.engine x * 32768
  let run (s : State) (r : Nat × Nat) : State :=
    { s with regs := mcopy s.regs s.regs (base t + r.1 * 8) (base u + r.1 * 8) (r.2 * 8) }
  let s := s.each [(0x048, 0x14), (0x07C, 0x104)] fun r s => run s r
  s.teWr u Te.TRAP_ARG (s.teRd t Te.TRAP_ARG)

/-- The complete state of engine t goes to engine u (R257 step 2). -/
def State.copyTe (s : State) (t u : Nat) : State :=
  let s := (s.copyTeRegs t u).setTe u { s.te t with scrub := (s.te u).scrub, imScrub := (s.te u).imScrub }
  let s := s.teWr u Te.RELOAD_NEEDED (s.teRd t Te.RELOAD_NEEDED)
  { s with dm := mcopy s.dm s.dm (dmKey t 0 0) (dmKey u 0 0) 65536
           im := mcopy s.im s.im (imKey t 0) (imKey u 0) 2048 }

/-- FIFO claims follow a logical engine to its new host (R152). -/
def State.moveClaims (s : State) (t u : Nat) : State :=
  s.each (List.range 4) fun f s =>
    let i := Reg.fifo (4 * t + f)
    (s.setClaim (Reg.fifo (4 * u + f)) (s.claimAgent i) (s.claimFeature i) (s.claimed i)).unclaim i

/-- ENGINE_MOVE (R257): at the first bucket of the lay-by, or at the turn boundary of a turn that has none, HLP halts the
row's engines between the failed one and the spare and the copy begins. Without a spare the logical engine loses its host. -/
def execEngineMove (te : Fin 104) (intact : Bool) (s : State) : Host.Outcome State Fault Refusal :=
  .next (
    let e := En.engine te
    if !s.quietPoint || s.estate te ≠ Es.failed || s.blk e = St.retired || (s.te te).moving then s
    else if s.blk e = St.spare then s.wbRetire [⟨e, St.retired, 0xFFFF, 0x27⟩]
    else match s.rowSpare te with
      | none => s.wbRetire [⟨e, St.retired, 0xFFFF, 0x27⟩] fun s => s.setLogical te 0xFFFF
      | some q =>
        s.each ((List.range 104).filter fun t => te.val ≤ t && t ≤ q) fun t s =>
          s.setTe t { s.te t with moving := true, intact := intact })

/-- The shift of the row from the engine before the spare down to the failed one. -/
def State.shiftRow (s : State) (p : Nat) (intact : Bool) : Nat → State
  | 0 => s
  | n + 1 =>
    let t := p + n
    let u := t + 1
    let l := s.wb (En.engine t) Wbe.LOGICAL
    let carried : Bool := t ≠ p || intact
    let s := s.copyTe t u
    let s := if t ≠ p then s
      else if intact then s.teWr u Te.ESTATE (s.te t).held
      else s.teWipe u
    let s := ((s.setTe u { s.te u with moving := false }).setLogical u l).moveClaims t u
    (s.logHw (Pg.engine u) 0x27 Sev.corrected (l % 2 ^ 7 + t * 2 ^ 7 + u * 2 ^ 14 + bit carried * 2 ^ 21)).shiftRow p intact n

/-- ENGINE_MOVED (R257 steps 2 to 6): the copy is over. -/
def execEngineMoved (te : Fin 104) (s : State) : Host.Outcome State Fault Refusal :=
  .next (
    if s.estate te ≠ Es.failed || !(s.te te).moving then s
    else match s.rowSpare te with
      | none => s
      | some q => s.simultaneous fun s =>
        let s := s.shiftRow te (s.te te).intact (q - te.val)
        let s := ((s.setLogical te 0xFFFF).setTe te { s.te te with moving := false }).irq Pg.walker 23
        s.wbRetire [⟨En.engine te, St.retired, En.engine q, 0x27⟩, ⟨En.engine q, St.inUse, En.engine te, 0x27⟩])

end Sys2Proof.Machine
end

