-- ==== Sys2Proof/Machine/Crypto.lean ====
section
/-! DEFINITION. Machine/Crypto.lean: the algorithms the manual names and does not print: SHA-256, HMAC-SHA-256, AES-256,
GCM and the AES key wrap of RFC 3394. PRESUMED from their published standards (log entry 24). -/

namespace Sys2Proof.Machine

/-! ### Bytes and words -/

/-- Bytes of a word, least significant first. -/
def leBytes (w : Nat) : List Nat := [w % 256, bitsOf w 8 8, bitsOf w 16 8, bitsOf w 24 8]

/-- Big-endian number of a list of bytes. -/
def beNat (bs : List Nat) : Nat := bs.foldl (fun n b => n * 256 + b) 0

/-- n bytes of a number, most significant first. -/
def beBytes (n v : Nat) : List Nat := (List.range n).map fun i => bitsOf v (8 * (n - 1 - i)) 8

/-- Cut a list into runs of k, with at most `fuel` runs. -/
def chunks {α : Type} (k : Nat) : Nat → List α → List (List α)
  | 0, _ => []
  | _ + 1, [] => []
  | f + 1, xs => xs.take k :: chunks k f (xs.drop k)

def m32 (n : Nat) : Nat := n % 2 ^ 32
def not32 (n : Nat) : Nat := n ^^^ 0xFFFFFFFF
def ror32 (n k : Nat) : Nat := (n >>> k) ||| m32 (n <<< (32 - k))

/-! ### SHA-256 -/

def shaK : List Nat :=
  [0x428a2f98, 0x71374491, 0xb5c0fbcf, 0xe9b5dba5, 0x3956c25b, 0x59f111f1, 0x923f82a4, 0xab1c5ed5,
   0xd807aa98, 0x12835b01, 0x243185be, 0x550c7dc3, 0x72be5d74, 0x80deb1fe, 0x9bdc06a7, 0xc19bf174] ++
  [0xe49b69c1, 0xefbe4786, 0x0fc19dc6, 0x240ca1cc, 0x2de92c6f, 0x4a7484aa, 0x5cb0a9dc, 0x76f988da,
   0x983e5152, 0xa831c66d, 0xb00327c8, 0xbf597fc7, 0xc6e00bf3, 0xd5a79147, 0x06ca6351, 0x14292967] ++
  [0x27b70a85, 0x2e1b2138, 0x4d2c6dfc, 0x53380d13, 0x650a7354, 0x766a0abb, 0x81c2c92e, 0x92722c85,
   0xa2bfe8a1, 0xa81a664b, 0xc24b8b70, 0xc76c51a3, 0xd192e819, 0xd6990624, 0xf40e3585, 0x106aa070] ++
  [0x19a4c116, 0x1e376c08, 0x2748774c, 0x34b0bcb5, 0x391c0cb3, 0x4ed8aa4a, 0x5b9cca4f, 0x682e6ff3,
   0x748f82ee, 0x78a5636f, 0x84c87814, 0x8cc70208, 0x90befffa, 0xa4506ceb, 0xbef9a3f7, 0xc67178f2]

def shaInit : List Nat :=
  [0x6a09e667, 0xbb67ae85, 0x3c6ef372, 0xa54ff53a, 0x510e527f, 0x9b05688c, 0x1f83d9ab, 0x5be0cd19]

/-- One word of the message schedule from the last sixteen, newest first. -/
def shaNext (w : List Nat) : Nat :=
  let a := w.getD 1 0; let b := w.getD 6 0; let c := w.getD 14 0; let d := w.getD 15 0
  m32 ((ror32 a 17 ^^^ ror32 a 19 ^^^ (a >>> 10)) + b + (ror32 c 7 ^^^ ror32 c 18 ^^^ (c >>> 3)) + d)

/-- One round on the eight working variables. -/
def shaRound (h : List Nat) (k w : Nat) : List Nat :=
  match h with
  | [a, b, c, d, e, f, g, x] =>
    let t1 := x + (ror32 e 6 ^^^ ror32 e 11 ^^^ ror32 e 25) + ((e &&& f) ^^^ (not32 e &&& g)) + k + w
    let t2 := (ror32 a 2 ^^^ ror32 a 13 ^^^ ror32 a 22) + ((a &&& b) ^^^ (a &&& c) ^^^ (b &&& c))
    [m32 (t1 + t2), a, b, c, m32 (d + t1), e, f, g]
  | _ => h

/-- The compression of one block of sixteen words. -/
def shaBlock (h : List Nat) (block : List Nat) : List Nat :=
  let (out, _) := shaK.foldl (fun (p : List Nat × (List Nat × List Nat)) k =>
    match p.2.1 with
    | w :: rest => (shaRound p.1 k w, (rest, w :: p.2.2))
    | [] => let w := shaNext p.2.2; (shaRound p.1 k w, ([], w :: p.2.2.take 15))) (h, (block, []))
  (h.zip out).map fun p => m32 (p.1 + p.2)

/-- SHA-256 of a list of bytes, as 32 bytes. -/
def sha256 (msg : List Nat) : List Nat :=
  let n := msg.length
  let pad := (119 - n % 64) % 64
  let full := msg ++ [0x80] ++ List.replicate pad 0 ++ beBytes 8 (8 * n)
  let words := (chunks 4 full.length full).map beNat
  let h := (chunks 16 full.length words).foldl shaBlock shaInit
  h.flatMap (beBytes 4)

/-- HMAC-SHA-256 with a 32-byte key. -/
def hmacSha256 (key msg : List Nat) : List Nat :=
  let k := key ++ List.replicate (64 - key.length) 0
  let outer := k.map (· ^^^ 0x5c)
  sha256 (outer ++ sha256 (k.map (· ^^^ 0x36) ++ msg))

/-! ### AES-256 -/

/-- Multiplication by x in GF(2^8). -/
def xtime (b : Nat) : Nat := if b < 128 then 2 * b else (2 * b - 256) ^^^ 0x1b

def gmul (a b : Nat) : Nat :=
  ((List.range 8).foldl (fun (p : Nat × Nat) i => (if bitOf b i = 1 then p.1 ^^^ p.2 else p.1, xtime p.2)) (0, a)).1

/-- The inverse in GF(2^8): the 254th power. -/
def ginv (a : Nat) : Nat :=
  let sq (x : Nat) := gmul x x
  let a2 := sq a; let a4 := sq a2; let a8 := sq a4; let a16 := sq a8; let a32 := sq a16; let a64 := sq a32
  gmul a2 (gmul a4 (gmul a8 (gmul a16 (gmul a32 (gmul a64 (sq a64))))))

def rotl8 (b k : Nat) : Nat := ((b <<< k) ||| (b >>> (8 - k))) % 256

def sbox (a : Nat) : Nat := let b := ginv a; b ^^^ rotl8 b 1 ^^^ rotl8 b 2 ^^^ rotl8 b 3 ^^^ rotl8 b 4 ^^^ 0x63
def invSbox (a : Nat) : Nat := ginv (rotl8 a 1 ^^^ rotl8 a 3 ^^^ rotl8 a 6 ^^^ 0x05)

/-- Words of the key schedule, newest first. -/
def aesSchedule (key : List Nat) : List (List Nat) :=
  let start := (chunks 4 8 key).reverse
  ((List.range 52).foldl (fun (p : List (List Nat) × Nat) i =>
    let t := p.1.headD []
    let back := p.1.getD 7 []
    let sub := t.map sbox
    let (u, rc) :=
      if i % 8 = 0 then
        match sub.drop 1 ++ sub.take 1 with
        | x :: xs => ((x ^^^ p.2) :: xs, xtime p.2)
        | [] => ([], p.2)
      else if i % 8 = 4 then (sub, p.2) else (t, p.2)
    (List.zipWith (· ^^^ ·) back u :: p.1, rc)) (start, 1)).1

/-- The fifteen round keys of 16 bytes. -/
def aesRoundKeys (key : List Nat) : List (List Nat) := chunks 16 15 (aesSchedule key).reverse.flatten

/-- Row shift of a state kept as 16 bytes column by column: byte i comes from place f i. -/
def permute (f : Nat → Nat) (st : List Nat) : List Nat := (List.range 16).map fun i => st.getD (f i) 0

def mixWith (m : List Nat) (st : List Nat) : List Nat :=
  (List.range 16).map fun i =>
    (List.range 4).foldl (fun acc j => acc ^^^ gmul (st.getD (i / 4 * 4 + j) 0) (m.getD ((j + 4 - i % 4) % 4) 0)) 0

def addKey (k st : List Nat) : List Nat := List.zipWith (· ^^^ ·) st k

/-- AES-256 encryption of one block under its round keys. -/
def aesEncryptWith (rks : List (List Nat)) (block : List Nat) : List Nat :=
  let shift := permute fun i => (i + 4 * (i % 4)) % 16
  let st := addKey (rks.getD 0 []) block
  let st := (List.range 13).foldl (fun st r =>
    addKey (rks.getD (r + 1) []) (mixWith [2, 3, 1, 1] (shift (st.map sbox)))) st
  addKey (rks.getD 14 []) (shift (st.map sbox))

/-- AES-256 decryption of one block under its round keys. -/
def aesDecryptWith (rks : List (List Nat)) (block : List Nat) : List Nat :=
  let shift := permute fun i => (i + 16 - 4 * (i % 4)) % 16
  let st := addKey (rks.getD 14 []) block
  let st := (List.range 13).foldl (fun st r =>
    mixWith [14, 11, 13, 9] (addKey (rks.getD (13 - r) []) ((shift st).map invSbox))) st
  addKey (rks.getD 0 []) ((shift st).map invSbox)

def aesEncrypt (key block : List Nat) : List Nat := aesEncryptWith (aesRoundKeys key) block

/-! ### GCM -/

/-- Product in GF(2^128) as GCM numbers it: the first bit of a block is the coefficient of 1. -/
def ghashMul (x h : Nat) : Nat :=
  ((List.range 128).foldl (fun (p : Nat × Nat) i =>
    (if bitOf x (127 - i) = 1 then p.1 ^^^ p.2 else p.1,
     if p.2 % 2 = 1 then (p.2 / 2) ^^^ (0xe1 <<< 120) else p.2 / 2)) (0, h)).1

/-- GHASH of 16-byte blocks, from value y. -/
def ghash (h y : Nat) (bytes : List Nat) : Nat :=
  (chunks 16 bytes.length bytes).foldl (fun y b => ghashMul (y ^^^ beNat (b ++ List.replicate (16 - b.length) 0)) h) y

/-- Keystream block n of a 12-byte IV; block 1 masks the tag, the text begins at block 2. -/
def gcmStream (key iv : List Nat) (n : Nat) : List Nat := aesEncrypt key (iv ++ beBytes 4 n)

/-- The tag over additional data and ciphertext. -/
def gcmTag (key iv aad cipher : List Nat) : List Nat :=
  let h := beNat (aesEncrypt key (List.replicate 16 0))
  let y := ghash h (ghash h 0 aad) cipher
  let y := ghash h y (beBytes 8 (8 * aad.length) ++ beBytes 8 (8 * cipher.length))
  List.zipWith (· ^^^ ·) (beBytes 16 y) (gcmStream key iv 1)

/-! ### Key wrap (RFC 3394) -/

/-- Unwrap a 40-byte wrapped key; none when the integrity value is wrong. -/
def keyUnwrap (kek wrapped : List Nat) : Option (List Nat) :=
  let rks := aesRoundKeys kek
  let parts := chunks 8 5 wrapped
  let step (p : List Nat × List (List Nat)) (t : Nat) : List Nat × List (List Nat) :=
    let i := (t - 1) % 4
    let a := beBytes 8 (beNat p.1 ^^^ t)
    let b := aesDecryptWith rks (a ++ p.2.getD i [])
    (b.take 8, p.2.set i (b.drop 8))
  let (a, r) := ((List.range 24).map (24 - ·)).foldl step (parts.headD [], parts.drop 1)
  if a = List.replicate 8 0xA6 then some r.flatten else none

end Sys2Proof.Machine
end

