-- ==== Sys2Proof/Machine/Packer.lean ====
section
/-! DEFINITION. Machine/Packer.lean: the packers (chapter 09): descriptors, the six codings, event framing and drops. -/

namespace Sys2Proof.Machine

def State.pk (s : State) (i : Nat) : Packer := mget {} s.packers i
def State.pkRd (s : State) (i : Nat) (r : Row) : Nat := s.rd (Pg.packer i) r
def State.pkWr (s : State) (i : Nat) (r : Row) (v : Nat) : State := s.wr (Pg.packer i) r v

/-- Store a packer; DQ_FILL, DQ_HWM and BUSY follow it. -/
def State.setPk (s : State) (i : Nat) (p : Packer) : State :=
  let n := p.queue.length
  let s := ({ s with packers := mset {} s.packers i p }.pkWr i Pk.DQ_FILL n).pkWr i Pk.DQ_HWM (max n (s.pkRd i Pk.DQ_HWM))
  s.pkWr i Pk.BUSY (bit (p.work.isSome || !p.banks.isEmpty))

/-- Add to a counter kept in a low and a high word; it wraps at their joint width. -/
def State.addWide (s : State) (pg : Nat) (lo hi : Row) (n : Nat) : State :=
  let v := s.rd pg lo + s.rd pg hi * 2 ^ 32 + n
  (s.wr pg lo v).wr pg hi (v / 2 ^ 32)

/-! ### Descriptors (Table 09.1) -/

namespace Dc
def evno (d : Nat) : Nat := bitsOf d 0 48
def mode (d : Nat) : Nat := bitsOf d 48 4
def signed (d : Nat) : Bool := bitOf d 52 = 1
def q (d : Nat) : Nat := bitsOf d 53 4
def thr (d : Nat) : Nat := bitsOf d 64 16
def tag (d : Nat) : Nat := bitsOf d 80 16
def src (d : Nat) : Nat := bitsOf d 96 23
def len (d : Nat) : Nat := bitsOf d 128 14
def dx (d : Nat) : Nat := bitsOf d 160 4
def dy (d : Nat) : Nat := bitsOf d 164 3
def ep (d : Nat) : Nat := bitsOf d 167 5
def daddr (d : Nat) : Nat := bitsOf d 176 40
/-- A reserved bit is set. -/
def reserved (d : Nat) : Bool :=
  bitsOf d 57 7 ≠ 0 || bitsOf d 119 9 ≠ 0 || bitsOf d 142 18 ≠ 0 || bitsOf d 172 4 ≠ 0 || d / 2 ^ 216 ≠ 0
end Dc

/-- Words of a region buffer (R321). -/
def rbWords : Nat := 773312 * 8

/-! ### Codings (R266 to R273) -/

/-- Codes as (bits, value), filled LSB-first into 64-bit words (R267). -/
def packCodes (cs : List (Nat × Nat)) : List Nat :=
  let (acc, n, out) := cs.foldl (fun (a : Nat × Nat × List Nat) c =>
    let acc := a.1 + c.2 % 2 ^ c.1 * 2 ^ a.2.1
    let n := a.2.1 + c.1
    if 64 ≤ n then (acc / 2 ^ 64, n - 64, acc % 2 ^ 64 :: a.2.2) else (acc, n, a.2.2)) (0, 0, [])
  (if n = 0 then out else acc :: out).reverse

/-- The 16-bit samples of source words (R266). -/
def samplesOf (ws : List Nat) : List Nat := ws.flatMap fun w => (List.range 4).map fun k => bitsOf w (16 * k) 16

/-- A sample as a number. -/
def sampleValue (signed : Bool) (x : Nat) : Int := if signed then signedOf 16 x else (x : Int)

/-- Zero suppression of values with w-bit codes (R269). -/
def zeroSuppress (w thr : Nat) (vs : List Int) : List Nat :=
  (chunks 64 vs.length vs).flatMap fun g =>
    let bitmap := g.zipIdx.foldl (fun n v => n + bit (decide (thr < v.1.natAbs)) * 2 ^ v.2) 0
    bitmap :: packCodes ((g.filter fun v => thr < v.natAbs).map fun v => (w, fieldOf w v))

/-- A time-delta code (R270). -/
def tdCode (d : Int) : Nat × Nat :=
  let z := if 0 ≤ d then (2 * d).toNat else (-2 * d - 1).toNat
  if z < 16 then (5, z * 2) else if z < 256 then (10, z * 4 + 1) else (18, z * 4 + 3)

/-- Time-delta coding (R270). -/
def timeDelta (xs : List Nat) : List Nat :=
  packCodes ((List.zipWith (fun x p => tdCode (signedOf 16 (x + 2 ^ 16 - p))) xs (0 :: xs)))

/-- Exponent and mantissa of a magnitude (R271). -/
def bfpCode (signed positive : Bool) (a : Nat) : Nat × Nat :=
  if a ≤ 63 then (0, a)
  else
    let e := Nat.log2 a - 5
    let r := (2 * a + 2 ^ (e - 1)) / (2 * 2 ^ (e - 1))
    let (e, r) := if r = 128 then (e + 1, 64) else (e, r)
    let a' := r * 2 ^ (e - 1)
    if !signed && 65535 < a' then (10, 63)
    else if signed && positive && 32767 < a' then (9, 63)
    else (e, r - 64)

/-- BFP6 (R271). -/
def bfp6 (signed : Bool) (vs : List Int) : List Nat :=
  (chunks 16 vs.length vs).flatMap fun g =>
    let g := g ++ List.replicate (16 - g.length) 0
    let cs := g.map fun v => (bfpCode signed (decide (0 < v)) v.natAbs, decide (v < 0))
    let exps := cs.zipIdx.foldl (fun n c => n + c.1.1.1 * 2 ^ (4 * c.2)) 0
    let man := packCodes (cs.map fun c => if signed then (7, c.1.2 + bit c.2 * 64) else (6, c.1.2))
    exps :: (man ++ List.replicate (2 - man.length) 0)

/-- The payload of an event in a mode (Table 09.2). -/
def payloadOf (mode q thr : Nat) (signed : Bool) (ws : List Nat) : List Nat :=
  let vs : List Int := (samplesOf ws).map (sampleValue signed)
  let ys : List Int := vs.map fun v => v / ((2 ^ q : Nat) : Int)
  match mode with
  | 1 => zeroSuppress 16 thr vs
  | 2 => timeDelta (samplesOf ws)
  | 3 => bfp6 signed vs
  | 4 => packCodes (ys.map fun y => (16 - q, fieldOf (16 - q) y))
  | 5 => zeroSuppress (16 - q) thr ys
  | _ => ws

/-! ### Framing (Table 09.3) -/

/-- What an event's header says beside its descriptor. -/
structure Framing where
  mode : Nat
  fallback : Bool
  bypass : Bool
  why : Nat
  out : Nat
  deriving DecidableEq, Repr

/-- Header words 0 to 2. -/
def headerWords (i : Nat) (k : Desc) (f : Framing) : List Nat :=
  let d := k.d
  let len := Dc.len d
  let inW := if f.why = 2 ∧ 8191 < len ∨ f.out = 8192 then 0 else len
  let w0 := Dc.evno d + f.mode * 2 ^ 48 + bit (Dc.signed d) * 2 ^ 52 + Dc.q d * 2 ^ 53 + bit f.fallback * 2 ^ 57
    + bit f.bypass * 2 ^ 58 + bit (f.why ≠ 0) * 2 ^ 59 + f.why * 2 ^ 60
  let w1 := inW + f.out % 8192 * 2 ^ 16 + i * 2 ^ 32 + Dc.thr d * 2 ^ 48
  [w0, w1, k.turn + k.bucket % 2 ^ 16 * 2 ^ 32 + Dc.tag d * 2 ^ 48]

/-- The trailer of header and payload words. -/
def trailerWord (out : Nat) (ws : List Nat) : Nat :=
  crc32c (ws.flatMap fun w => [w % 2 ^ 32, w / 2 ^ 32]) + out % 8192 * 2 ^ 32

/-! ### Drops (R277) -/

/-- An event is dropped for a reason of Table 09.4. -/
def State.evDrop (s : State) (i why evno : Nat) : State :=
  let pg := Pg.packer i
  let s := (((s.wr pg Pk.EV_DROP 1).count pg Pk.DROP_CNT).irq pg 16).wr pg Pk.LAST_WHY why
  let s := (s.wr pg Pk.LAST_EVNO_LO evno).wr pg Pk.LAST_EVNO_HI (evno / 2 ^ 32)
  let s := s.doIf (why = 1) fun s => ((s.wr pg Pk.POISON_DROP 1).count pg Pk.POISON_CNT).irq pg 19
  s.logOnce pg 0x20 (if why = 1 then Sev.uncorrected else Sev.info) (why + evno % 2 ^ 28 * 2 ^ 4) why

/-- A descriptor write (R263). -/
def State.descWrite (s : State) (i d wmask : Nat) : State :=
  let pg := Pg.packer i
  let p := s.pk i
  let refuse (s : State) (why : Nat) : State :=
    let s := (((s.wr pg Pk.DESC_DROP 1).count pg Pk.DESC_DROP_CNT).irq pg 17).wr pg Pk.LAST_WHY why
    let s := (s.wr pg Pk.LAST_EVNO_LO 0).wr pg Pk.LAST_EVNO_HI 0
    s.logHw pg 0x21 Sev.info (why + p.queue.length * 2 ^ 4)
  if 64 ≤ p.queue.length then refuse s 4
  else if wmask ≠ 0xFF then refuse s 5
  else
    (s.setPk i { p with queue := p.queue ++ [⟨d, s.turn, s.bucket⟩] }).addWide pg Pk.EVT_CNT_LO Pk.EVT_CNT_HI 1

/-! ### Packing (R264, R273, R274, R278) -/

/-- Source word address j (R264). -/
def State.sourceWord (s : State) (i src j : Nat) : Nat :=
  let base := s.pkRd i Pk.RING_BASE
  let len := s.pkRd i Pk.RING_LEN
  if len = 0 then src + j else base + (src - base + j) % len

/-- The reason to drop a descriptor at the head of the queue before its reads; the lowest code when several hold (log
entry 23). -/
def State.descWhy (s : State) (i d : Nat) : Option Nat :=
  let maxLen := s.pkRd i Pk.MAX_LEN
  let maxLen := if maxLen = 0 ∨ 8192 < maxLen then 8192 else maxLen
  let base := s.pkRd i Pk.RING_BASE
  let rlen := s.pkRd i Pk.RING_LEN
  if maxLen < Dc.len d then some 2
  else if 6 ≤ Dc.mode d || Dc.reserved d || Dc.daddr d % 64 ≠ 0 || Dc.len d = 0 || decide (8 < Dc.q d)
      || (rlen ≠ 0 && !(decide (base ≤ Dc.src d) && decide (Dc.src d < base + rlen)))
      || (List.range (Dc.len d)).any (fun j => decide (rbWords ≤ s.sourceWord i (Dc.src d) j)) then some 3
  else none

/-- Read source words; none when one is delivered with poison. A slab at RET or OFF delivers poison (R333). -/
def State.packRead (s : State) (i : Nat) : List Nat → Option (List Nat) × State
  | [] => (some [], s)
  | a :: as =>
    let s := s.addWide (Pg.packer i) Pk.IN_BYTES_LO Pk.IN_BYTES_HI 8
    if !s.isOn (En.slab i) then (none, s)
    else
      let w := s.rbRead i a
      if w.2.1 then (none, w.2.2)
      else
        let r := w.2.2.packRead i as
        (r.1.map (w.1 :: ·), r.2)

/-- The event being packed, from its header and payload words. -/
def State.workOn (s : State) (i : Nat) (k : Desc) (f : Framing) (ws : List Nat) : State :=
  let p := s.pk i
  s.setPk i { p with work := some ⟨headerWords i k f ++ ws, k, f.why⟩ }

/-- A dropped event; its record is packed where Table 09.4 says so. -/
def State.dropRecord (s : State) (i : Nat) (k : Desc) (f : Framing) : State :=
  let s := s.evDrop i f.why (Dc.evno k.d)
  if f.why = 3 ∧ 11 < Dc.dx k.d then s else s.workOn i k f []

/-- SRC_DONE names the event. -/
def State.srcDone (s : State) (i evno : Nat) : State :=
  (s.pkWr i Pk.SRC_DONE_LO evno).pkWr i Pk.SRC_DONE_HI (evno / 2 ^ 32)

/-- A payload longer than its source: the event is read again and coded RAW (R273). -/
def State.fallBack (s : State) (i : Nat) (k : Desc) (addrs : List Nat) : State :=
  let pg := Pg.packer i
  let d := k.d
  let s := ((s.wr pg Pk.FALLBACK 1).count pg Pk.FALLBACK_CNT).irq pg 18
  let s := s.logHw pg 0x22 Sev.info (Dc.mode d + Dc.evno d % 2 ^ 28 * 2 ^ 4)
  match s.packRead i addrs with
  | (none, s) => s.dropRecord i k ⟨0, true, false, 1, 0⟩
  | (some ws, s) => (s.srcDone i (Dc.evno d)).workOn i k ⟨0, true, false, 0, ws.length⟩ ws

/-- A descriptor reaches the head of an empty packer with a free bank: it is checked, read and coded (R274, R280). -/
def State.packStart (s : State) (i : Nat) : State :=
  let p := s.pk i
  match p.queue with
  | [] => s
  | k :: ks =>
    if !s.regionRuns i || p.work.isSome || 2 ≤ p.banks.length then s
    else
      let d := k.d
      let prof := s.profile (En.packer i)
      let bypass : Bool := prof = Prof.latency || prof = Prof.thasol
      let mode := if bypass then 0 else Dc.mode d
      let s := (s.setPk i { p with queue := ks }).pkWr i Pk.CUR_MODE mode
      match s.descWhy i d with
      | some why => s.dropRecord i k ⟨mode, false, bypass, why, 0⟩
      | none =>
        let addrs := (List.range (Dc.len d)).map (s.sourceWord i (Dc.src d))
        match s.packRead i addrs with
        | (none, s) => s.dropRecord i k ⟨mode, false, bypass, 1, 0⟩
        | (some ws, s) =>
          let out := payloadOf mode (Dc.q d) (Dc.thr d) (Dc.signed d) ws
          if (mode = 1 ∨ mode = 2 ∨ mode = 5) ∧ Dc.len d < out.length then s.fallBack i k addrs
          else (s.srcDone i (Dc.evno d)).workOn i k ⟨mode, false, bypass, 0, out.length⟩ out

/-- The trailer is formed and the event stands in an output bank (R275, R276). -/
def State.trailerFormed (s : State) (i : Nat) : State :=
  let p := s.pk i
  match p.work with
  | none => s
  | some e =>
    if !s.regionRuns i then s
    else s.setPk i { p with work := none, banks := p.banks ++ [{ e with words := e.words ++ [trailerWord (e.words.length - 3) e.words] }] }

/-- The older bank goes to the network as one EVENT packet (R276); refused for want of a slot, the event is dropped. -/
def State.eventSend (s : State) (i : Nat) : State :=
  let p := s.pk i
  match p.banks with
  | [] => s
  | e :: es =>
    if !s.regionRuns i || !s.netRuns then s
    else
      let d := e.desc.d
      let s := s.setPk i { p with banks := es }
      match s.inject (eventPacket ⟨Dc.dx d, Dc.dy d, Dc.ep d⟩ (regionPlace i 2) (Dc.daddr d) e.words) (regionPlace i 2) with
      | (.sent, s) => s.addWide (Pg.packer i) Pk.OUT_BYTES_LO Pk.OUT_BYTES_HI (8 * e.words.length)
      -- a refused drop record is no second dropped event
      | (.noSlot, s) => if e.why = 0 then s.evDrop i 6 (Dc.evno d) else s
      | (.noRoute, s) => s

/-- SRST of a packer (R279): what is queued, packed or formed is lost, and every event among it counted. A drop record is
no event: its event was counted when it was dropped. -/
def State.packSrst (s : State) (i : Nat) : State :=
  let p := s.pk i
  let lost := ((p.banks ++ p.work.toList).filter fun e => e.why = 0).map (·.desc) ++ p.queue
  s.each lost (fun k s => s.evDrop i 7 (Dc.evno k.d)) |>.setPk i { p with queue := [], work := none, banks := [] }

/-! ### Commands -/

/-- The region's live context attaches its RB port and its clock runs. -/
def State.rbPort (s : State) (i : Nat) : Bool := s.regionRuns i && s.livePort i 8

/-- DESCRIPTOR_WRITE (R262, R263): a write of the doorbell address on the RB port. -/
def execDescriptorWrite (region : Fin 40) (d : BitVec 512) (wmask : BitVec 8) (s : State) :
    Host.Outcome State Fault Refusal :=
  .next (if s.rbPort region then s.descWrite region d.toNat wmask.toNat else s)

/-- PACK_START (R280). -/
def execPackStart (region : Fin 40) (s : State) : Host.Outcome State Fault Refusal := .next (s.packStart region)

/-- TRAILER_FORMED (R280). -/
def execTrailerFormed (region : Fin 40) (s : State) : Host.Outcome State Fault Refusal := .next (s.trailerFormed region)

/-- EVENT_SEND (R276). -/
def execEventSend (region : Fin 40) (s : State) : Host.Outcome State Fault Refusal := .next (s.eventSend region)

end Sys2Proof.Machine
end

