-- ==== Sys2Proof/Machine/HostOps.lean ====
section
/-! DEFINITION. Machine/HostOps.lean: what the host bus and the pins do (§17.5, §17.6): user accesses, host rings, and
the pins of the general I/O banks. -/

namespace Sys2Proof.Machine

def State.peRd (s : State) (r : Row) (i : Nat := 0) : Nat := s.rd Pg.pcie r i
def State.peWr (s : State) (r : Row) (v : Nat) (i : Nat := 0) : State := s.wr Pg.pcie r v i
def State.setUsr (s : State) (u : Usr) : State := { s with usr := u }

/-! ### The user window (R510) -/

/-- The least tag no request of EP 6 holds. -/
def State.freeTag (s : State) : Option Nat := (List.range 256).find? fun t => !(s.usr.reqs.any fun r => r.tag = t)

/-- A user read of n lines from line `line` on: READs of at most 16 lines. -/
def State.userReads (s : State) (region line n : Nat) : Nat → State
  | 0 => s
  | fuel + 1 =>
    if n = 0 then s
    else match s.freeTag with
      | none => s
      | some t =>
        let k := min 16 n
        let h := headerOf 0 (regionPlace region 1) pciePlace t + (k - 1) * 2 ^ 36 + line * 64 * 2 ^ 40
        let s := s.setUsr { s.usr with reqs := s.usr.reqs ++ [⟨t, region, false⟩] }
        (s.send ⟨Nw.req, 1, h, []⟩).userReads region (line + k) (n - k) fuel

/-- A WRITE of 64-bit words from word `at_` on, at most to the end of 16 lines; and the words left. -/
def userWritePacket (region t at_ : Nat) (ws : List Nat) : Packet × Nat :=
  let line := at_ / 8
  let room := 128 - at_ % 8
  let now := ws.take room
  let cells := List.replicate (at_ % 8) 0 ++ now
  let mask := (2 ^ now.length - 1) * 2 ^ (at_ % 8)
  let fs := (linesOf cells cells.length).map fun l => flitOf (l.map fun w => (w, false))
  (⟨Nw.dat, 1, datHeader 0 (regionPlace region 1) pciePlace t fs.length false (line * 64) mask, fs⟩, now.length)

/-- A user write of words. -/
def State.userWrites (s : State) (region at_ : Nat) (ws : List Nat) : Nat → State
  | 0 => s
  | fuel + 1 =>
    if ws.isEmpty then s
    else match s.freeTag with
      | none => s
      | some t =>
        let (p, n) := userWritePacket region t at_ ws
        let s := s.setUsr { s.usr with reqs := s.usr.reqs ++ [⟨t, region, true⟩] }
        (s.send p).userWrites region (at_ + n) (ws.drop n) fuel

/-- Bytes as 64-bit words, least significant byte first. -/
def wordsOf8 (bs : List Nat) : Nat → List Nat
  | 0 => []
  | n + 1 => if bs.isEmpty then [] else (bs.take 8).foldr (fun b v => b % 256 + 256 * v) 0 :: wordsOf8 (bs.drop 8) n

/-- An access to window `region` of BAR2, or to the BAR of an endpoint whose VDP_REGION it is (R510). -/
def State.userAccess (s : State) (region off : Nat) (wr : Bool) (len : Nat) (bytes : List Nat) : State :=
  if wr then
    if off % 8 ≠ 0 ∨ bytes.length % 8 ≠ 0 then s.count Pg.pcie Pcie.USER_PARTIAL_CNT
    else s.userWrites region (off / 8) (wordsOf8 bytes bytes.length) bytes.length
  else if len = 0 then s
  else s.userReads region (off / 64) ((off + len - 1) / 64 - off / 64 + 1) len

/-- The request of EP 6 with tag t is answered. -/
def State.userEnd (s : State) (t : Nat) (ok : Bool) (words : List (Nat × Bool)) : State :=
  match s.usr.reqs.find? fun r => r.tag = t with
  | none => s
  | some r => s.setUsr { s.usr with reqs := s.usr.reqs.filter fun q => q.tag ≠ t, done := some ⟨r.region, t, ok, words⟩ }

/-- A Completer Abort, or a dropped write (Table 17.8): code is the RSP CODE, 7 for a timeout. -/
def State.userAbort (s : State) (t code : Nat) : State :=
  match s.usr.reqs.find? fun r => r.tag = t with
  | none => s
  | some r =>
    let s := s.userEnd t false []
    if r.wr then s
    else ((s.count Pg.pcie Pcie.USER_ABORT_CNT).irq Pg.pcie 21).logHw Pg.pcie 0x24 Sev.info (r.region + code * 2 ^ 6)

/-- READ_DATA arrives for a request of EP 6: EP = 1 on the words of a poisoned flit (Table 17.8). -/
def State.userData (s : State) (t : Nat) (flits : List (List Nat × Bool)) : State :=
  if s.usr.reqs.any fun r => r.tag = t && !r.wr then
    let ws := flits.flatMap fun f => f.1.map fun w => (w, f.2)
    let s := s.userEnd t true ws
    if ws.any (·.2) then (s.count Pg.pcie Pcie.POISON_CPL_CNT).logHw Pg.pcie 0x25 Sev.info 0xFFFF else s
  else s

/-! ### Host rings (R511) -/

def ringSelRow (m : Nat) : Row := rows 0x060 (2 * m) 2 .rw 0 0x4 3
/-- RING_SEL of region i. -/
def State.ringSel (s : State) (i : Nat) : Nat := s.peRd (ringSelRow (i % 16)) (i / 16)

def State.hostRing (s : State) (r : Nat) : List (List (Nat × Bool)) := mget [] s.usr.rings r
def State.setHostRing (s : State) (r : Nat) (es : List (List (Nat × Bool))) : State :=
  s.setUsr { s.usr with rings := mset [] s.usr.rings r es }

/-- Bytes of ring r (Table 17.10). -/
def State.ringSize (s : State) (r : Nat) : Nat :=
  let l := s.peRd Pcie.RSIZE_LOG2 r
  2 ^ (if l < 12 ∨ 30 < l then 12 else l)

/-- The ring has room for n bytes. -/
def State.hostRoom (s : State) (r n : Nat) : Bool :=
  decide (n ≤ (((s.peRd Pcie.RP r : Int) - s.peRd Pcie.WP r - 1) % s.ringSize r).toNat)

/-- The link is up and EP 6 takes events. -/
def State.linkTakes (s : State) : Bool := s.peRd Pcie.LINK_SPEED ≠ 0 && !s.flag Pg.pcie Pcie.QUIESCED

/-- An event is discarded for want of room. -/
def State.ringFull (s : State) (r : Nat) : State :=
  ((s.count Pg.pcie Pcie.RING_FULL_CNT).irq Pg.pcie 20).logOnce Pg.pcie 0x23 Sev.info r

/-- Words of a packer's event without the padding of its last flit: three header words, the payload, the trailer
(Table 09.3). -/
def eventWords (ws : List (Nat × Bool)) : List (Nat × Bool) :=
  let w0 := (ws.map (·.1)).getD 0 0
  let w1 := (ws.map (·.1)).getD 1 0
  let out := bitsOf w1 16 13
  ws.take (4 + if out = 0 ∧ bitsOf w1 0 13 = 0 ∧ bitOf w0 59 = 0 then 8192 else out)

/-- An EVENT arrives at EP 6 from region i (R511). -/
def State.hostEvent (s : State) (i : Nat) (ws : List (Nat × Bool)) : State :=
  let r := s.ringSel i
  if !s.linkTakes || s.peRd Pcie.R_EN r = 0 then s.count Pg.pcie Pcie.LINK_DISC_CNT
  else if s.peRd Pcie.RING_TMO = 0 && (s.hostRing r).isEmpty && !s.hostRoom r (8 * ws.length) then s.ringFull r
  else s.setHostRing r (s.hostRing r ++ [ws])

/-- Write the waiting event of ring r where there is room: its words from byte WP, then WP at WPA, then the vector. -/
def State.hostRingWrite (s : State) (r : Nat) : State :=
  match s.hostRing r with
  | [] => s
  | ws :: es =>
    let size := s.ringSize r
    if !s.linkTakes || s.peRd Pcie.R_EN r = 0 then (s.setHostRing r es).count Pg.pcie Pcie.LINK_DISC_CNT
    else if !s.hostRoom r (8 * ws.length) then s
    else
      let base := (s.peRd Pcie.RBASE_HI r * 2 ^ 32 + s.peRd Pcie.RBASE_LO r) / 4096 * 512
      let wp := s.peRd Pcie.WP r
      let wp' := (wp + 8 * ws.length) % size
      let wpa := (s.peRd Pcie.WPA_HI r * 2 ^ 32 + s.peRd Pcie.WPA_LO r) / 8
      let mem := ws.zipIdx.foldl (fun m w => mset (0, false) m (base + (wp / 8 + w.2) % (size / 8)) w.1) s.usr.hostMem
      let v := s.peRd Pcie.R_VEC r
      let s := s.setHostRing r es
      let s := s.setUsr { s.usr with hostMem := mset (0, false) mem wpa (wp', false)
                                     vectors := mset 0 s.usr.vectors v (mget 0 s.usr.vectors v + 1) }
      (s.peWr Pcie.WP wp' r).peWr Pcie.R_EVENTS (s.peRd Pcie.R_EVENTS r + 1) r

/-- RING_TMO has passed for the waiting event of ring r: room that appears in the expiry cycle is used. -/
def State.hostRingTimeout (s : State) (r : Nat) : State :=
  match s.hostRing r with
  | [] => s
  | ws :: es =>
    if !s.linkTakes || s.peRd Pcie.R_EN r = 0 || s.hostRoom r (8 * ws.length) then s.hostRingWrite r
    else (s.setHostRing r es).ringFull r

/-- The link is gone: every event that waits is discarded (R511). -/
def State.ringsLost (s : State) : State :=
  s.each (List.range 4) fun r s =>
    (s.count Pg.pcie Pcie.LINK_DISC_CNT (s.hostRing r).length).setHostRing r []

/-- A write of a ring's size word: R_EN is kept while the ring holds an event (Table 17.10). -/
def State.ringCtl (s : State) (r w : Nat) : State :=
  let pg := Pg.pcie
  let was := s.peRd Pcie.R_EN r
  let s := (s.put pg Pcie.RSIZE_LOG2 w r).put pg Pcie.R_VEC w r
  if bitOf w 5 = was then s
  else if !(s.hostRing r).isEmpty then s.ignored pg
  else
    let s := s.peWr Pcie.R_EN (bitOf w 5) r
    if was = 0 then s.peWr Pcie.WP 0 r else s

/-- MSI-X vectors that page interrupts signal now (R512). -/
def State.pageVectors (s : State) : List Nat :=
  (List.range 354).filterMap fun e =>
    if s.peRd Pcie.VEN e = 1 && s.pageIrq (pageOf e) then some (s.peRd Pcie.VEC e) else none

/-! ### Pins (R505 to R507) -/

/-- Who claims pin p of bank b at PMODE m: agent and feature. -/
def pinClaimant (b m ag : Nat) : Nat × Nat := if m = 1 then (Ag.fabric, regionFeature (homeRegion b)) else (ag, 0x01)

/-- Pin idx is held by an EN bit, not by a milestone (R88, R505). -/
def State.pinHeld (s : State) (idx : Nat) : Bool := s.claimed idx && s.claimFeature idx != 0x02

/-- A write of pin i of bank b (R505). EN claims the pin when it is set with PMODE = 1 or 2, and the claim stands until EN is
cleared (R58; by another agent than the owner, log entry 144): a write that leaves EN at 1 makes no new claim (R518),
whoever writes and whatever PMODE becomes. -/
def State.pinWrite (s : State) (ag b i w : Nat) : State :=
  let pg := Pg.gio b
  let idx := Reg.pin (24 * b + i)
  let was : Bool := s.rd pg Gio.EN i = 1
  let mode := bitsOf w 0 2
  let s := ((s.put pg Gio.PMODE w i).put pg Gio.OUT w i).put pg Gio.DRIVE w i
  let s := ((s.put pg Gio.PULL w i).put pg Gio.SLOW w i).put pg Gio.TERM w i
  let s := if i % 2 = 0 then s.put pg Gio.PAIR w i else s
  if bitOf w 11 = 0 then (s.wr pg Gio.EN 0 i).doIf (was && s.pinHeld idx) fun s => s.unclaim idx
  else if (mode = 1 || mode = 2) && !(was && s.pinHeld idx) then
    let (a, f) := pinClaimant b mode ag
    if s.mayClaim idx a f then (s.setClaim idx a f true).wr pg Gio.EN 1 i
    else (s.wr pg Gio.EN 0 i).refuseClaim pg idx a
  else s.wr pg Gio.EN 1 i

/-- PIN_ENABLE (R505). -/
def execPinEnable (ag : Agent) (pin : Fin 192) (v : Word) (s : State) : Host.Outcome State Fault Refusal :=
  .next (s.access ag (Pg.gio (pin.val / 24)) fun s => s.pinWrite ag (pin.val / 24) (pin.val % 24) v.toNat)

/-- VIO_MISMATCH (R507). -/
def execVioMismatch (b : Fin 8) (s : State) : Host.Outcome State Fault Refusal :=
  .next (
    let pg := Pg.gio b
    ((s.wr pg Gio.VIO_OK 0).irq pg 16).logHw pg 0x20 Sev.degraded (s.rd pg Gio.VIO_SEL))

/-- VIO_MATCH (R507). -/
def execVioMatch (b : Fin 8) (s : State) : Host.Outcome State Fault Refusal := .next (s.wr (Pg.gio b) Gio.VIO_OK 1)

/-! ### Commands of the host bus -/

/-- USER_WINDOW_ACCESS (R510). -/
def execUserWindowAccess (region : Fin 40) (off : BitVec 28) (wr : Bool) (len : Nat) (bytes : List (BitVec 8)) (s : State) :
    Host.Outcome State Fault Refusal :=
  .next (s.userAccess region off.toNat wr len (bytes.map BitVec.toNat))

/-- USER_TIMEOUT (R510): USER_TMO has passed without an answer; 0 waits without end. -/
def execUserTimeout (region : Fin 40) (tag : BitVec 8) (s : State) : Host.Outcome State Fault Refusal :=
  .next (
    if s.peRd Pcie.USER_TMO ≠ 0 && s.usr.reqs.any fun r => r.tag = tag.toNat && r.region = region.val
    then s.userAbort tag.toNat 7 else s)

/-- HOST_RING_WRITE (R511). -/
def execHostRingWrite (r : Fin 4) (s : State) : Host.Outcome State Fault Refusal := .next (s.hostRingWrite r)

/-- RING_TIMEOUT (R511). -/
def execRingTimeout (r : Fin 4) (s : State) : Host.Outcome State Fault Refusal := .next (s.hostRingTimeout r)

end Sys2Proof.Machine
end

