-- ==== Sys2Proof/Machine/Shallot.lean ====
section
/-! DEFINITION. Machine/Shallot.lean: the shallots (chapter 10): pattern banks, hits, matching, roads and scrub. -/

namespace Sys2Proof.Machine

def State.sh (s : State) (k : Nat) : Shallot := mget {} s.shallots k
def State.setSh (s : State) (k : Nat) (v : Shallot) : State := { s with shallots := mset {} s.shallots k v }
def State.shRd (s : State) (k : Nat) (r : Row) : Nat := s.rd (Pg.shallot k) r
def State.shWr (s : State) (k : Nat) (r : Row) (v : Nat) : State := s.wr (Pg.shallot k) r v

/-! Codes of Table 10.2. -/
namespace Bank
def empty : Nat := 0
def writing : Nat := 1
def verifying : Nat := 2
def verified : Nat := 3
def bad : Nat := 4
def active : Nat := 5
end Bank

def bankRow (b : Nat) : Row := if b = 0 then Shl.BANK0_STATE else Shl.BANK1_STATE
def State.bank (s : State) (k b : Nat) : Nat := s.shRd k (bankRow b)
def State.setBank (s : State) (k b v : Nat) : State := s.shWr k (bankRow b) v

/-- Shallot-clock cycles per bucket (§10.1); 0 before the first lock. -/
def State.shC (s : State) (k : Nat) : Nat :=
  if s.prelock then 0
  else (s.treePll (144 + k)).elim 0 fun p => s.rd (Pg.pll p) Pll.MULT / ((s.tree (144 + k)).div + 1)

/-- SSTATE (Table 10.10): 0 IDLE, 1 FILLING, 2 MATCHING, 3 RATE_LOW. -/
def State.sstate (s : State) (k : Nat) : Nat :=
  if (s.sh k).filling then 1 else if s.shRd k Shl.ACT_VALID = 0 then 0 else if s.shC k < 10 then 3 else 2

/-- BUSY of the hit ports (R301, R297). -/
def State.shBusy (s : State) (k : Nat) : Bool :=
  !s.isOn (En.shallot k) || s.sstate k ≠ 2 || !s.flag (Pg.shallot k) Hdr.EN

def State.shThrottled (s : State) (k : Nat) : Bool := s.throttled (224 + k)

/-- HIT_LIMIT in force (R300, R317). -/
def State.hitLimit (s : State) (k : Nat) : Nat := if s.shThrottled k then 32 else 64

/-! ### The golden copy (R287, R291, R315) -/

/-- Patterns of a bank. -/
def patterns : Nat := 262144

def goldKey (k bank n w : Nat) : Nat := ((k * 2 + bank) * patterns + n) * 4 + w
def arowKey (k n : Nat) : Nat := k * patterns + n

/-- Pattern n of a bank is marked lost (R315). -/
def State.isLost (s : State) (k bank n : Nat) : Bool := (s.sh k).lost.any fun l => l.1 = bank && l.2.1 = n

/-- LOST_CNT counts the lost patterns of the active bank. -/
def State.showLost (s : State) (k : Nat) : State :=
  s.shWr k Shl.LOST_CNT (min 0xFFFF ((s.sh k).lost.filter fun l =>
    l.1 = s.shRd k Shl.ACT_BANK && s.shRd k Shl.ACT_VALID = 1).length)

/-- A golden word of pattern n is uncorrectable: the pattern is lost in that bank (R315). -/
def State.losePattern (s : State) (k bank n : Nat) : State :=
  if s.isLost k bank n then s
  else
    let sh := s.sh k
    let s := (s.setSh k { sh with lost := sh.lost ++ [(bank, n, 0)] }).showLost k
    let s := s.doIf (s.shRd k Shl.ACT_VALID = 1 && s.shRd k Shl.ACT_BANK = bank) fun s =>
      { s with arows := mset 0 s.arows (arowKey k n) (mget 0 s.arows (arowKey k n) % 2 ^ 160) }
    let s := (s.shWr k Shl.LAST_PAT n).irq (Pg.shallot k) 22
    s.logHw (Pg.shallot k) 0x27 Sev.uncorrected (n + bank * 2 ^ 18)

/-- Read a golden word (R315): none when it is lost. -/
def State.goldRead (s : State) (k bank n w : Nat) : Option Nat × State :=
  let key := goldKey k bank n w
  let e := mget {} s.gold key
  let back (s : State) := { s with gold := mset {} s.gold key (wordBack e) }
  match wordDecode e with
  | (.clean, d) => (some d, s)
  | (.corrected, d) =>
    (some d, (back s).doIf (k < 12) fun s =>
      s.hotWord (.golden (Fin.ofNat 12 k)) (key % (2 * patterns * 4)) e.err (n + bank * 2 ^ 19))
  | (.poison, _) => (none, s.losePattern k bank n)
  | (.uncorrectable, _) => (none, (back s).losePattern k bank n)

/-- The associative row of a record, none when a word of it is lost. -/
def State.goldRecord (s : State) (k bank n : Nat) : Option Nat × State :=
  let (a, s) := s.goldRead k bank n 0
  let (b, s) := s.goldRead k bank n 1
  let (c, s) := s.goldRead k bank n 2
  (match a, b, c with
   | some a, some b, some c => some (a + b * 2 ^ 64 + c % 2 ^ 33 * 2 ^ 128)
   | _, _, _ => none, s)

/-- Listed words of a bank, by place in it. -/
def State.bankWords (s : State) (k bank : Nat) : List (Nat × EWord) :=
  (mrange s.gold (goldKey k bank 0 0) (patterns * 4)).map fun e => (e.1 - goldKey k bank 0 0, e.2)

/-- A bank that a pending commit names (R291). -/
def State.commitNames (s : State) (k bank : Nat) : Bool := s.shRd k Shl.FILL_PEND = 1 && (s.sh k).fillBank = bank

/-- A golden word is written through the window (R291, R315). -/
def State.goldWrite (s : State) (k off v : Nat) : State :=
  let bank := s.shRd k Shl.WIN_BANK
  let n := off / 32
  let w := off / 8 % 4
  let st := s.bank k bank
  let lost := s.isLost k bank n
  if st = Bank.verifying || s.commitNames k bank || (st = Bank.active && !lost) then s.ignored (Pg.shallot k)
  else
    let s := { s with gold := mset {} s.gold (goldKey k bank n w) (cleanWord v) }
    let sh := s.sh k
    let s := s.doIf lost fun s => s.setSh k { sh with lost := sh.lost.map fun l =>
      if l.1 = bank ∧ l.2.1 = n then (bank, n, l.2.2 ||| 2 ^ w) else l }
    if st = Bank.active then s
    else
      let s := s.setBank k bank Bank.writing
      -- a rewritten record of a bank that is not active is lost no more
      s.setSh k { s.sh k with lost := (s.sh k).lost.filter fun l => !(l.1 = bank && l.2.1 = n) }

/-- A write through the pattern window (R291): whole words, or a low half and then its high half; a write that is not
naturally aligned has no effect (R6). -/
def State.patternWrite (s : State) (k off : Nat) (size8 : Bool) (v : Nat) : State :=
  let sh := s.sh k
  let clear (s : State) := s.setSh k { s.sh k with half := none }
  if off % (if size8 then 8 else 4) ≠ 0 then s
  else if size8 then (clear s).goldWrite k off v
  else if off / 4 % 2 = 0 then s.setSh k { sh with half := some (off / 8, v % 2 ^ 32) }
  else match sh.half with
    | some (a, lo) =>
      if a = off / 8 then (clear s).goldWrite k (off / 8 * 8) (lo + v % 2 ^ 32 * 2 ^ 32)
      else (clear s).ignored (Pg.shallot k)
    | none => s.ignored (Pg.shallot k)

/-! ### Verify, commit, fill (R292 to R296) -/

/-- The verify of a bank starts (R293). -/
def State.verifyStart (s : State) (k bank : Nat) : State :=
  (s.setBank k bank Bank.verifying).setSh k { s.sh k with verify := some bank }

/-- VERIFY_GO on a bank (R293): ignored while a verify runs (R14), and on a bank that a pending commit names. A bank that is
VERIFIED or BAD is verified again (log entry 159). -/
def State.verifyGo (s : State) (k bank : Nat) : State :=
  let st := s.bank k bank
  if st = Bank.empty ∨ st = Bank.verifying ∨ st = Bank.active ∨ (s.sh k).verify.isSome ∨ s.commitNames k bank then
    s.ignored (Pg.shallot k)
  else s.verifyStart k bank

/-- COMMIT_GO on a bank (R294). -/
def State.commitGo (s : State) (k bank : Nat) : State :=
  if s.shRd k Shl.FILL_PEND = 1 ∨ (s.sh k).filling then s.ignored (Pg.shallot k)
  else if s.bank k bank ≠ Bank.verified then
    (s.irq (Pg.shallot k) 23).logHw (Pg.shallot k) 0x21 Sev.info (bank + s.bank k bank * 2)
  else (s.shWr k Shl.FILL_PEND 1).setSh k { s.sh k with fillBank := bank, fillSince := s.stamp }

/-- AUTO_COMMIT (R296): bank 0 is verified once no verify of the other bank runs, and committed when it passes. -/
def State.autoVerify (s : State) (k : Nat) : State :=
  let st := s.bank k 0
  let sh := s.sh k
  if !sh.auto || sh.verify.isSome then s
  else if st = Bank.empty ∨ st = Bank.active ∨ s.commitNames k 0 then s.setSh k { sh with auto := false }
  else s.verifyStart k 0

/-- The load completes (R296): what a full image's AUTO_COMMIT asks for begins. -/
def State.autoCommit (s : State) (k : Nat) : State :=
  if s.shRd k Shl.AUTO_COMMIT = 0 then s else (s.setSh k { s.sh k with auto := true }).autoVerify k

/-- Read every word of a bank for a verify: the state, and whether each could be read. -/
def State.verifyRead (s : State) (k bank : Nat) : Bool × State :=
  (s.bankWords k bank).foldl (fun (a : Bool × State) e =>
    let (d, s) := a.2.goldRead k bank (e.1 / 4) (e.1 % 4)
    (a.1 && d.isSome, s)) (true, s)

/-- The verify ends (R292, R293). -/
def State.verifyDone (s : State) (k : Nat) : State :=
  match (s.sh k).verify with
  | none => s
  | some bank =>
    let pg := Pg.shallot k
    let (ok, s) := s.verifyRead k bank
    let ws := (s.bankWords k bank).map fun e => (e.1, (wordDecode e.2).2)
    let crc := crcSparse (patterns * 4) ws
    let reserved := ws.any fun w => (w.1 % 4 = 2 && w.2 / 2 ^ 33 ≠ 0) || (w.1 % 4 = 3 && w.2 ≠ 0)
    let want := s.shRd k (if bank = 0 then Shl.EXP_CRC0 else Shl.EXP_CRC1)
    let pass : Bool := ok && crc = want && !reserved
    let auto : Bool := (s.sh k).auto && bank = 0
    let s := (s.setSh k { s.sh k with verify := none }).shWr k Shl.GOT_CRC crc
    let s := (s.irq pg 16).setBank k bank (if pass then Bank.verified else Bank.bad)
    let s := s.doIf (!pass) fun s => s.logHw pg 0x20 Sev.info (bank + bit reserved * 2)
    if !auto then s.autoVerify k
    else if pass && s.shRd k Shl.FILL_PEND = 0 && !(s.sh k).filling then
      (s.shWr k Shl.FILL_PEND 1).setSh k { s.sh k with fillBank := bank, fillSince := s.stamp }
    else s.setSh k { s.sh k with auto := false }

/-- A fill begins (R292, R294 to R296), in a bucket that began after the commit. -/
def State.fillStart (s : State) (k : Nat) : State :=
  let sh := s.sh k
  if s.shRd k Shl.FILL_PEND = 0 || !s.isOn (En.shallot k) || !s.bucketSince sh.fillSince || !(if sh.auto && sh.fillBank = 0 then s.timed && s.tp.started else s.quietPoint) then s
  else
    let other := 1 - sh.fillBank
    let s := (s.shWr k Shl.FILL_PEND 0).setBank k sh.fillBank Bank.active
    let s := s.doIf (s.bank k other = Bank.active) fun s => s.setBank k other Bank.verified
    s.setSh k { sh with filling := true, auto := sh.auto && sh.fillBank ≠ 0 }

/-- Patterns with a listed golden word. -/
def State.listedPatterns (s : State) (k bank : Nat) : List Nat :=
  (s.bankWords k bank).foldl (fun a e => if a.head? = some (e.1 / 4) then a else e.1 / 4 :: a) [] |>.reverse

/-- A row whose VALID a spare shortage holds at 0 (R313), whatever bank it holds. -/
def State.rowIsDead (s : State) (k n : Nat) : Bool :=
  s.repairs.any fun r => r.entry = En.shallot k && r.kind = 5 && r.dead && r.place % 2 ^ 19 = n

/-- What the associative row of pattern n should hold (R295, R313, R315). -/
def State.wantedRow (s : State) (k bank n : Nat) : Nat × State :=
  match s.goldRecord k bank n with
  | (some v, s) => (if s.rowIsDead k n || s.isLost k bank n then v % 2 ^ 160 else v, s)
  | (none, s) => (mget 0 s.arows (arowKey k n) % 2 ^ 160, s)

/-- A fill ends: the rows hold the bank (R295). -/
def State.fillDone (s : State) (k : Nat) : State :=
  let sh := s.sh k
  if !sh.filling then s
  else
    let b := sh.fillBank
    let s := { s with arows := mclear s.arows (arowKey k 0) patterns }
    let s := s.each (s.listedPatterns k b) fun n s =>
      let (v, s) := s.wantedRow k b n
      { s with arows := mset 0 s.arows (arowKey k n) v }
    let s := (s.shWr k Shl.ACT_BANK b).shWr k Shl.ACT_VALID 1
    let s := (s.setSh k { s.sh k with filling := false, scrub := [], diffs := [] }).showLost k
    (s.irq (Pg.shallot k) 17).logHw (Pg.shallot k) 0x28 Sev.info b

/-! ### Hits and sets (R298 to R302) -/

/-- The region that port n of shallot k serves (§10.4). -/
def portRegion (k n : Nat) : Nat := (shallotRegions k).getD (n % 4) 0 + n / 4 * 20

/-- Region i's live context attaches a port type to shallot k. -/
def State.shAttached (s : State) (i type k : Nat) : Bool :=
  s.regionRuns i && (s.rg i).live && (List.range 16).any fun j =>
    let e := 16 * s.liveCtx i + j
    s.rgRd i Rgn.TYPE e = type && s.rgRd i Rgn.INST e = k

/-- Edge 2 of this bucket, which closes the set of the bucket before, is still to come (R302). -/
def State.setOpen (s : State) (k : Nat) : Bool :=
  let sh := s.sh k
  s.timed && s.isOn (En.shallot k) && s.flag (Pg.shallot k) Hdr.EN && decide (s.time64 ≠ 0)
    && sh.closed.isNone && !sh.results.any (fun r => r.set.t64 + 1 = s.time64)

/-- A hit joins the set of the present bucket (R298, R300). The log names the set by the SET_SEQ that it will close with. -/
def State.hitIn (s : State) (k layer ss : Nat) : State :=
  let pg := Pg.shallot k
  let sh := s.sh k
  let now := s.time64
  let cur := (sh.sets.find? fun t => t.t64 = now).getD { t64 := now, bucket := s.bucket }
  let rest := sh.sets.filter fun t => t.t64 ≠ now
  let cur := { cur with thr := cur.thr || s.shThrottled k }
  let seq := s.shRd k Shl.SET_SEQ + bit (s.setOpen k)
  if (cur.hits.filter fun h => h.1 = layer).length < s.hitLimit k then
    s.setSh k { sh with sets := rest ++ [{ cur with hits := cur.hits ++ [(layer, ss)] }] }
  else
    let hovf := cur.hovf ||| 2 ^ layer
    let s := s.setSh k { sh with sets := rest ++ [{ cur with hovf := hovf }] }
    let s := s.doIf (cur.hovf = 0) fun s => (s.count pg Shl.HIT_OVF_CNT).irq pg 18
    s.logOnce pg 0x22 Sev.info (hovf + seq % 256 * 2 ^ 8)

/-- Set c closes at edge 2 of bucket c + 1 (R295, R302, R305): it is matched when the shallot is MATCHING,
and its compare ends an SHL_SPARE slice (R470). -/
def State.setClose (s : State) (k : Nat) : State :=
  let sh := s.sh k
  if !s.setOpen k then s
  else
    let c := s.time64 - 1
    let b := if s.bucket = 0 then s.turnLen - 1 else s.bucket - 1
    let t := (sh.sets.find? fun t => t.t64 = c).getD { t64 := c, bucket := b }
    let seq := s.shRd k Shl.SET_SEQ
    let t := { t with seq := seq, fill := s.sstate k ≠ 2, thr := t.thr || s.shThrottled k }
    let s := s.doIf (!t.fill) fun s => s.sliceCut 4 (En.shallot k)
    (s.setSh k { sh with sets := sh.sets.filter (fun u => c < u.t64), closed := some t }).shWr k Shl.SET_SEQ (seq + 1)

/-! ### Matching (R288, R289, R302, R303) -/

/-- A hit matches a layer word (R288). -/
def layerMatch (h ss mask : Nat) : Bool := (h ^^^ ss) / 16 = 0 && ((h ^^^ ss) % 16 &&& (15 - mask)) = 0

/-- The matched layers of a row. -/
def rowMatch (hits : List (Nat × Nat)) (row : Nat) : Nat :=
  (List.range 8).foldl (fun m l =>
    if hits.any fun h => h.1 = l && layerMatch h.2 (bitsOf row (16 * l) 16) (bitsOf row (128 + 4 * l) 4) then m + 2 ^ l else m) 0

/-- THRESH as it acts (R289). -/
def threshOf (v : Nat) : Nat := if v = 0 then 1 else min v 8

/-- The roads of a set of hits, in ascending pattern order (R289). -/
def State.roadsOf (s : State) (k : Nat) (hits : List (Nat × Nat)) : List Road :=
  let thr := threshOf (s.shRd k Shl.THRESH)
  let req := s.shRd k Shl.REQ_MASK
  (mrange s.arows (arowKey k 0) patterns).filterMap fun e =>
    let m := rowMatch hits e.2
    if bitOf e.2 160 = 1 && decide (thr ≤ onesIn m 8) && m &&& req = req then some ⟨e.1 - arowKey k 0, m⟩ else none

/-- Road words the buffer holds (R308). -/
def bufferWords (rs : List RoadSet) : Nat := rs.foldl (fun n r => n + r.roads.length) 0

/-- The majority at edge 10, and what the encoder reads of the set until edge 9 two buckets later (R302, R303). -/
def State.majority (s : State) (k : Nat) : State :=
  let sh := s.sh k
  match sh.closed with
  | none => s
  | some t =>
    if !s.isOn (En.shallot k) then s
    else
      let roads := if t.fill || t.hits.isEmpty then [] else s.roadsOf k t.hits
      let stream : Bool := s.profile (En.shallot k) = Prof.bandwidth
      let cap := 4 * (2 * s.shC k - 1)
      let room := if stream then 4096 - bufferWords sh.results else cap
      let r : RoadSet := { set := t, nroads := roads.length, roads := roads.take (min cap room)
                           bank := s.shRd k Shl.ACT_BANK, fixed := sh.fixed, stream := stream }
      (s.setSh k { sh with closed := none, fixed := false, results := sh.results ++ [r] }).addWide
        (Pg.shallot k) Shl.ROAD_CNT_LO Shl.ROAD_CNT_HI roads.length

/-! ### Roads (R304 to R309) -/

/-- ROAD_DELAY as it acts (R310). -/
def State.roadDelay (s : State) (k : Nat) : Nat := min 64 (max 3 (s.shRd k Shl.ROAD_DELAY))

/-- A road word (Table 10.4). -/
def roadWord (k : Nat) (r : RoadSet) (x : Road) : Nat :=
  x.pattern + k * 2 ^ 18 + x.lmask * 2 ^ 22 + onesIn x.lmask 8 * 2 ^ 30 + r.bank * 2 ^ 34
    + r.set.bucket % 2 ^ 16 * 2 ^ 36 + r.set.seq % 256 * 2 ^ 52

/-- A trailer (Table 10.5). -/
def trailerOf (r : RoadSet) (sent : Nat) (rovf : Bool) : Nat :=
  r.set.bucket % 2 ^ 16 + min r.nroads 4095 * 2 ^ 16 + sent * 2 ^ 28 + r.set.hovf * 2 ^ 36 + bit rovf * 2 ^ 44
    + bit r.set.fill * 2 ^ 45 + bit r.set.thr * 2 ^ 46 + bit r.fixed * 2 ^ 47 + r.set.seq % 256 * 2 ^ 52 + 2 ^ 63

/-- Word j of a set as its port drives it from the road buffer: POISON where the word is uncorrectable (R311). -/
def bufferWord (r : RoadSet) (j w : Nat) (last : Bool) : RoadWord :=
  match wordDecode { data := w, err := mget 0 r.struck j } with
  | (.clean, d) => ⟨d, last, false⟩
  | (.corrected, d) => ⟨d, last, false⟩
  | (_, d) => ⟨d, last, true⟩

/-- A set's trailer as its port drives it. -/
def setTrailer (r : RoadSet) (sent : Nat) (rovf : Bool) : RoadWord := bufferWord r 4096 (trailerOf r sent rovf) true

/-- A port ends a set with its trailer: ROVF counts once for the set and is logged with the port (R303). -/
def State.roadEnd (s : State) (k port : Nat) (r : RoadSet) (sent : Nat) : RoadWord × State :=
  let pg := Pg.shallot k
  let rovf : Bool := sent < r.nroads
  let s := s.doIf (rovf && !r.told) fun s =>
    let sh := s.sh k
    let s := s.setSh k { sh with results := sh.results.map fun x => if x.set.t64 = r.set.t64 then { x with told := true } else x }
    ((s.count pg Shl.ROAD_OVF_CNT).irq pg 19).logHw pg 0x23 Sev.info (r.set.seq % 256 + 2 ^ port * 2 ^ 8)
  (setTrailer r sent rovf, s)

/-- Roads of a set from place a on. -/
def roadWords (k : Nat) (r : RoadSet) (a n : Nat) : List RoadWord :=
  ((r.roads.drop a).take n).zipIdx.map fun x => bufferWord r (a + x.2) (roadWord k r x.1) false

/-- A port works through the sets of the BANDWIDTH rule on up to `edges` edges (R308), or, when `cut`, ends every set that
has not left it (R309). -/
def State.roadStream (s : State) (k port : Nat) (cut : Bool) : Nat → List RoadSet → List RoadWord × State
  | _, [] => ([], s)
  | edges, r :: rs =>
    let sh := s.sh k
    let (t, at_) := mget (0, 0) sh.progress port
    if r.set.t64 < t then s.roadStream k port cut edges rs
    else if !r.stream || s.time64 < r.set.t64 + s.roadDelay k then ([], s)
    else
      let a := if t = r.set.t64 then at_ else 0
      let ws := if cut then [] else roadWords k r a edges
      let a' := a + ws.length
      if !cut && (a' < r.roads.length || edges ≤ ws.length) then
        (ws, s.setSh k { sh with progress := mset (0, 0) sh.progress port (r.set.t64, a') })
      else
        let (w, s) := s.roadEnd k port r a'
        let s := s.setSh k { s.sh k with progress := mset (0, 0) (s.sh k).progress port (r.set.t64 + 1, 0) }
        let (more, s) := s.roadStream k port cut (edges - ws.length - 1) rs
        (ws ++ w :: more, s)

/-- Sets every port is done with leave. -/
def State.roadPurge (s : State) (k : Nat) : State :=
  let sh := s.sh k
  let held (r : RoadSet) : Bool :=
    if r.stream then (List.range 8).any fun p => (mget (0, 0) sh.progress p).1 ≤ r.set.t64
    else s.time64 ≤ r.set.t64 + s.roadDelay k
  s.setSh k { sh with results := sh.results.filter held }

/-- A road port in the present bucket, which has `edges` edges of its region (R306 to R309). -/
def State.roadWindow (s : State) (k port edges : Nat) : State :=
  if !s.timed || !s.isOn (En.shallot k) || !s.flag (Pg.shallot k) Hdr.EN then s
  else
    let sh := s.sh k
    let due := sh.results.find? fun r => !r.stream && r.set.t64 + s.roadDelay k = s.time64
    let (ws, s) :=
      match due with
      | some r =>
        let (old, s) := s.roadStream k port true edges (sh.results.filter fun x => x.set.t64 < r.set.t64)
        let ws := roadWords k r 0 (edges - 1)
        let (w, s) := s.roadEnd k port r ws.length
        let s := s.setSh k { s.sh k with progress := mset (0, 0) (s.sh k).progress port (r.set.t64 + 1, 0) }
        (old ++ ws ++ [w], s)
      | none => s.roadStream k port false edges sh.results
    (s.setSh k { s.sh k with out := mset [] (s.sh k).out port ws }).roadPurge k

/-! ### Scrub (R312 to R315) -/

/-- A pattern whose row differs in the same bits for the third time in a pass moves to the spare row of its group (R313). -/
def State.patternStuck (s : State) (k bank n : Nat) : State :=
  let pg := Pg.shallot k
  let e := En.shallot k
  let used := s.repairs.any fun r =>
    r.entry = e && r.kind = 5 && r.spare ≠ 0xFFFF && bitOf r.place 18 = 0 && r.place % 2 ^ 18 / 64 = n / 64
  let s := s.shWr k Shl.LAST_PAT n
  if used then
    let s := { s with arows := mset 0 s.arows (arowKey k n) (mget 0 s.arows (arowKey k n) % 2 ^ 160) }
    ((s.addRepair ⟨e, 5, false, true, 0xFFFF, n + bank * 2 ^ 19⟩).logHw pg 0x26 Sev.degraded n).degrade e 0x26
  else
    let s := (s.addRepair ⟨e, 5, false, false, n / 64, n + bank * 2 ^ 19⟩).shWr k Shl.SPARES_FREE (s.shRd k Shl.SPARES_FREE - 1)
    (s.irq pg 21).logHw pg 0x25 Sev.corrected n

/-- A row was written anew from its golden record (R312, R315). -/
def State.patternFix (s : State) (k n : Nat) : State :=
  let pg := Pg.shallot k
  ((s.shWr k Shl.LAST_PAT n).irq pg 20).logHw pg 0x24 Sev.corrected n

/-- One scrub cycle of a slice (R312, R313). A rewritten row is read again before the walk goes on. -/
def State.patternScrub (s : State) (k slice : Nat) : State :=
  if s.shRd k Shl.SCRUB_EN = 0 || !s.isOn (En.shallot k) || (s.sh k).filling || s.shRd k Shl.ACT_VALID = 0 then s
  else
    let bank := s.shRd k Shl.ACT_BANK
    let row := mget 0 (s.sh k).scrub slice
    let next (s : State) : State :=
      let sh := s.sh k
      if row + 1 < 66560 then s.setSh k { sh with scrub := mset 0 sh.scrub slice (row + 1) }
      else
        let s := s.setSh k { sh with
          scrub := mset 0 sh.scrub slice 0
          diffs := sh.diffs.filter fun d => d.1 / 65536 ≠ slice }
        s.doIf (slice = 3) fun s => s.shWr k Shl.SCRUB_PASS (s.shRd k Shl.SCRUB_PASS + 1)
    if 65536 ≤ row then next s
    else
      let n := slice * 65536 + row
      let (want, s) := s.wantedRow k bank n
      let have_ := mget 0 s.arows (arowKey k n)
      if have_ = want then next s
      else
        let s := { s with arows := mset 0 s.arows (arowKey k n) want }
        let s := (s.count (Pg.shallot k) Shl.FIX_CNT).patternFix k n
        let sh := { s.sh k with fixed := true }
        let d := have_ ^^^ want
        let times : Nat := ((sh.diffs.find? fun x => x.1 = n && x.2.1 = d).elim 0 fun x => x.2.2) + 1
        let rest := sh.diffs.filter fun x => !(x.1 = n && x.2.1 = d)
        if times < 3 then s.setSh k { sh with diffs := rest ++ [(n, d, times)] }
        else (s.setSh k { sh with diffs := rest }).patternStuck k bank n

/-- A lost record of the active bank whose four words were written again returns to its row (R315). -/
def State.lostRestore (s : State) (k : Nat) : State :=
  let sh := s.sh k
  let bank := s.shRd k Shl.ACT_BANK
  match sh.lost.find? fun l => l.1 = bank && l.2.2 = 15 with
  | none => s
  | some l =>
    if s.shRd k Shl.ACT_VALID = 0 || !s.isOn (En.shallot k) then s
    else
      let n := l.2.1
      let s := (s.setSh k { sh with lost := sh.lost.erase l }).showLost k
      let (v, s) := s.wantedRow k bank n
      { s with arows := mset 0 s.arows (arowKey k n) v }.patternFix k n

/-- The domain goes to OFF (R297): both banks become EMPTY, and what the tiers held is lost. -/
def State.shOff (s : State) (k : Nat) : State :=
  let s := { s with gold := mclear s.gold (goldKey k 0 0 0) (2 * patterns * 4), arows := mclear s.arows (arowKey k 0) patterns }
  let s := ((s.setBank k 0 Bank.empty).setBank k 1 Bank.empty).shWr k Shl.ACT_VALID 0
  (s.setSh k {}).shWr k Shl.FILL_PEND 0 |>.shWr k Shl.LOST_CNT 0

/-! ### Commands -/

/-- Hits of one region-clock edge on hit port `port` of shallot k, as (layer, superstrip) (R298, R300, R301). -/
def State.hitWrite (s : State) (k port : Nat) (hs : List (Nat × Nat)) : State :=
  if !s.shAttached (portRegion k port) 5 k || !s.isOn (En.shallot k) then s
  else if s.shBusy k then s.count (Pg.shallot k) Shl.HIT_DISC_CNT hs.length
  else s.each hs fun h s => s.hitIn k h.1 h.2

/-- HIT_WRITE (R298, R300, R301): up to four hits. -/
def execHitWrite (k : Fin 12) (port : Fin 8) (hits : List (Fin 8 × BitVec 16)) (s : State) :
    Host.Outcome State Fault Refusal :=
  .next (s.hitWrite k port ((hits.take 4).map fun h => (h.1.val, h.2.toNat)))

/-- SET_CLOSE (R302). -/
def execSetClose (k : Fin 12) (s : State) : Host.Outcome State Fault Refusal := .next (s.setClose k)

/-- MAJORITY (R302). -/
def execMajority (k : Fin 12) (s : State) : Host.Outcome State Fault Refusal := .next (s.majority k)

/-- ROAD_WINDOW (R307, R308). -/
def execRoadWindow (k : Fin 12) (port : Fin 8) (edges : Nat) (s : State) : Host.Outcome State Fault Refusal :=
  .next (s.roadWindow k port edges)

/-- PATTERN_WINDOW_WRITE (R291). -/
def execPatternWindowWrite (ag : Agent) (k : Fin 12) (off : BitVec 23) (size8 : Bool) (v : BitVec 64) (s : State) :
    Host.Outcome State Fault Refusal :=
  .next (s.access ag (Pg.shallot k) (fun s => s.patternWrite k off.toNat size8 v.toNat)
    ((0x09000000 + k * 0x800000 + off.toNat) / 4096))

/-- VERIFY_GO (R293). -/
def execVerifyGo (ag : Agent) (k : Fin 12) (bank : Fin 2) (s : State) : Host.Outcome State Fault Refusal :=
  .next (s.access ag (Pg.shallot k) fun s => s.verifyGo k bank)

/-- VERIFY_DONE (R293). -/
def execVerifyDone (k : Fin 12) (s : State) : Host.Outcome State Fault Refusal :=
  .next (if s.isOn (En.shallot k) then s.verifyDone k else s)

/-- COMMIT_GO (R294). -/
def execCommitGo (ag : Agent) (k : Fin 12) (bank : Fin 2) (s : State) : Host.Outcome State Fault Refusal :=
  .next (s.access ag (Pg.shallot k) fun s => s.commitGo k bank)

/-- FILL_START (R294, R295). -/
def execFillStart (k : Fin 12) (s : State) : Host.Outcome State Fault Refusal := .next (s.fillStart k)

/-- FILL_DONE (R295). -/
def execFillDone (k : Fin 12) (s : State) : Host.Outcome State Fault Refusal :=
  .next (if s.isOn (En.shallot k) then s.fillDone k else s)

/-- PATTERN_SCRUB (R312). -/
def execPatternScrub (k : Fin 12) (slice : Fin 4) (s : State) : Host.Outcome State Fault Refusal :=
  .next (s.patternScrub k slice)

/-- LOST_PATTERN_RESTORE (R315): edge 0 of a bucket. -/
def execLostPatternRestore (k : Fin 12) (s : State) : Host.Outcome State Fault Refusal := .next (s.lostRestore k)

end Sys2Proof.Machine
end

