-- ==== Sys2Proof/Machine/Lanes.lean ====
section
/-! DEFINITION. Machine/Lanes.lean: lane groups and Saruno cells (chapter 13). -/

namespace Sys2Proof.Machine

def State.txg (s : State) (g : Nat) : TxGroup := mget {} s.txs g
def State.setTxg (s : State) (g : Nat) (v : TxGroup) : State := { s with txs := mset {} s.txs g v }
def State.rxg (s : State) (g : Nat) : RxGroup := mget {} s.rxs g
def State.setRxg (s : State) (g : Nat) (v : RxGroup) : State := { s with rxs := mset {} s.rxs g v }
def State.txRd (s : State) (g : Nat) (r : Row) (i : Nat := 0) : Nat := s.rd (Pg.tx g) r i
def State.txWr (s : State) (g : Nat) (r : Row) (v : Nat) (i : Nat := 0) : State := s.wr (Pg.tx g) r v i
def State.rxRd (s : State) (g : Nat) (r : Row) (i : Nat := 0) : Nat := s.rd (Pg.rx g) r i
def State.rxWr (s : State) (g : Nat) (r : Row) (v : Nat) (i : Nat := 0) : State := s.wr (Pg.rx g) r v i

def halfOf (t : TxGroup) (h : Nat) : TxHalf := mget {} t.halves h

/-- Store a transmit half; H_FILL follows it. -/
def State.setHalf (s : State) (g h : Nat) (v : TxHalf) : State :=
  let t := s.txg g
  (s.setTxg g { t with halves := mset {} t.halves h v }).txWr g Tx.H_FILL v.fifo.length h

/-! ### Line coding (R390, R391) -/

/-- Scrambler output for n bits from state st. -/
def scramble (st : Nat) : Nat → List Bool
  | 0 => []
  | n + 1 =>
    let o := (bitOf st 30 + bitOf st 27) % 2
    (o = 1) :: scramble (st * 2 % 2 ^ 31 + o) n

/-- The scrambler's bits for one cell on physical lane p. -/
def scrambler (p : Nat) : List Bool := scramble (0x7FFFFFF0 ||| p) 512

/-- Bits [n - 1 : 0] of v, least first. -/
def bitsList (v : Nat) (n : Nat) : List Bool := (List.range n).map fun i => bitOf v i = 1

/-- The number whose bits are these, least first. -/
def natOf (bs : List Bool) : Nat := bs.foldr (fun b n => bit b + 2 * n) 0

/-- The run after one more line bit: 2 · run + bit. -/
def runNext (run : Nat) (b : Bool) : Nat :=
  if run % 2 = bit b ∧ 2 ≤ run then run + 2 else 2 + bit b

/-- Put in a bit of the opposite value after 31 equal bits (R391). -/
def stuff (run : Nat) : List Bool → List Bool × Nat
  | [] => ([], run)
  | b :: bs =>
    let r := runNext run b
    if r / 2 = 31 then
      let (out, r') := stuff (2 + bit (!b)) bs
      (b :: (!b) :: out, r')
    else
      let (out, r') := stuff r bs
      (b :: out, r')

/-- Take the bit after 31 equal bits out; bits of the cell, the run, and the bad stuffed bits. -/
def unstuff (run : Nat) : List Bool → List Bool × Nat × Nat
  | [] => ([], run, 0)
  | b :: bs =>
    if run / 2 = 31 then
      let (out, r, n) := unstuff (2 + bit b) bs
      (out, r, n + bit (run % 2 = bit b))
    else
      let (out, r, n) := unstuff (runNext run b) bs
      (b :: out, r, n)

/-- CRC-32C of cell bits [479:0] (R393). -/
def cellCrc (c : Nat) : Nat := crc32c ((List.range 15).map fun i => bitsOf c (32 * i) 32)

/-- A cell with its CRC (Table 13.2). -/
def cellOf (seq btag : Nat) (idle mark poison : Bool) (lane pay : Nat) : Nat :=
  let c := seq % 2 ^ 16 + btag % 256 * 2 ^ 16 + bit idle * 2 ^ 24 + bit mark * 2 ^ 25 + bit poison * 2 ^ 26
    + lane % 16 * 2 ^ 27 + pay % 2 ^ 448 * 2 ^ 32
  c + cellCrc c * 2 ^ 480

namespace Cell
def seq (c : Nat) : Nat := bitsOf c 0 16
def btag (c : Nat) : Nat := bitsOf c 16 8
def idle (c : Nat) : Bool := bitOf c 24 = 1
def poison (c : Nat) : Bool := bitOf c 26 = 1
def lane (c : Nat) : Nat := bitsOf c 27 4
def good (c : Nat) : Bool := bitsOf c 480 32 = cellCrc c
end Cell

/-! ### Transmitting (R395 to R400, R411) -/

/-- L of group g: MULT of the PLL its tree runs on over its divider, 0 while the tree is closed (R388). -/
def State.lUsed (s : State) (g : Nat) : Nat :=
  if s.rd Pg.clocks Clk.OPEN (157 + g) = 0 then 0
  else (s.treePll (157 + g)).elim 0 fun p => s.rd (Pg.pll p) Pll.MULT / ((s.tree (157 + g)).div + 1)

/-- The rate lies within R388. -/
def State.txRateOk (s : State) (g : Nat) : Bool :=
  let khz := s.lUsed g * s.bucketKhz
  25000000 ≤ khz && khz ≤ blockCeil (En.tx g) (s.profile (En.tx g))

/-- Electrical idle (R400). -/
def State.txIdle (s : State) (g : Nat) : Bool :=
  !s.tp.started || s.flag Pg.pcie Pcie.QUIESCED || s.rd Pg.clocks Clk.OPEN (157 + g) = 0 || !s.isOn (En.tx g) || !s.flag (Pg.tx g) Hdr.EN

/-- Something that sends group g to electrical idle may have happened. -/
def State.txLook (s : State) (g : Nat) : State :=
  if s.txIdle g then s.setTxg g { s.txg g with quiet := true } else s

/-- READY of a half's port (R397, R400). -/
def State.txReady (s : State) (g h : Nat) : Bool :=
  s.isOn (En.tx g) && (s.txIdle g || !(s.txg g).quiet) && (halfOf (s.txg g) h).fifo.length + 2 ≤ 32

/-- The half that takes port `port` of region i: an enabled half with H_SRC = 0 names it (log entry 43). -/
def State.halfFor (s : State) (i port : Nat) : Option (Nat × Nat) :=
  ((List.range 24).map fun n => (n / 2, n % 2)).find? fun (g, h) =>
    s.txRd g Tx.H_EN h = 1 && s.txRd g Tx.H_SRC h = 0 && s.txRd g Tx.H_REGION h = i && s.txRd g Tx.H_PORT h = port

/-- Context c of region i attaches port inst of a type. -/
def State.hasPortAt (s : State) (i c type inst : Nat) : Bool :=
  (List.range 16).any fun k => s.rgRd i Rgn.TYPE (16 * c + k) = type && s.rgRd i Rgn.INST (16 * c + k) = inst

/-- The live context of region i attaches instance inst of a port type. -/
def State.livePortAt (s : State) (i type inst : Nat) : Bool := (s.rg i).live && s.hasPortAt i (s.liveCtx i) type inst

/-- A write of a half's source (R395). -/
def State.halfWrite (s : State) (ag g h w : Nat) : State :=
  let s := s.doIf (bitOf w 9 = 1) fun s => s.txWr g Tx.H_REFUSED 0 h
  let en : Bool := bitOf w 0 = 1
  let i := bitsOf w 2 6
  let port := bitOf w 8
  if en && bitOf w 1 = 0 && (s.halfFor i port).elim false fun o => o ≠ (g, h) then
    ((s.txWr g Tx.H_REFUSED 1 h).irq (Pg.tx g) 18).log (Pg.tx g) 0x22 Sev.info ag (h + i * 2 + port * 2 ^ 7)
  else
    let s := s.doIf (en && s.txRd g Tx.H_EN h = 0) fun s =>
      let v := halfOf (s.txg g) h
      s.setHalf g h { v with fifo := v.fifo.zipIdx.map fun c => { c.1 with j := c.2 }, next := v.fifo.length }
    (((s.txWr g Tx.H_EN (bitOf w 0) h).txWr g Tx.H_SRC (bitOf w 1) h).txWr g Tx.H_REGION i h).txWr g Tx.H_PORT port h

/-- HALF_SOURCE_WRITE (R395). -/
def execHalfSourceWrite (ag : Agent) (g : Fin 12) (h : Fin 2) (v : Word) (s : State) : Host.Outcome State Fault Refusal :=
  .next (s.access ag (Pg.tx g) fun s => s.halfWrite ag g h v.toNat)

/-- A cell enters a half's FIFO, tagged with the bucket of its entry (R396). -/
def State.cellEnter (s : State) (g h pay : Nat) (mark poison : Bool) : State :=
  let v := halfOf (s.txg g) h
  s.setHalf g h { v with fifo := v.fifo ++ [⟨v.next, pay, mark, poison, s.bucket % 256, s.time64⟩], next := v.next + 1 }

/-- Region i's fabric offers a cell at LANE_TX port `port` (R397). -/
def State.txCellWrite (s : State) (i port data : Nat) (mark poison : Bool) : State :=
  if !s.regionRuns i || !s.livePortAt i 2 port then s
  else match s.halfFor i port with
    | none => s
    | some (g, h) =>
      if s.txReady g h then s.cellEnter g h (bitsOf data 32 448) mark poison
      else ((s.count (Pg.tx g) Tx.TX_DROP_CNT).irq (Pg.tx g) 16).logOnce (Pg.tx g) 0x20 Sev.info h h

/-- TX_CELL_WRITE (R397). -/
def execTxCellWrite (region : Fin 40) (port : Fin 2) (data : BitVec 512) (mark poison : Bool) (s : State) :
    Host.Outcome State Fault Refusal :=
  .next (s.txCellWrite region port data.toNat mark poison)

/-- Cells of a network event, seven words each (R398). -/
def eventCells : Nat → List (Nat × Bool) → List (Nat × Bool × Bool)
  | 0, _ => []
  | n + 1, ws =>
    if ws.isEmpty then []
    else
      let c := ws.take 7
      (c.zipIdx.foldl (fun v w => v + w.1.1 % 2 ^ 64 * 2 ^ (64 * w.2)) 0, false, c.any (·.2)) :: eventCells n (ws.drop 7)

/-- Cells that wait at endpoint 5 enter the FIFO while it has room for two (R398). -/
def State.txFill (s : State) (g h : Nat) : Nat → State
  | 0 => s
  | n + 1 =>
    let v := halfOf (s.txg g) h
    match v.wait with
    | [] => s
    | c :: cs =>
      if v.fifo.length + 2 ≤ 32 && s.isOn (En.tx g) then
        ((s.setHalf g h { v with wait := cs }).cellEnter g h c.1 c.2.1 c.2.2).txFill g h n
      else s

/-- A network EVENT arrives at endpoint 5 of group g (R398). -/
def State.txEvent (s : State) (g addr : Nat) (ws : List (Nat × Bool)) : State :=
  let h := bitOf addr 6
  if s.txRd g Tx.H_SRC h = 0 ∨ s.txRd g Tx.H_EN h = 0 then
    (s.count (Pg.tx g) Tx.NET_DISC_CNT).logHw (Pg.tx g) 0x24 Sev.info h
  else
    let v := halfOf (s.txg g) h
    let cs := (eventCells ws.length ws).zipIdx.map fun c => (c.1.1, decide (c.2 = 0), c.1.2.2)
    (s.setHalf g h { v with wait := v.wait ++ cs }).txFill g h 32

/-- Logical lane of physical lane p under park P; 8 = the parked lane (R411). -/
def logicalAt (park p : Nat) : Nat := if p = park then 8 else if p < park then p else p - 1

/-- Physical lane of logical lane i under park P. -/
def physicalOf (park i : Nat) : Nat := if i < park then i else i + 1

/-- Half h sends data cells now: enabled, fed, and past its idle time (R395, R400). -/
def State.halfSends (s : State) (g h : Nat) : Bool :=
  s.txRd g Tx.H_EN h = 1 && !(s.txg g).quiet &&
    (s.txRd g Tx.H_SRC h = 1 ||
      (let i := s.txRd g Tx.H_REGION h
       s.livePortAt i 2 (s.txRd g Tx.H_PORT h)))

/-- The queued cells of logical lane l. -/
def laneCells (t : TxGroup) (l : Nat) : List TxCell := (halfOf t (l / 4)).fifo.filter fun c => c.j % 4 = l % 4

/-- The logical lane that physical lane p carries now, and the cell it may send: during a move, cells tagged before it
stay on their old lane (R411). -/
def State.laneNow (s : State) (g p : Nat) : Nat × Option TxCell :=
  let t := s.txg g
  let park := s.txRd g Tx.PARK
  let n := logicalAt park p
  match t.old with
  | none => (n, if n = 8 then none else (laneCells t n).head?)
  | some (oldPark, x) =>
    let o := logicalAt oldPark p
    if o ≠ 8 && o ≠ n && (laneCells t o).any fun c => c.t64 < x then
      (o, (laneCells t o).head?)
    else if n = 8 then (8, none)
    else if physicalOf oldPark n = p then (n, (laneCells t n).head?)
    else (n, (laneCells t n).find? fun c => x ≤ c.t64)

/-- SEQ of the next data cell of logical lane l (R394). -/
def nextSeq (t : TxGroup) (l : Nat) : Nat :=
  let v := halfOf t (l / 4)
  match (laneCells t l).head? with
  | some c => c.j / 4 % 2 ^ 16
  | none => (v.next + 3 - l % 4) / 4 % 2 ^ 16

/-- A move is over once no cell tagged before it is queued. -/
def State.moveLook (s : State) (g : Nat) : State :=
  let t := s.txg g
  match t.old with
  | none => s
  | some (_, x) =>
    if (List.range 8).any fun l => (laneCells t l).any fun c => c.t64 < x then s else s.setTxg g { t with old := none }

/-- Physical lane p sends cell c. -/
def State.lineOut (s : State) (g p c : Nat) : State :=
  let t := s.txg g
  let bs := List.zipWith (fun a b => a != b) (bitsList c 512) (scrambler p)
  let (out, r) := stuff (mget 0 t.runs p) bs
  s.setTxg g { t with runs := mset 0 t.runs p r, line := mset [] t.line p out }

/-- The start of a cell on physical lane p (R399). -/
def State.cellSend (s : State) (g p : Nat) : State :=
  let s := s.txLook g
  if s.txIdle g then s
  else
    let (l, c) := s.laneNow g p
    let c := if l < 8 && s.halfSends g (l / 4) then c else none
    match c with
    | none =>
      let seq := if l = 8 then 0 else nextSeq (s.txg g) l
      s.lineOut g p (cellOf seq s.bucket true false false l 0)
    | some c =>
      let v := halfOf (s.txg g) (l / 4)
      let s := s.setHalf g (l / 4) { v with fifo := v.fifo.filter fun d => d.j ≠ c.j }
      let s := s.lineOut g p (cellOf (c.j / 4) c.btag false c.mark c.poison l c.pay)
      ((s.addWide (Pg.tx g) Tx.CELLS_LO Tx.CELLS_HI 1).moveLook g).txFill g (l / 4) 32

/-- CELL_SEND (R399). -/
def execCellSend (g : Fin 12) (lane : Fin 9) (s : State) : Host.Outcome State Fault Refusal := .next (s.cellSend g lane)

/-- TX_IDLE_END (R400): 200 µs after the group left electrical idle. -/
def execTxIdleEnd (g : Fin 12) (s : State) : Host.Outcome State Fault Refusal :=
  .next (if s.txIdle g then s else s.setTxg g { s.txg g with quiet := false })

/-! ### Parked lanes (R411 to R414) -/

/-- Move the park of group g (R411, R412). -/
def State.parkTo (s : State) (g p : Nat) : State :=
  let old := s.txRd g Tx.PARK
  let s := (s.txWr g Tx.PARK p).txWr g Tx.PARK_PEND 0
  let s := (s.setTxg g { s.txg g with old := if old = p then none else some (old, s.time64), turns := 0 }).moveLook g
  (s.irq (Pg.tx g) 17).logHw (Pg.tx g) 0x21 Sev.info (p + s.txRd g Tx.PARK_FIX * 2 ^ 4)

/-- PARK_MOVE (R412, R414). -/
def execParkMove (g : Fin 12) (s : State) : Host.Outcome State Fault Refusal :=
  .next (
    if !s.quietPoint || !s.isOn (En.tx g) then s
    else if s.txRd g Tx.PARK_PEND = 1 then
      (if 8 < s.txRd g Tx.PARK_NEXT then s else s.parkTo g (s.txRd g Tx.PARK_NEXT))
    else if s.txRd g Tx.ROLL_EN = 1 && s.txRd g Tx.PARK_FIX = 0 && max 1 (s.txRd g Tx.ROLL_TURNS) ≤ (s.txg g).turns
    then s.parkTo g ((s.txRd g Tx.PARK + 1) % 9)
    else s)

/-- A write of PARK_NEXT with PARK_GO (R414). PARK_GO is ignored while a move waits (R14), and for a lane above 8, which does
not exist (log entry 44). -/
def State.parkGo (s : State) (g next : Nat) : State :=
  let s := s.txWr g Tx.PARK_NEXT next
  if 8 < next || s.txRd g Tx.PARK_PEND = 1 then s.ignored (Pg.tx g) else s.txWr g Tx.PARK_PEND 1

/-- PARK_GO (R414). -/
def execParkGo (ag : Agent) (g : Fin 12) (next : BitVec 4) (s : State) : Host.Outcome State Fault Refusal :=
  .next (s.access ag (Pg.tx g) fun s => s.parkGo g next.toNat)

/-- The transmit lane of group g that a lane record of the Waybook holds parked (R414). -/
def State.fusedPark (s : State) (g : Nat) : Option Nat :=
  (s.repairs.find? fun r => r.entry = En.tx g && r.kind = 7 && bitOf r.place 4 = 1 && !r.dead).map fun r => r.place % 16

/-- PARK and PARK_FIX as they come out of reset (Table 13.6): a lane record of the Waybook parks its lane and holds it. Without
one they keep 8 and 0, for which the manual names no parameter (DESIGN CHOICE, log entry 164). -/
def State.parkReset (s : State) (g : Nat) : State :=
  (s.fusedPark g).elim s fun p => (s.txWr g Tx.PARK_FIX 1).txWr g Tx.PARK p

/-- The repair record of a failed lane and LANE_SPARED (R414): dir 0 = receive, 1 = transmit. -/
def State.laneSpared (s : State) (g p dir : Nat) (dead : Bool) : State :=
  let e := if dir = 0 then En.rx g else En.tx g
  let s := s.addRepair ⟨e, 7, false, dead, 0, p + dir * 2 ^ 4⟩
  let s := (s.irq (Pg.tx g) 19).logHw (Pg.tx g) 0x23 Sev.corrected (p + dir * 2 ^ 4)
  if dead then s.degrade e 0x23 else s

/-- A transmit lane failed self-test: the park is held on it (R414). -/
def State.txLaneFail (s : State) (g p : Nat) : State :=
  if s.txRd g Tx.PARK_FIX = 1 then s.laneSpared g p 1 true
  else
    let s := ((s.txWr g Tx.PARK_FIX 1).txWr g Tx.PARK_NEXT p).txWr g Tx.PARK_PEND 1
    s.laneSpared g p 1 false

/-- A receive lane failed (R414). -/
def State.rxLaneFail (s : State) (g p : Nat) : State :=
  let m := s.rxRd g Rx.FAIL_MASK
  if bitOf m p = 1 then s
  else
    let s := ((s.rxWr g Rx.FAIL_MASK (m + 2 ^ p)).irq (Pg.rx g) 20).logHw (Pg.rx g) 0x24 Sev.degraded p
    s.laneSpared g p 0 (m ≠ 0)

/-! ### Receiving (R401 to R408) -/

def rxLaneOf (t : RxGroup) (p : Nat) : RxLane := mget {} t.lanes p
def State.setRxLane (s : State) (g p : Nat) (v : RxLane) : State :=
  let t := s.rxg g
  s.setRxg g { t with lanes := mset {} t.lanes p v }
def rxLogicalOf (t : RxGroup) (l : Nat) : RxLogical := mget {} t.logicals l
def State.setRxLogical (s : State) (g l : Nat) (v : RxLogical) : State :=
  let t := s.rxg g
  s.setRxg g { t with logicals := mset {} t.logicals l v }

/-- Fixed release is in force (R405). -/
def State.rxFixed (s : State) (g : Nat) : Bool :=
  s.profile (En.rx g) ≠ Prof.bandwidth && s.timed && 128 ≤ s.turnLen

/-- ALIGN in force (Table 13.7). -/
def State.rxAlign (s : State) (g : Nat) : Nat := min 8 (max 1 (s.rxRd g Rx.ALIGN))

/-- ALIGNED physical lanes that carry logical lane l. -/
def State.carriers (s : State) (g l : Nat) : List Nat :=
  (List.range 9).filter fun p => s.rxRd g Rx.LSTATE p = 3 && s.rxRd g Rx.LOGICAL p = l

/-- PARK of a receive group follows the lane whose cells carry LANE = 8. -/
def State.showRxPark (s : State) (g : Nat) : State :=
  s.rxWr g Rx.PARK (((List.range 9).find? fun p => s.rxRd g Rx.LOGICAL p = 8).getD 15)

def halfUpRow (h : Nat) : Row := if h = 0 then Rx.H0_UP else Rx.H1_UP

/-- The half has an ALIGNED lane for each logical lane. -/
def State.halfWhole (s : State) (g h : Nat) : Bool := (List.range 4).all fun k => !(s.carriers g (4 * h + k)).isEmpty

/-- Forget what half h has received. -/
def State.clearHalf (s : State) (g h : Nat) : State :=
  s.each (List.range 4) fun k s => s.setRxLogical g (4 * h + k) {}

/-- A half comes up. -/
def State.halfRise (s : State) (g h : Nat) : State :=
  if s.rxRd g (halfUpRow h) = 1 || !s.halfWhole g h then s
  else
    let s := (s.clearHalf g h).rxWr g (halfUpRow h) 1
    let t := s.rxg g
    s.setRxg g { t with resume := t.resume ||| 2 ^ h, lastTag := mset none t.lastTag h none }

/-- A half goes down (R407). -/
def State.halfFall (s : State) (g h : Nat) : State :=
  if s.rxRd g (halfUpRow h) = 0 || s.halfWhole g h then s
  else ((s.clearHalf g h).rxWr g (halfUpRow h) 0 |>.irq (Pg.rx g) 24).logHw (Pg.rx g) 0x28 Sev.degraded h

/-- An eye scan ends (R416). -/
def State.scanEnd (s : State) (g : Nat) (aborted : Bool) : State :=
  let s := (s.rxWr g Rx.ES_BUSY 0).rxWr g (if aborted then Rx.ES_ABORT else Rx.ES_DONE) 1
  (s.irq (Pg.rx g) 21).logHw (Pg.rx g) 0x27 Sev.info ((s.rxg g).scan.1 + bit aborted * 2 ^ 4)

/-- Adaptation of an ALIGNED lane owns the lane's offset sampler (R415); its agent is HLP and it has no feature code (DESIGN
CHOICE, log entry 79). -/
def State.adapt (s : State) (g p : Nat) : State := s.setClaim (Reg.sampler (9 * g + p)) Ag.hlp 0 true

/-- A lane that is not ALIGNED does not adapt. -/
def State.adaptEnd (s : State) (g p : Nat) : State := s.unclaim (Reg.sampler (9 * g + p))

/-- Lane p goes to a state other than ALIGNED. -/
def State.laneTo (s : State) (g p st : Nat) : State :=
  let was := s.rxRd g Rx.LSTATE p
  let s := ((s.rxWr g Rx.LSTATE st p).rxWr g Rx.LOGICAL 15 p).showRxPark g
  let s := s.setRxLane g p { rxLaneOf (s.rxg g) p with run := 0, good := 0, bad := 0 }
  if was ≠ 3 then s
  else
    let s := ((s.count (Pg.rx g) Rx.DOWN_CNT 1 p).irq (Pg.rx g) 16).logHw (Pg.rx g) 0x20 Sev.degraded p
    let s := s.adaptEnd g p
    let s := s.doIf (s.rxRd g Rx.ES_BUSY = 1 && (s.rxg g).scan.1 = p) fun s => s.scanEnd g true
    (s.halfFall g 0).halfFall g 1

/-- The lanes of group g follow RATE_OK, EN and the domain (Table 13.3). -/
def State.rxLook (s : State) (g : Nat) : State :=
  let up : Bool := s.flag (Pg.rx g) Hdr.EN && s.isOn (En.rx g) && s.rxRd g Rx.RATE_OK = 1
  s.each (List.range 9) fun p s =>
    let st := s.rxRd g Rx.LSTATE p
    if up && st = 0 then s.rxWr g Rx.LSTATE 1 p
    else if !up && st ≠ 0 then s.laneTo g p 0 else s

/-- RATE_CHECK (R389). -/
def execRateCheck (g : Fin 12) (inBand : Bool) (s : State) : Host.Outcome State Fault Refusal :=
  .next (
    if !s.isOn (En.rx g) then s
    else
      let fell : Bool := s.rxRd g Rx.RATE_OK = 1 && !inBand
      let s := s.rxWr g Rx.RATE_OK (bit inBand)
      let s := s.doIf fell fun s => (s.irq (Pg.rx g) 23).logHw (Pg.rx g) 0x25 Sev.info 0
      s.rxLook g)

/-- CDR_LOCK (Table 13.3). -/
def execCdrLock (g : Fin 12) (lane : Fin 9) (s : State) : Host.Outcome State Fault Refusal :=
  .next (
    let s := s.rxLook g
    if s.rxRd g Rx.LSTATE lane = 1 then s.laneTo g lane 2 else s)

/-- BUCKET [7:0] of the bucket `o` buckets from now. -/
def State.tagAt (s : State) (o : Int) : Nat := (((s.bucket : Int) + o) % (max 1 s.turnLen : Int)).toNat % 256

/-- TIME64 of the bucket that a BTAG names, among the 64 before and 63 after this one (R405); the nearest when TURN_LEN
lets several match, this one when none does (log entry 45). -/
def State.bucketOf (s : State) (btag : Nat) : Nat :=
  let near := (List.range 128).map fun n : Nat => if n % 2 = 0 then -((n / 2 : Nat) : Int) else ((n / 2 + 1 : Nat) : Int)
  let o : Int := ((near ++ [-64]).find? fun o => o < 64 && s.tagAt o = btag).getD 0
  ((s.time64 : Int) + o).toNat

/-- a is at or after b by the half-range rule in 16 bits (R402). -/
def seqFrom (a b : Nat) : Bool := (a + 2 ^ 16 - b % 2 ^ 16) % 2 ^ 16 < 2 ^ 15

/-- Queue what is in order on logical lane l; a gap is filled with placeholders unless another ALIGNED lane still carries
cells of l (R403, R411). -/
def State.rxFill (s : State) (g l : Nat) : Nat → State
  | 0 => s
  | n + 1 =>
    let v := rxLogicalOf (s.rxg g) l
    if v.expect = v.shown then s
    else match v.early.find? fun c => c.seq = v.expect with
      | some c =>
        (s.setRxLogical g l { v with expect := (v.expect + 1) % 2 ^ 16, btag := c.btag, t64 := c.t64, ready := v.ready ++ [c]
                                     early := v.early.filter fun d => d.seq ≠ c.seq }).rxFill g l n
      | none =>
        match s.carriers g l with
        | [p] =>
          let c : RxCell := ⟨v.expect, v.btag, v.t64, 0, true, true, none⟩
          let s := s.count (Pg.rx g) Rx.GAP_CNT 1 p
          (s.setRxLogical g l { v with expect := (v.expect + 1) % 2 ^ 16, ready := v.ready ++ [c] }).rxFill g l n
        | _ => s

/-- Cells of physical lane p in the buffers. -/
def State.laneBuffer (s : State) (g p : Nat) : Nat :=
  (List.range 8).foldl (fun n l =>
    let v := rxLogicalOf (s.rxg g) l
    n + ((v.ready ++ v.early).filter fun c => c.lane = some p).length) 0

/-- A good cell of logical lane l arrives on lane p of a half that is up (R402, R403). -/
def State.rxCell (s : State) (g p l c : Nat) : State :=
  let v := rxLogicalOf (s.rxg g) l
  let seq := Cell.seq c
  let t := s.bucketOf (Cell.btag c)
  let v := if v.started then v else { v with started := true, expect := seq, shown := seq, btag := Cell.btag c, t64 := t }
  let v := { v with newest := max v.newest t }
  let keep := !Cell.idle c && seqFrom seq v.expect && !(v.early.any fun d => d.seq = seq) && s.laneBuffer g p < 64
  let v := if keep then { v with early := v.early ++ [⟨seq, Cell.btag c, t, c, Cell.poison c, false, some p⟩] } else v
  let upTo := if keep then (seq + 1) % 2 ^ 16 else seq
  let v := if seqFrom upTo v.shown then { v with shown := upTo } else v
  s.setRxLogical g l v

/-- Position 4s + k of the next cell of logical lane l, and the cell if it is there. -/
def headOf (t : RxGroup) (h k : Nat) : Nat × Option RxCell :=
  let v := rxLogicalOf t (4 * h + k)
  match v.ready with
  | c :: _ => (4 * c.seq + k, some c)
  | [] => (4 * v.expect + k, none)

/-- The logical lane whose next position comes first (R402), in modular arithmetic. -/
def firstLane (t : RxGroup) (h : Nat) : Nat :=
  [1, 2, 3].foldl (fun k m =>
    if ((headOf t h k).1 + 2 ^ 18 - (headOf t h m).1) % 2 ^ 18 < 2 ^ 17 then m else k) 0

/-- Take the head of logical lane l off its queue. -/
def State.takeHead (s : State) (g l : Nat) : State :=
  let v := rxLogicalOf (s.rxg g) l
  s.setRxLogical g l { v with ready := v.ready.drop 1 }

/-- Cells that wait in the four lanes of half h. -/
def State.waitingCells (s : State) (g h : Nat) : Nat :=
  ((List.range 4).map fun k => (rxLogicalOf (s.rxg g) (4 * h + k)).ready.length).sum

/-- Cells of half h in the order of R402, as far as `ok` lets them go. -/
def State.inOrder (s : State) (g h : Nat) (ok : Nat → RxCell → Bool) : Nat → List RxCell × State
  | 0 => ([], s)
  | n + 1 =>
    let k := firstLane (s.rxg g) h
    match (headOf (s.rxg g) h k).2 with
    | none => ([], s)
    | some c =>
      if ok k c then
        let (cs, s) := (s.takeHead g (4 * h + k)).inOrder g h ok n
        (c :: cs, s)
      else ([], s)

/-- The destinations of half h (R404): slot, region and port, as far as a live attachment takes them. -/
def State.destinations (s : State) (g h : Nat) : List (Nat × Nat × Nat) :=
  let w := mget 0 (s.rxg g).slots h
  (List.range 4).filterMap fun d =>
    let b := bitsOf w (8 * d) 8
    let i := b % 64
    let port := bitOf b 6
    if bitOf b 7 = 1 && i < 40 && s.regionRuns i && s.livePortAt i 1 port then some (d, i, port) else none

/-- Drive cells to port `port` of region i. -/
def State.drive (s : State) (i port : Nat) (os : List RxOut) : State :=
  { s with rxOut := mset [] s.rxOut (2 * i + port) os }

def outOf (bstart : Bool) (c : RxCell) : RxOut := ⟨c.data, bstart, c.poison, c.crcerr⟩

/-- Count the data cells delivered. -/
def State.countCells (s : State) (g : Nat) (cs : List RxCell) : State :=
  s.addWide (Pg.rx g) Rx.CELLS_LO Rx.CELLS_HI (cs.filter fun c => c.lane.isSome).length

/-- BSTART on the first cell of each new BTAG (R406). -/
def unfixedOuts (last : Option Nat) : List RxCell → List RxOut × Option Nat
  | [] => ([], last)
  | c :: cs =>
    let (os, l) := unfixedOuts (some c.btag) cs
    (outOf (last ≠ some c.btag) c :: os, l)

/-- Delivery while FIXED is 0 (R406). -/
def State.deliverNow (s : State) (g h : Nat) : State :=
  let all := (List.range 4).all fun k => (rxLogicalOf (s.rxg g) (4 * h + k)).started
  if s.rxFixed g || s.rxRd g (halfUpRow h) = 0 || !all then s
  else
    let (cs, s) := s.inOrder g h (fun _ _ => true) (s.waitingCells g h)
    if cs.isEmpty then s
    else
      let (os, l) := unfixedOuts (mget none (s.rxg g).lastTag h) cs
      let s := s.setRxg g { s.rxg g with lastTag := mset none (s.rxg g).lastTag h l }
      let s := s.each (s.destinations g h) fun d s => s.drive d.2.1 d.2.2 os
      s.countCells g cs

/-- A good cell on an ALIGNED lane. -/
def State.goodCell (s : State) (g p c : Nat) : State :=
  let l := Cell.lane c
  if 8 < l then s
  else
    let was := s.rxRd g Rx.LOGICAL p
    let s := (s.rxWr g Rx.LOGICAL l p).showRxPark g
    let s := (s.halfRise g 0).halfRise g 1
    let up := fun (s : State) (l : Nat) => decide (l < 8) && s.rxRd g (halfUpRow (l / 4)) = 1
    let s := s.doIf (was ≠ l && up s was) fun s => s.rxFill g was (2 ^ 16)
    s.doIf (up s l) fun s => (((s.rxCell g p l c).rxFill g l (2 ^ 16)).deliverNow g (l / 4))

/-- A cell arrives at lane p (R390, R391, R401, R403). -/
def State.cellReceive (s : State) (g p : Nat) (bs : List Bool) : State :=
  let s := s.rxLook g
  let st := s.rxRd g Rx.LSTATE p
  if st < 2 then s
  else
    let v := rxLaneOf (s.rxg g) p
    let (cell, run, errs) := unstuff v.run bs
    let s := s.count (Pg.rx g) Rx.STUFF_ERR_CNT errs p
    let c := natOf (List.zipWith (fun a b => a != b) cell (scrambler p))
    let good : Bool := cell.length = 512 && Cell.good c
    if st = 2 then
      if !good then s.setRxLane g p { v with run := run, good := 0 }
      else if v.good + 1 < 8 then s.setRxLane g p { v with run := run, good := v.good + 1 }
      else
        let s := (s.setRxLane g p { v with run := run, good := 0, bad := 0 }).rxWr g Rx.LSTATE 3 p
        let s := s.adapt g p
        let s := (s.irq (Pg.rx g) 17).logHw (Pg.rx g) 0x21 Sev.info p
        s.goodCell g p c
    else if good then (s.setRxLane g p { v with run := run, bad := 0 }).goodCell g p c
    else
      let s := s.count (Pg.rx g) Rx.CRC_CNT 1 p
      let s := s.setRxLane g p { v with run := run, bad := v.bad + 1, fails := v.fails + 1 }
      if v.bad + 1 < 8 then s else s.laneTo g p 2

/-- CELL_RECEIVE (R403). -/
def execCellReceive (g : Fin 12) (lane : Fin 9) (bits : List Bool) (s : State) : Host.Outcome State Fault Refusal :=
  .next (s.cellReceive g lane bits)

/-- Queued cells of half h tagged with bucket time t or before are late (R405). -/
def State.dropLate (s : State) (g h t : Nat) : State :=
  s.each (List.range 4) fun k s =>
    let l := 4 * h + k
    let v := rxLogicalOf (s.rxg g) l
    let late := v.ready.filter fun c => c.t64 ≤ t
    if late.isEmpty then s
    else
      let s := s.setRxLogical g l { v with ready := v.ready.filter fun c => t < c.t64 }
      ((s.count (Pg.rx g) Rx.LATE_CNT late.length).irq (Pg.rx g) 18).logOnce (Pg.rx g) 0x22 Sev.info
        (h + (late.head?.elim 0 RxCell.btag) * 2)

/-- Before bucket b's cells are released, what came too late for the bucket before it is dropped. -/
def State.dropEarlier (s : State) (g h b : Nat) : State := if b = 0 then s else s.dropLate g h (b - 1)

/-- The cells cs go out to the region ports of half h, as many as the port's clock has edges for; the rest is lost
(R405). -/
def State.driveCells (s : State) (g h : Nat) (edges : List Nat) (cs : List RxCell) : State :=
  let os := cs.zipIdx.map fun c => outOf (decide (c.2 = 0)) c.1
  s.each (s.destinations g h) fun d s =>
    let n := edges.getD d.1 0
    let s := s.drive d.2.1 d.2.2 (os.take n)
    if os.length ≤ n then s
    else ((s.count (Pg.rx g) Rx.REL_OVF_CNT (os.length - n)).irq (Pg.rx g) 19).logOnce (Pg.rx g) 0x23 Sev.info
      (h + d.2.1 * 2)

/-- Logical lane l has passed bucket b: a cell of a later bucket has come on it. -/
def passed (t : RxGroup) (b l : Nat) : Bool := b < (rxLogicalOf t l).newest

/-- The cells of bucket b of half h are released (R405); a half that resumes waits for a bucket that all its lanes have
passed. -/
def State.releaseBucket (s : State) (g h b : Nat) (edges : List Nat) : State :=
  let t := s.rxg g
  let whole := (List.range 4).all fun k => passed t b (4 * h + k)
  if bitOf t.resume h = 1 && !whole then s.dropLate g h b
  else
    let s := s.setRxg g { t with resume := putBits t.resume h 1 0 }
    let r := s.inOrder g h (fun k c => c.t64 = b && passed t b (4 * h + k)) (s.waitingCells g h)
    ((r.2.driveCells g h edges r.1).countCells g r.1).dropLate g h b

/-- The release of a bucket's cells (R405). -/
def State.cellRelease (s : State) (g h : Nat) (edges : List Nat) : State :=
  let b := s.time64 - s.rxAlign g
  if !s.rxFixed g || s.rxRd g (halfUpRow h) = 0 || s.time64 < s.rxAlign g then s
  else (s.dropEarlier g h b).releaseBucket g h b edges

/-- CELL_RELEASE (R405): the region-clock edges of this bucket at each of the four slots. -/
def execCellRelease (g : Fin 12) (h : Fin 2) (edges : List Nat) (s : State) : Host.Outcome State Fault Refusal :=
  .next (s.cellRelease g h edges)

/-! ### Destination slots (R404) -/

/-- The slot registers of half h, as one word. -/
def State.slotWord (s : State) (g h : Nat) : Nat :=
  let r := fun r => s.rxRd g r h
  (r Rx.REGION_0 + r Rx.PORT_0 * 2 ^ 6 + r Rx.DV_0 * 2 ^ 7) + (r Rx.REGION_1 + r Rx.PORT_1 * 2 ^ 6 + r Rx.DV_1 * 2 ^ 7) * 2 ^ 8
    + (r Rx.REGION_2 + r Rx.PORT_2 * 2 ^ 6 + r Rx.DV_2 * 2 ^ 7) * 2 ^ 16
    + (r Rx.REGION_3 + r Rx.PORT_3 * 2 ^ 6 + r Rx.DV_3 * 2 ^ 7) * 2 ^ 24

/-- Region ports that a slot word names. -/
def namedPorts (w : Nat) : List Nat :=
  (List.range 4).filterMap fun d => if bitOf w (8 * d + 7) = 1 then some (bitsOf w (8 * d) 7) else none

/-- Store a slot word. -/
def State.setSlotWord (s : State) (g h w : Nat) : State :=
  s.each [(Rx.REGION_0, Rx.PORT_0, Rx.DV_0), (Rx.REGION_1, Rx.PORT_1, Rx.DV_1), (Rx.REGION_2, Rx.PORT_2, Rx.DV_2),
          (Rx.REGION_3, Rx.PORT_3, Rx.DV_3)] fun r s =>
    ((s.put (Pg.rx g) r.1 w h).put (Pg.rx g) r.2.1 w h).put (Pg.rx g) r.2.2 w h

/-- A write of half h's slots (R404). -/
def State.slotWrite (s : State) (ag g h w : Nat) : State :=
  let others := ((List.range 24).filter fun n => n ≠ 2 * g + h).flatMap fun n => namedPorts (s.slotWord (n / 2) (n % 2))
  match (namedPorts w).find? fun x => others.contains x with
  | some x =>
    ((s.rxWr g Rx.ROUTE_REFUSED 1).irq (Pg.rx g) 22).log (Pg.rx g) 0x26 Sev.info ag (h + x % 64 * 2 + x / 64 * 2 ^ 7)
  | none => s.setSlotWord g h w

/-- DEST_SLOT_WRITE (R404). -/
def execDestSlotWrite (ag : Agent) (g : Fin 12) (h : Fin 2) (v : Word) (s : State) : Host.Outcome State Fault Refusal :=
  .next (s.access ag (Pg.rx g) fun s => s.slotWrite ag g h v.toNat)

/-- LANE_ERROR_CHECK (R414): a second has passed on lane p. -/
def execLaneErrorCheck (g : Fin 12) (lane : Fin 9) (s : State) : Host.Outcome State Fault Refusal :=
  .next (
    let v := rxLaneOf (s.rxg g) lane
    let thr := s.rxRd g Rx.LF_THR
    let s := s.setRxLane g lane { v with fails := 0 }
    if thr ≠ 0 ∧ thr < v.fails then s.rxLaneFail g lane else s)

/-! ### Eye scan (R416) -/

/-- ES_GO (R416): a scan of the lane and for the bits the fields name; ignored while one runs (R14). -/
def State.scanGo (s : State) (g : Nat) : State :=
  if s.rxRd g Rx.ES_BUSY = 1 then s.ignored (Pg.rx g)
  else
    let p := s.rxRd g Rx.ES_LANE
    let s := ((s.rxWr g Rx.ES_BUSY 1).rxWr g Rx.ES_ERR 0).rxWr g Rx.ES_BITS 0
    let s := s.setRxg g { s.rxg g with scan := (p, s.rxRd g Rx.ES_DWELL) }
    if p < 9 && s.rxRd g Rx.LSTATE p = 3 then s else s.scanEnd g true

/-- A write of the eye-scan word. -/
def State.scanWrite (s : State) (g w : Nat) : State :=
  let pg := Pg.rx g
  let s := (s.doIf (bitOf w 25 = 1) fun s => s.rxWr g Rx.ES_DONE 0).doIf (bitOf w 26 = 1) fun s => s.rxWr g Rx.ES_ABORT 0
  let s := (((s.put pg Rx.ES_LANE w).put pg Rx.ES_PHASE w).put pg Rx.ES_VOFF w).put pg Rx.ES_DWELL w
  (s.put pg Rx.ES_ANYTIME w).doIf (bitOf w 23 = 1) fun s => s.scanGo g

/-- EYE_SCAN_START (R416). -/
def execEyeScanStart (ag : Agent) (g : Fin 12) (v : Word) (s : State) : Host.Outcome State Fault Refusal :=
  .next (s.access ag (Pg.rx g) fun s => s.scanWrite g v.toNat)

/-- The present turn has no lay-by that is still to come or was observed: none is set, or it was cancelled (R81). -/
def State.noLayby (s : State) : Bool := !s.timed || (!s.tp.laySeen && (s.tp.layLen = 0 || s.tp.layStart ≤ s.bucket))

/-- A slice of a scan may run now: in an observed lay-by, in a turn without one, or at any time (R416, log entry 165). -/
def State.scanSlot (s : State) (g : Nat) : Bool := s.rxRd g Rx.ES_ANYTIME = 1 || s.inLayby || s.noLayby

/-- EYE_SCAN_SLICE (R416): a slice of at most 1 µs compares `bits` bits, of which `errs` differ. -/
def execEyeScanSlice (g : Fin 12) (bits errs : Nat) (s : State) : Host.Outcome State Fault Refusal :=
  .next (
    if s.rxRd g Rx.ES_BUSY = 0 || !s.scanSlot g then s
    else
      let limit := 2 ^ ((s.rxg g).scan.2 + 16)
      let n := min limit (s.rxRd g Rx.ES_BITS + bits)
      let s := (s.rxWr g Rx.ES_BITS n).rxWr g Rx.ES_ERR (min n (s.rxRd g Rx.ES_ERR + errs))
      if n = limit then s.scanEnd g false else s)

/-! ### What a bucket boundary does to the lanes -/

/-- Destination slots take effect, turns are counted, and halves that are down are counted (R404, R407, R412). -/
def State.laneBoundary (s : State) : State :=
  let s := s.each (List.range 12) fun g s =>
    let s := s.rxLook g
    let s := (s.halfFall g 0).halfFall g 1
    let t := s.rxg g
    let s := s.setRxg g { t with slots := mset 0 (mset 0 t.slots 0 (s.slotWord g 0)) 1 (s.slotWord g 1) }
    s.doIf (s.isOn (En.rx g) && !(s.rxRd g Rx.H0_UP = 1 && s.rxRd g Rx.H1_UP = 1)) fun s =>
      s.count (Pg.rx g) Rx.HALF_DOWN_CNT
  if s.bucket = 0 then s.each (List.range 12) fun g s => s.setTxg g { s.txg g with turns := (s.txg g).turns + 1 } else s

end Sys2Proof.Machine
end

