-- ==== Sys2Proof/Machine/Memory.lean ====
section
/-! DEFINITION. Machine/Memory.lean: the RB port and the scrub of the slabs, and the DDR4 channels with their refresh,
patrol and event rings (chapter 11). -/

namespace Sys2Proof.Machine

/-! ### The RB port (R334, R335) -/

/-- Read eight words of a line: data, poison mask, state. -/
def State.rbLine (s : State) (i line j : Nat) : Nat → (Nat × Nat) × State
  | 0 => ((0, 0), s)
  | n + 1 =>
    let (d, p, s) := s.rbRead i (8 * line + j)
    let (r, s) := s.rbLine i line (j + 1) n
    ((d * 2 ^ (64 * j) + r.1, bit p * 2 ^ j + r.2), s)

/-- Lines of a region buffer (R321). -/
def rbLines : Nat := 773312

/-- An RB access beyond the buffer (R335). -/
def State.rbRange (s : State) (i addr : Nat) : State :=
  let pg := Pg.slab i
  (((s.wr pg Slab.RB_RANGE 1).count pg Slab.RANGE_CNT).irq pg 21).logOnce pg 0x26 Sev.info addr

/-- RDATA and POISON of the RB port of region i. -/
def State.rbShow (s : State) (i d p : Nat) : State := { s with rbOut := mset (0, 0) s.rbOut i (d, p) }

/-- The RB port at a region-clock edge (R262, R334, R335); clamped while the slab is at RET or OFF (R333). -/
def State.rbAccess (s : State) (i addr : Nat) (we re : Bool) (wmask wdata : Nat) : State :=
  if addr = 0xFFFFF then
    let s := s.doIf we fun s => s.descWrite i wdata wmask
    s.doIf re fun s => s.rbShow i 0 0
  else if !s.isOn (En.slab i) then s.doIf re fun s => s.rbShow i 0 0xFF
  else if rbLines ≤ addr then
    if we || re then (s.doIf re fun s => s.rbShow i 0 0xFF).rbRange i addr else s
  else
    let s := s.doIf re fun s =>
      let (r, s) := s.rbLine i addr 0 8
      s.rbShow i r.1 r.2
    s.doIf we fun s =>
      s.each ((List.range 8).filter fun j => bitOf wmask j = 1) fun j s =>
        s.rbWrite i (8 * addr + j) (bitsOf wdata (64 * j) 64) false

/-- RB_ACCESS (R334): one region-clock edge of an attached RB port, up to the edge at which RDATA shows (log entry 162). -/
def execRbAccess (region : Fin 40) (addr : BitVec 20) (we re : Bool) (wmask : BitVec 8) (wdata : BitVec 512) (s : State) :
    Host.Outcome State Fault Refusal :=
  .next (if s.rbPort region then s.rbAccess region addr.toNat we re wmask.toNat wdata.toNat else s)

/-! ### Scrub of a slab (R337, R339) -/

/-- The slab's KEEP branch runs and its arrays hold. -/
def State.slabKeeps (s : State) (i : Nat) : Bool :=
  s.blk (En.slab i) != St.retired && decide (1 ≤ (s.dom (40 + i)).level)
    && (s.dom (40 + i)).wake = 0 && bitOf (s.gate (En.slab i)).branches 2 = 1

/-- The scrub walks of slab i run. -/
def State.slabScrubs (s : State) (i : Nat) : Bool := s.rd (Pg.slab i) Slab.SCRUB_EN = 1 && s.slabKeeps i

/-- Units of a pass, spare rows included: lines, 64-byte rows, clusters (Table 11.2). -/
def walkLength (arr : Nat) : Nat := [779360, 66048, 323 * 64].getD arr 1

/-- Read one unit of an array: a line, a row of a block, the nine banks of a cluster. -/
def State.scrubUnit (s : State) (i arr u : Nat) : State :=
  match arr with
  | 0 => if u < rbLines then (s.rbLine i u 0 8).2 else s
  | 1 => if u < 65536 then s.each (List.range 64) fun b s => (s.bmRead i (u / 64) (u % 64 * 64 + b)).2.2 else s
  | _ =>
    if u < clusterCount then
      s.each (List.range 18) fun k s => (s.sbRead i (k / 2) (u % 64) (u / 64) (k % 2)).2.2
    else s

/-- The scrub walk of an array reads its next unit; a finished pass counts. -/
def State.scrubStep (s : State) (i arr : Nat) : State :=
  if !s.slabScrubs i then s
  else
    let k := 3 * i + arr
    let u := mget 0 s.walks k
    let s := s.scrubUnit i arr u
    let pg := Pg.slab i
    if u + 1 < walkLength arr then { s with walks := mset 0 s.walks k (u + 1) }
    else
      let s := { s with walks := mset 0 s.walks k 0 }
      match arr with
      | 0 => s.wr pg Slab.RB_PASS (s.rd pg Slab.RB_PASS + 1)
      | 1 => s.wr pg Slab.BM_PASS (s.rd pg Slab.BM_PASS + 1)
      | _ => s

/-- SLAB_SCRUB (R339). -/
def execSlabScrub (region : Fin 40) (arr : Fin 3) (s : State) : Host.Outcome State Fault Refusal :=
  .next (s.scrubStep region arr)

/-- SLAB_FORCED_SLOT (R337): slot 2 goes to maintenance that has waited 63 cycles, be it a write-back, a row copy or the
walk. -/
def execSlabForcedSlot (region : Fin 40) (s : State) : Host.Outcome State Fault Refusal :=
  .next (
    if s.slabKeeps region then (s.count (Pg.slab region) Slab.FORCED_CNT).scrubStep region 0 else s)

/-- SCRUB_LATE (R339): a pass overran its interval; the command is the passing of that time (log entry 5). -/
def execScrubLate (region : Fin 40) (arr : Fin 3) (s : State) : Host.Outcome State Fault Refusal :=
  .next (
    if s.slabScrubs region then
      ((s.wr (Pg.slab region) Slab.SCRUB_LATE 1).irq (Pg.slab region) 20).logHw (Pg.slab region) 0x25 Sev.info arr
    else s)

/-! ### DDR4: training and refresh (R344 to R349) -/

def State.ch (s : State) (c : Nat) : Chn := mget {} s.chns c
def State.setCh (s : State) (c : Nat) (v : Chn) : State := { s with chns := mset {} s.chns c v }
def State.ddrRd (s : State) (c : Nat) (r : Row) (i : Nat := 0) : Nat := s.rd (Pg.ddr c) r i

/-- The channel's clock runs: its PLL is READY (R107). -/
def State.ddrClock (s : State) (c : Nat) : Bool := s.pllReady (s.ddrPll c)

/-- The channel serves requests: it is TRAINED, and clocked (DESIGN CHOICE, log entry 161). -/
def State.trained (s : State) (c : Nat) : Bool := s.ddrRd c Ddr.TRAINED = 1 && s.ddrClock c

/-- The channel may train: enabled, fitted, on, clocked, not trained and not failed (R344). -/
def State.mayTrain (s : State) (c : Nat) : Bool :=
  s.flag (Pg.ddr c) Hdr.EN && s.ddrRanks c ≠ 0 && s.serves (En.ddr c) && s.ddrClock c && s.ddrRd c Ddr.TRAINED = 0

/-- DDR_TRAINING_START (R344). -/
def execDdrTrainingStart (c : Fin 8) (s : State) : Host.Outcome State Fault Refusal :=
  .next (if s.mayTrain c then s.setCh c { s.ch c with training := true } else s)

/-- DDR_TRAINING_DONE (R344): success, or a byte lane failed and HLP retires the channel. -/
def execDdrTrainingDone (c : Fin 8) (failLane : Option (Fin 10)) (s : State) : Host.Outcome State Fault Refusal :=
  .next (
    let pg := Pg.ddr c
    if !(s.ch c).training || !s.ddrClock c then s
    else
      let s := s.setCh c { s.ch c with training := false }
      match failLane with
      | none =>
        let s := s.setCh c { s.ch c with patrolAt := s.us }
        ((s.wr pg Ddr.TRAINED 1).irq pg 16 |>.wr pg Ddr.DEBT0 0).wr pg Ddr.DEBT1 0
      | some l =>
        let s := ((s.wr pg Ddr.TRAIN_FAIL 1).wr pg Ddr.FAIL_LANE l).irq pg 21
        (s.logHw pg 0x25 Sev.degraded l).wbRetire [⟨En.ddr c, St.retired, 0xFFFF, 0x25⟩])

/-- DEBT of a rank. -/
def debtRow (rank : Nat) : Row := if rank = 0 then Ddr.DEBT0 else Ddr.DEBT1
def State.debt (s : State) (c rank : Nat) : Int := signedOf 5 (s.ddrRd c (debtRow rank))
def State.setDebt (s : State) (c rank : Nat) (v : Int) : State := s.wr (Pg.ddr c) (debtRow rank) (fieldOf 5 v)

/-- Refresh runs: trained, on, and not in self-refresh (R353). -/
def State.refreshes (s : State) (c rank : Nat) : Bool :=
  s.trained c && s.isOn (En.ddr c) && s.ddrRd c Ddr.SELF_REFRESH = 0 && decide (rank < s.ddrRanks c)

/-- A spill is counted; it is logged at most once per turn, with the turn's spills so far (R347). -/
def State.spill (s : State) (c rank : Nat) : State :=
  let pg := Pg.ddr c
  let h := s.ch c
  let n := if h.spillTurn = some s.turn then h.spills + 1 else 1
  let s := ((s.count pg Ddr.SPILL_CNT).wr pg Ddr.REF_SPILL 1).irq pg 18
  let s := s.setCh c { h with spillTurn := some s.turn, spills := n }
  s.doIf (n = 1) fun s => s.logHw pg 0x22 Sev.info (min n 255 + rank * 2 ^ 8)

/-- REFRESH_TICK (R345, R347): one tREFI has passed on a rank. -/
def execRefreshTick (c : Fin 8) (rank : Fin 2) (s : State) : Host.Outcome State Fault Refusal :=
  .next (
    if !s.refreshes c rank then s
    else if s.debt c rank < 8 then s.setDebt c rank (s.debt c rank + 1)
    else s.spill c rank)

/-- The refresh mode of channel c (Table 11.9): 0 ANY, 1 LAYBY_PREF, 2 LAYBY. -/
def State.refMode (s : State) (c : Nat) : Nat :=
  let p := s.profile (En.ddr c)
  if p = Prof.bandwidth then 0 else if p = Prof.endurance then 1 else 2

/-- tRFC in ns (R345). -/
def State.tRfc (s : State) (c : Nat) : Nat := [260, 350, 550].getD (s.ddrRd c Ddr.DEV_CFG_SIZE) 550

/-- The mode lets a REF issue to a rank now (Table 11.9). -/
def State.refAllowed (s : State) (c rank : Nat) (pending : Bool) : Bool :=
  let d := s.debt c rank
  let lay : Bool := s.inLayby && decide (-8 < d) && decide (s.tRfc c * s.bucketKhz ≤ s.laybyRemain * 1000000)
  match s.refMode c with
  | 0 => decide (1 ≤ d) && !pending
  | 1 => if s.inLayby then lay else decide (4 ≤ d) && !pending
  | _ => lay

/-- REF_ISSUE (R345, R346). -/
def execRefIssue (c : Fin 8) (rank : Fin 2) (pendingReq : Bool) (s : State) : Host.Outcome State Fault Refusal :=
  .next (
    if s.refreshes c rank && s.refAllowed c rank pendingReq then s.setDebt c rank (s.debt c rank - 1) else s)

/-- A milestone REFRESH (R348): none when the channel refuses it. Its REFs issue at once (log entry 42). -/
def State.refreshAction (s : State) (c param : Nat) : Option State :=
  if !(s.trained c && s.isOn (En.ddr c)) then none
  else some (s.each (List.range (s.ddrRanks c)) fun r s =>
    let d := s.debt c r
    s.setDebt c r (if param = 0 then min d 0 else max (-8) (d - (param : Int))))

/-! ### Patrol (R350, R351) -/

/-- PATROL_H as it acts, in microseconds (Table 11.13). -/
def State.patrolTime (s : State) (c : Nat) : Nat := max 1 (s.ddrRd c Ddr.PATROL_H) * 3600000000

/-- The pass is behind its schedule: less of it is done than the part of PATROL_H that has passed since it began (R350). -/
def State.patrolLate (s : State) (c : Nat) : Bool :=
  decide ((s.ch c).patrol * s.patrolTime c < (s.us - (s.ch c).patrolAt) * s.ddrLines c)

/-- Patrol may take a command slot (R350): in LAYBY mode only in an observed lay-by and once its REFs are issued, or where
the pass is behind. -/
def State.patrolSlot (s : State) (c : Nat) : Bool :=
  s.refMode c ≠ 2 || (s.inLayby && (List.range (s.ddrRanks c)).all fun r => !s.refAllowed c r false) || s.patrolLate c

/-- PATROL_READ (R350): the next line, spare lines included. -/
def execPatrolRead (c : Fin 8) (s : State) : Host.Outcome State Fault Refusal :=
  .next (
    if !(s.ddrRd c Ddr.PATROL_EN = 1 && s.trained c && s.isOn (En.ddr c) && s.ddrRd c Ddr.SELF_REFRESH = 0
        && s.patrolSlot c) then s
    else
      let line := (s.ch c).patrol
      let s := s.each (List.range 8) fun j s => (s.ddrRead c (8 * line + j)).2.2
      if line + 1 < s.ddrLines c then s.setCh c { s.ch c with patrol := line + 1 }
      else (s.setCh c { s.ch c with patrol := 0, patrolAt := s.us }).wr (Pg.ddr c) Ddr.PATROL_PASS (s.ddrRd c Ddr.PATROL_PASS + 1))

/-- PATROL_LATE (R350): a pass overran PATROL_H (log entry 5). -/
def execPatrolLate (c : Fin 8) (s : State) : Host.Outcome State Fault Refusal :=
  .next (
    if s.ddrRd c Ddr.PATROL_EN = 1 && s.trained c then
      (s.wr (Pg.ddr c) Ddr.SCRUB_LATE 1).logHw (Pg.ddr c) 0x26 Sev.info (s.ddrRd c Ddr.PATROL_PASS)
    else s)

/-! ### Event rings (R354, R355) -/

def State.ringWaiting (s : State) (c r : Nat) : List (List (Nat × Bool)) := mget [] (s.ch c).rings r
def State.setRing (s : State) (c r : Nat) (es : List (List (Nat × Bool))) : State :=
  s.setCh c { s.ch c with rings := mset [] (s.ch c).rings r es }

/-- Lines of an event of n words. -/
def eventLines (n : Nat) : Nat := ceilDiv n 8

/-- The ring has room for so many lines (R354). -/
def State.ringRoom (s : State) (c r lines : Nat) : Bool :=
  let n := s.ddrRd c Ddr.EVR_LINES r
  let rp := s.ddrRd c Ddr.EVR_RP r
  let wp := s.ddrRd c Ddr.EVR_WP r
  n ≠ 0 && decide (lines ≤ (((rp : Int) - wp - 1) % n).toNat)

/-- An event is discarded (R355). -/
def State.evDiscard (s : State) (c r : Nat) : State :=
  let pg := Pg.ddr c
  (((s.count pg Ddr.EVR_DISC_CNT).wr pg Ddr.EV_DISCARD 1).irq pg 22).logOnce pg 0x27 Sev.info (r + 2 ^ 2)

/-- An EVENT arrives at channel c, as words and poison (R354, R355). -/
def State.ddrEvent (s : State) (c r : Nat) (ws : List (Nat × Bool)) : State :=
  if s.ddrRd c Ddr.EVR_EN r = 0 || !s.trained c then s.evDiscard c r
  else if s.ddrRd c Ddr.EVR_TMO = 0 && (s.ringWaiting c r).isEmpty && !s.ringRoom c r (eventLines ws.length) then
    s.evDiscard c r
  else s.setRing c r (s.ringWaiting c r ++ [ws])

/-- The waiting event of ring r is written where there is room; EVR_WP advances with its last line (R354). -/
def State.ringWrite (s : State) (c r : Nat) : State :=
  match s.ringWaiting c r with
  | [] => s
  | ws :: es =>
    let n := eventLines ws.length
    let size := s.ddrRd c Ddr.EVR_LINES r
    if s.ddrRd c Ddr.EVR_EN r = 0 || !s.trained c || !s.ringRoom c r n then s
    else
      let base := s.ddrRd c Ddr.EVR_BASE r
      let wp := s.ddrRd c Ddr.EVR_WP r
      let ws := ws ++ List.replicate (8 * n - ws.length) (0, false)
      let s := s.each ws.zipIdx fun w s =>
        s.ddrWrite c (8 * (base + (wp + w.2 / 8) % size) + w.2 % 8) w.1.1 w.1.2
      (s.setRing c r es).wr (Pg.ddr c) Ddr.EVR_WP ((wp + n) % size) r

/-- RING_EVENT_WRITE (R354). -/
def execRingEventWrite (c : Fin 8) (r : Fin 4) (s : State) : Host.Outcome State Fault Refusal := .next (s.ringWrite c r)

/-- EVR_TIMEOUT (R355): EVR_TMO has passed for the waiting event; with room it is written all the same. -/
def execEvrTimeout (c : Fin 8) (r : Fin 4) (s : State) : Host.Outcome State Fault Refusal :=
  .next (
    match s.ringWaiting c r with
    | [] => s
    | ws :: es =>
      if s.ddrRd c Ddr.EVR_EN r = 1 && s.ringRoom c r (eventLines ws.length) then s.ringWrite c r
      else (s.setRing c r es).evDiscard c r)

/-- A write of EVR_LINES and EVR_EN of ring r (R355, Table 11.13). -/
def State.evrWrite (s : State) (c r v : Nat) : State :=
  let pg := Pg.ddr c
  let lines := bitsOf v 0 29
  let on : Bool := s.ddrRd c Ddr.EVR_EN r = 1
  if on then
    let s := s.doIf (lines ≠ s.ddrRd c Ddr.EVR_LINES r) fun s => s.ignored pg
    s.wr pg Ddr.EVR_EN (bitOf v 29) r
  else
    let s := s.wr pg Ddr.EVR_LINES lines r
    if bitOf v 29 = 1 && lines ≠ 0 && decide (s.ddrRd c Ddr.EVR_BASE r + lines ≤ s.ddrUsable c) then
      ((s.wr pg Ddr.EVR_EN 1 r).wr pg Ddr.EVR_WP 0 r).wr pg Ddr.EVR_RP 0 r
    else s

/-- EVR_ENABLE (R355). -/
def execEvrEnable (ag : Agent) (c : Fin 8) (r : Fin 4) (v : Word) (s : State) : Host.Outcome State Fault Refusal :=
  .next (s.access ag (Pg.ddr c) fun s => s.evrWrite c r v.toNat)

end Sys2Proof.Machine
end

