-- ==== Sys2Proof/Machine/Routers.lean ====
section
/-! DEFINITION. Machine/Routers.lean: the routers of the four meshes: routes, virtual channels, credits and what each output
sends on a network-clock edge (§12.3, §12.4). -/

namespace Sys2Proof.Machine

/-! ### Routes (R366) -/

/-- n places from a towards b, and no further. -/
def towards (a b n : Nat) : Nat := if a ≤ b then min (a + n) b else max (a - n) b

/-- Links from a to b along one axis. -/
def linksOf (a b : Nat) : Nat := (a - b) + (b - a)

/-- Links of the packet's route. -/
def Worm.links (w : Worm) : Nat := linksOf w.src.x (Hd.dx w.p.h) + linksOf w.src.y (Hd.dy w.p.h)

/-- The j-th router of the route: east or west first, then north or south. -/
def Worm.router (w : Worm) (j : Nat) : Nat × Nat :=
  (towards w.src.x (Hd.dx w.p.h) j, towards w.src.y (Hd.dy w.p.h) (j - linksOf w.src.x (Hd.dx w.p.h)))

/-- The output the route takes there, coded as in R372. -/
def Worm.output (w : Worm) (j : Nat) : Nat :=
  let (x, y) := w.router j
  if x < Hd.dx w.p.h then 1 else if Hd.dx w.p.h < x then 3 else if y < Hd.dy w.p.h then 0 else if Hd.dy w.p.h < y then 2 else 4

/-- The input at which the packet stands there, as a slot entry names it (R370). -/
def Worm.input (w : Worm) (j : Nat) : Nat :=
  if j = 0 then 5 + w.src.ep * 8 else [3, 4, 1, 2].getD (w.output (j - 1)) 0

/-- The input a slot entry names; EP counts for the local port alone. -/
def namedInput (entry : Nat) : Nat := if entry % 8 = 5 then entry % 256 else entry % 8

/-- The VC buffer in which the packet's flits stand there: network, VC, router and input. -/
def Worm.buffer (w : Worm) (j : Nat) : Nat × Nat × (Nat × Nat) × Nat := (w.p.net, w.p.vc, w.router j, w.input j)

/-- Routers the header flit and the last flit have left. -/
def Worm.headPos (w : Worm) : Nat := (w.spots.head?.map Spot.pos).getD 0
def Worm.tailPos (w : Worm) : Nat := (w.spots.getLast?.map Spot.pos).getD 0

/-- Every flit has left the local output of the last router. -/
def Worm.arrived (w : Worm) : Bool := w.links < w.tailPos

/-! ### Flits that could move (R367) -/

/-- A flit that stands first among its packet's flits in a buffer. -/
structure Lead where
  w : Worm
  /-- Its number in the packet; 0 is the header flit. -/
  n : Nat
  spot : Spot
  deriving DecidableEq, Repr

/-- The leading flits among the spots of packet w from number n on; `prev` is the place of the flit before. -/
def leadsFrom (w : Worm) (n : Nat) (prev : Option Nat) : List Spot → List Lead
  | [] => []
  | x :: xs =>
    let rest := leadsFrom w (n + 1) (some x.pos) xs
    if x.pos ≤ w.links ∧ prev ≠ some x.pos then ⟨w, n, x⟩ :: rest else rest

def Worm.leads (w : Worm) : List Lead := leadsFrom w 0 none w.spots

def Lead.buffer (l : Lead) : Nat × Nat × (Nat × Nat) × Nat := l.w.buffer l.spot.pos
def Lead.router (l : Lead) : Nat × Nat := l.w.router l.spot.pos
def Lead.output (l : Lead) : Nat := l.w.output l.spot.pos
def Lead.input (l : Lead) : Nat := l.w.input l.spot.pos
def Lead.vc (l : Lead) : Nat := l.w.p.vc

/-- The output of a router on a network, by number. -/
def Lead.outputKey (l : Lead) : Nat := linkKey l.router.1 l.router.2 l.output l.w.p.net

/-- Place in the buffer's order: a packet whose header flit has gone on stands first, then the header that came first. -/
def Lead.turn (l : Lead) : Nat := if l.n = 0 then l.spot.came + 1 else 0

/-- The flit stands first in its buffer. -/
def Lead.first (l : Lead) (all : List Lead) : Bool :=
  !(all.any fun k => k.buffer = l.buffer && (decide (k.turn < l.turn) || (k.turn = l.turn && decide (k.w.id < l.w.id))))

/-- The packet holds VC vc of output o of a router: its header flit has left by it and its TAIL flit has not (R367). -/
def Worm.holds (w : Worm) (l : Lead) : Bool :=
  w.p.net = l.w.p.net && w.p.vc = l.vc && (List.range (w.links + 1)).any fun j =>
    w.router j = l.router && w.output j = l.output && decide (j < w.headPos) && decide (w.tailPos ≤ j)

/-- Flits in a link's input buffer. -/
def Mesh.occupied (m : Mesh) (b : Nat × Nat × (Nat × Nat) × Nat) : Nat :=
  m.flight.foldl (fun n w => n + (w.spots.filter fun x => x.pos ≠ 0 && decide (x.pos ≤ w.links) && w.buffer x.pos = b).length) 0

/-- EP 6 withholds its DAT credits: an event waits for room in its ring (R511). -/
def State.ringsWithhold (s : State) : Bool :=
  (List.range 4).any fun r => (s.hostRing r).head?.any fun ws => !s.hostRoom r (8 * ws.length)

/-- The endpoint that the packet names has a buffer free: a NET port holds 4 flits of a VC (R382). -/
def State.endpointRoom (s : State) (p : Packet) : Bool :=
  match unitAt (destOf p.h) with
  | some (.port i) => ((mget {} s.mesh.ports i).waiting.filter fun f => f.net = p.net && f.vc = p.vc).length < 4
  | some .pcie => p.net ≠ Nw.dat || !s.ringsWithhold
  | _ => true

/-- The next router holds a credit for the flit; at the last one the endpoint has room. -/
def State.credit (s : State) (l : Lead) : Bool :=
  if l.output = 4 then s.endpointRoom l.w.p else s.mesh.occupied (l.w.buffer (l.spot.pos + 1)) < 4

/-- The flit has crossed its router: it came at least two edges ago (R368). -/
def Mesh.crossed (m : Mesh) (l : Lead) : Bool := l.spot.came + 2 ≤ m.edge

/-- No replay keeps the link (R376). -/
def Mesh.linkFree (m : Mesh) (l : Lead) : Bool := mget 0 m.busy l.outputKey ≤ m.edge

/-- The flit may leave by its output. -/
def State.mayLeave (s : State) (all : List Lead) (l : Lead) : Bool :=
  let m := s.mesh
  m.crossed l && l.first all && m.linkFree l && s.credit l && (l.n ≠ 0 || !(m.flight.any fun w => w.id ≠ l.w.id && w.holds l))

/-! ### Arbitration (R368) -/

/-- The time-slot entry of this slot for the flit's output names the flit's input. -/
def State.slotNames (s : State) (l : Lead) : Bool :=
  namedInput (mget 0 s.mesh.slots (slotKey (s.rd Pg.network Net.ACT_TBL) l.router.1 l.router.2 l.w.p.net l.output s.mesh.slot))
    = l.input && decide (s.mesh.slot < s.netK)

/-- The flit's turn in the round robin of its output: VCs after the one served last, and in a VC the inputs after the one
served last. -/
def Mesh.rank (m : Mesh) (l : Lead) : Nat :=
  let k := l.outputKey
  (l.vc + 3 - mget 0 m.lastVc k) % 4 * 256 + (l.input + 255 - mget 0 m.lastIn (4 * k + l.vc)) % 256

/-- The lead of least rank. -/
def Mesh.least (m : Mesh) : List Lead → Option Lead
  | [] => none
  | l :: ls => match m.least ls with
    | none => some l
    | some k => if m.rank k < m.rank l then some k else some l

/-- What an output sends, of the flits that may leave by it: the reserved flit, or best-effort traffic. -/
def State.choose (s : State) (ls : List Lead) : Option Lead :=
  let gt := s.flag Pg.network Net.GT_EN
  match ls.find? fun l => gt && l.vc = 0 && s.slotNames l with
  | some l => some l
  | none => s.mesh.least (ls.filter fun l => !gt || l.vc ≠ 0)

/-- One flit for each output that has any. -/
def State.chosen (s : State) (ls : List Lead) : List Lead :=
  ((ls.map Lead.outputKey).eraseDups).filterMap fun k => s.choose (ls.filter fun l => l.outputKey = k)

/-- The packet's flit number n leaves its router at an edge. -/
def Worm.move (w : Worm) (n edge : Nat) : Worm := { w with spots := w.spots.modify n fun x => ⟨x.pos + 1, edge⟩ }

/-- The flit leaves its router, and its output has served its VC and input. -/
def Mesh.leave (m : Mesh) (l : Lead) : Mesh :=
  { m with flight := m.flight.map fun w => if w.id = l.w.id then w.move l.n m.edge else w
           lastVc := mset 0 m.lastVc l.outputKey l.vc
           lastIn := mset 0 m.lastIn (4 * l.outputKey + l.vc) l.input }

/-- The flits that stand first in their buffers' packets. -/
def State.leads (s : State) : List Lead := s.mesh.flight.flatMap Worm.leads

/-- The mesh once every output has sent its flit. -/
def State.moved (s : State) : Mesh := (s.chosen (s.leads.filter fun l => s.mayLeave s.leads l)).foldl Mesh.leave s.mesh

/-- A VC 0 flit whose slot has come and that waits for room or for a replay is late (R374, R376). -/
def State.lateLeads (s : State) (all : List Lead) : List Lead :=
  all.filter fun l => s.flag Pg.network Net.GT_EN && l.vc = 0 && s.slotNames l && s.mesh.crossed l && l.first all &&
    (!s.mesh.linkFree l || (l.output = 4 && !s.endpointRoom l.w.p))

/-- A late flit is counted and logged (R374). -/
def State.flitLate (s : State) (x y net n : Nat) : State :=
  ((s.count Pg.network Net.GT_LATE_CNT n).irq Pg.network 18).logOnce Pg.network 0x22 Sev.info (x + y * 2 ^ 4 + net * 2 ^ 10)

end Sys2Proof.Machine
end

