-- ==== Sys2Proof/Machine/Network.lean ====
section
/-! DEFINITION. Machine/Network.lean: what each endpoint does with a packet, the fabric NET ports, link errors, and the time
slots (chapter 12). -/

namespace Sys2Proof.Machine

/-! ### Arrival -/

/-- The flits of a command. -/
def flitsOf (fs : List DataFlit) : List Flit := fs.map fun f => ⟨f.d.toNat, f.chk.toNat, f.poison⟩

/-- The packet on its way is p, on whatever VC. -/
def Worm.carries (p : Packet) (w : Worm) : Bool := w.p.net = p.net && w.p.h = p.h && w.p.flits = p.flits

/-- The two packets keep their order: one network, VC, source and destination (R366). -/
def sameFlow (src : Place) (p : Packet) (w : Worm) : Bool :=
  w.p.net = p.net && w.p.vc = p.vc && w.src = src && destOf w.p.h = destOf p.h

/-- A packet reaches its destination (log entry 40): one that is on its way, or one that is offered now and crosses. None
overtakes a packet of its flow that is on its way (R366). The row's OP must be the packet's. -/
def State.netIn (s : State) (op : Nat) (p : Packet) (f : Packet → State → State) : State :=
  if Hd.op p.h ≠ op || !s.netRuns then s
  else match s.mesh.flight.find? (Worm.carries p) with
    | some w =>
      if s.mesh.flight.find? (sameFlow w.src w.p) = some w then f w.p (s.setMesh { s.mesh with flight := s.mesh.flight.erase w })
      else s
    | none =>
      let w := s.injectWhy p
      let q := s.onFlow p
      if w ≠ .sent then s.injectCount p w
      else if s.mesh.flight.any (sameFlow (sourceOf p.h) q) then s.launch q (sourceOf p.h)
      else f q s

/-- The region's live context holds a NET attachment (R384). -/
def State.netPort (s : State) (i : Nat) : Bool := s.livePort i 7

/-- RSP CODE of a request whose destination cannot serve it (Table 12.4); memory endpoints have their own. -/
def State.endpointWhy (s : State) (p : Place) : Option Nat :=
  match unitAt p with
  | none => some 5
  | some (.slab _) => none
  | some (.ddr _) => none
  | some u =>
    match s.unitEntry u with
    | none => some 5
    | some e =>
      if s.blk e = St.retired ∨ s.blk e = St.spare then some 5
      else if !s.isOn e then some 4
      else match u with
        | .port i => if s.netPort i then none else some 5
        | _ => none

/-- A packet finds no usable endpoint (R369). -/
def State.discard (s : State) (h : Nat) : State :=
  (s.count Pg.network Net.DISCARD_CNT).logOnce Pg.network 0x27 Sev.info
    (Hd.dx h + Hd.dy h * 2 ^ 4 + Hd.ep h * 2 ^ 7 + Hd.op h * 2 ^ 12)

/-- A VC 0 flit that finds no buffer waits for its next slot (R374). -/
def State.gtLate (s : State) (p : Packet) (n : Nat) : State :=
  if p.vc = 0 && s.flag Pg.network Net.GT_EN && n ≠ 0 then s.flitLate (Hd.dx p.h) (Hd.dy p.h) p.net n else s

/-! ### The fabric NET port (R382 to R384) -/

def State.np (s : State) (i : Nat) : NetPort := mget {} s.mesh.ports i
def State.setNp (s : State) (i : Nat) (v : NetPort) : State :=
  s.setMesh { s.mesh with ports := mset {} s.mesh.ports i v }

/-- Flits the port shows, for credits that allow it: 4 of a network and VC until the fabric returns one. -/
def portShow (v : NetPort) : List PortFlit → NetPort
  | [] => v
  | f :: fs =>
    let k := 4 * f.net + f.vc
    if mget 0 v.used k < 4 && !(v.waiting.any fun g => g.net = f.net && g.vc = f.vc) then
      portShow { v with used := mset 0 v.used k (mget 0 v.used k + 1), shown := some f, coming := v.coming ++ [f] } fs
    else portShow { v with waiting := v.waiting ++ [f] } fs

/-- Deliver flits to the fabric of region i. -/
def State.portDeliver (s : State) (i : Nat) (p : Packet) (fs : List PortFlit) : State :=
  let v := portShow (s.np i) fs
  let late := v.waiting.length - (s.np i).waiting.length
  (s.setNp i v).gtLate p late

/-- A packet of one flit. -/
def oneFlit (p : Packet) : List PortFlit := [⟨p.net, p.vc, true, true, false, p.h⟩]

/-- A DAT packet, data flits checked. -/
def datFlits (p : Packet) (fs : List (List Nat × Bool)) : List PortFlit :=
  ⟨p.net, p.vc, true, fs.isEmpty, false, p.h⟩ :: fs.zipIdx.map fun f =>
    ⟨p.net, p.vc, false, decide (f.2 + 1 = fs.length), f.1.2,
      f.1.1.zipIdx.foldl (fun n w => n + w.1 % 2 ^ 64 * 2 ^ (64 * w.2)) 0⟩

/-- The place is a NET port that can take an answer. -/
def State.portAt (s : State) (p : Place) : Option Nat :=
  match unitAt p with
  | some (.port i) => if s.endpointWhy p = none then some i else none
  | _ => none

/-! ### Memory endpoints (R338, R380, R381) -/

/-- RSP CODE of a memory endpoint (Table 11.6), without WRITE_SIZE. -/
def State.memWhy (s : State) (k line n : Nat) : Option Nat :=
  let e := if k < 100 then En.slab k else En.ddr (k - 100)
  let d := s.dom (domainOf e)
  if s.blk e = St.retired then some 4
  else if !s.isOn e then (if d.wake ≠ 0 ∧ d.fromOff then some 3 else some 4)
  else if 100 ≤ k && !s.trained (k - 100) then some 3
  else if (if k < 100 then rbLines else s.ddrUsable (k - 100)) < line + n then some 2
  else none

/-- A slab's refusal is counted and logged (R338). -/
def State.netRefused (s : State) (k code : Nat) : State :=
  if k < 100 then (s.count (Pg.slab k) Slab.NET_REF_CNT).logOnce (Pg.slab k) 0x27 Sev.info code else s

def State.memRead (s : State) (k w : Nat) : Nat × Bool × State :=
  if k < 100 then s.rbRead k w else s.ddrRead (k - 100) w

def State.memWrite (s : State) (k w d : Nat) (poison : Bool) : State :=
  if k < 100 then s.rbWrite k w d poison else s.ddrWrite (k - 100) w d poison

/-- Words w to w + n - 1. -/
def State.memWords (s : State) (k w : Nat) : Nat → List (Nat × Bool) × State
  | 0 => ([], s)
  | n + 1 =>
    let (d, p, s) := s.memRead k w
    let (ws, s) := s.memWords k (w + 1) n
    ((d, p) :: ws, s)

/-- Lines line to line + n - 1, as flits. -/
def State.memLines (s : State) (k line : Nat) : Nat → List Flit × State
  | 0 => ([], s)
  | n + 1 =>
    let (ws, s) := s.memWords k (8 * line) 8
    let (fs, s) := s.memLines k (line + 1) n
    (flitOf ws :: fs, s)

/-- READ_DATA in answer to header h. -/
def State.answerData (s : State) (h : Nat) (fs : List Flit) (shared : Bool) : State :=
  s.send ⟨Nw.dat, 1, datHeader 1 (sourceOf h) (destOf h) (Hd.tag h) fs.length shared 0 0, fs⟩

/-- Add region i as a sharer of n lines; whether every one is tracked. -/
def State.shareLines (s : State) (k line i : Nat) : Nat → Bool × State
  | 0 => (true, s)
  | n + 1 =>
    let (a, s) := s.share k line i
    let (b, s) := s.shareLines k (line + 1) i n
    (a && b, s)

/-- The region whose EP 1 sent header h. -/
def sharerOf (h : Nat) : Option Nat := if Hd.sep h = 1 then regionAt (Hd.sx h) (Hd.sy h) else none

/-- A READ or READ_SHARED at a memory endpoint. -/
def State.serveRead (s : State) (k h : Nat) (shared : Bool) : State :=
  let line := Hd.reqAddr h / 64
  let n := Hd.reqLen h
  match s.memWhy k line n with
  | some c => (s.netRefused k c).respond h 1 c
  | none =>
    let (fs, s) := s.memLines k line n
    match shared, sharerOf h with
    | true, some i =>
      let (t, s) := s.shareLines k line i n
      s.answerData h fs t
    | _, _ => s.answerData h fs false

/-- A RELEASE at a memory endpoint (R380). -/
def State.serveRelease (s : State) (k h : Nat) : State :=
  let line := Hd.reqAddr h / 64
  let s := (sharerOf h).elim s fun i => s.each (List.range (Hd.reqLen h)) fun j s => s.unshare k (line + j) i
  s.respond h 2 0

/-- The 64-bit words a WRITE names: word number and value with its poison. -/
def writeWords (h : Nat) (fs : List (List Nat × Bool)) : List (Nat × Nat × Bool) :=
  fs.zipIdx.flatMap fun f => (List.range 8).filterMap fun j =>
    if bitOf (Hd.wmask h) (8 * f.2 + j) = 1 then some (Hd.addr h / 8 + 8 * f.2 + j, f.1.1.getD j 0, f.1.2) else none

/-- A WRITE at a memory endpoint: the effect at once, the WRITE_DONE after every INV_ACK (R381). -/
def State.serveWrite (s : State) (k h : Nat) (fs : List (List Nat × Bool)) : State :=
  let refuse (s : State) (c : Nat) := (s.netRefused k c).respond h 0 c
  match s.memWhy k (Hd.addr h / 64) fs.length with
  | some c => refuse s (if c = 2 ∧ Hd.addr h % 64 ≠ 0 then 1 else c)
  | none =>
    if Hd.addr h % 64 ≠ 0 then refuse s 1
    else
      let ws := writeWords h fs
      let lines := (List.range fs.length).filter fun i => bitsOf (Hd.wmask h) (8 * i) 8 ≠ 0
      let left := lines.flatMap fun i => (s.sharers k (Hd.addr h / 64 + i)).map fun r => (Hd.addr h / 64 + i, r)
      let s := s.each ws fun w s => s.memWrite k w.1 w.2.1 w.2.2
      if left.isEmpty then s.respond h 0 0
      else
        let done : Packet := ⟨Nw.rsp, 1, headerOf 0 (sourceOf h) (destOf h) (Hd.tag h), []⟩
        s.setHome k { s.home k with waits := (s.home k).waits ++ [⟨left, done⟩] }

/-- Send the WRITE_DONEs whose INV_ACKs have all arrived. -/
def State.homeDone (s : State) (k : Nat) : State :=
  let h := s.home k
  let s := s.setHome k { h with waits := h.waits.filter fun w => !w.left.isEmpty }
  s.each (h.waits.filter fun w => w.left.isEmpty) fun w s => s.send w.done

/-- An INV_ACK of region i for a line reaches memory endpoint k. -/
def State.invAcked (s : State) (k line i : Nat) : State :=
  let h := s.home k
  (s.setHome k { h with waits := h.waits.map fun w => { w with left := w.left.erase (line, i) } }).homeDone k

/-- The number of a memory endpoint. -/
def memKey : Unit' → Option Nat
  | .slab i => some i
  | .ddr c => some (100 + c)
  | _ => none

/-! ### Logical engines as endpoints (R361) -/

/-- A lane as the data window shows it (R239). -/
def laneShown (x : Lane) : Nat := if x.2 then 2 ^ 31 else fieldOf 31 x.1

/-- The 64-bit word at byte offset o of engine t's data window. -/
def State.windowWord (s : State) (t o : Nat) : (Nat × Bool) × State :=
  let (a, s) := s.dmLane t (o / 128) (o % 128 / 4)
  let (b, s) := s.dmLane t (o / 128) (o % 128 / 4 + 1)
  ((laneShown a + laneShown b * 2 ^ 32, a.2 || b.2), s)

def State.windowWordsOf (s : State) (t o : Nat) : Nat → List (Nat × Bool) × State
  | 0 => ([], s)
  | n + 1 =>
    let (w, s) := s.windowWord t o
    let (ws, s) := s.windowWordsOf t (o + 8) n
    (w :: ws, s)

def dataWindowBytes : Nat := 0x40000

/-- A READ of an engine's data window; a flit with a poisoned lane carries POISON (log entry 46). -/
def State.engineRead (s : State) (t h : Nat) : State :=
  let a := Hd.reqAddr h / 64 * 64
  let n := Hd.reqLen h
  if dataWindowBytes < a + 64 * n then s.respond h 1 2
  else
    let (ws, s) := s.windowWordsOf t a (8 * n)
    let fs := (List.range n).map fun i => flitOf ((ws.drop (8 * i)).take 8)
    s.answerData h fs false

/-- A WRITE of an engine's data window. -/
def State.engineWrite (s : State) (t h : Nat) (fs : List (List Nat × Bool)) : State :=
  if Hd.addr h % 64 ≠ 0 then s.respond h 0 1
  else if dataWindowBytes < Hd.addr h + 64 * fs.length then s.respond h 0 2
  else
    let s := s.each (writeWords h fs) fun w s =>
      let o := 8 * w.1
      let p := if w.2.2 then 2 ^ 31 else 0
      let s := s.dmWindowWrite t (o / 128) (o % 128 / 4) (w.2.1 % 2 ^ 32 ||| p)
      s.dmWindowWrite t (o / 128) (o % 128 / 4 + 1) (w.2.1 / 2 ^ 32 ||| p)
    s.respond h 0 0

/-! ### Packets -/

/-- A REQ packet arrives: READ 0, READ_SHARED 1, RELEASE 2. -/
def State.reqArrives (s : State) (p : Packet) : State :=
  let h := p.h
  let op := if Hd.op h = 2 then 2 else 1
  match s.endpointWhy (destOf h), unitAt (destOf h) with
  | some c, _ => s.respond h op c
  | none, some (.port i) => s.portDeliver i p (oneFlit p)
  | none, some u =>
    match memKey u with
    | some k => if op = 2 then s.serveRelease k h else s.serveRead k h (Hd.op h = 1)
    | none =>
      if op = 2 then s.respond h 2 0
      else match u with
        | .engine n => (s.hostEngine n).elim s fun t => s.engineRead t h
        | _ => s.respond h 1 2
  | none, none => s

/-- READ (R362). -/
def execNetRead (vc : Fin 4) (h : BitVec 128) (s : State) : Host.Outcome State Fault Refusal :=
  .next (s.netIn 0 ⟨Nw.req, vc, h.toNat, []⟩ fun p s => s.reqArrives p)

/-- READ_SHARED (R380). -/
def execNetReadShared (vc : Fin 4) (h : BitVec 128) (s : State) : Host.Outcome State Fault Refusal :=
  .next (s.netIn 1 ⟨Nw.req, vc, h.toNat, []⟩ fun p s => s.reqArrives p)

/-- RELEASE (R380). -/
def execNetRelease (vc : Fin 4) (h : BitVec 128) (s : State) : Host.Outcome State Fault Refusal :=
  .next (s.netIn 2 ⟨Nw.req, vc, h.toNat, []⟩ fun p s => s.reqArrives p)

/-- A WRITE arrives. -/
def State.writeArrives (s : State) (p : Packet) : State :=
  let h := p.h
  match s.endpointWhy (destOf h), unitAt (destOf h) with
  | some c, _ => s.respond h 0 c
  | none, none => s
  | none, some u =>
    let (fs, s) := s.checkFlits h p.flits
    match u with
    | .port i => s.portDeliver i p (datFlits p fs)
    | .engine n => (s.hostEngine n).elim s fun t => s.engineWrite t h fs
    | _ => (memKey u).elim (s.respond h 0 2) fun k => s.serveWrite k h fs

/-- WRITE (R381). -/
def execNetWrite (vc : Fin 4) (h : BitVec 512) (flits : List DataFlit) (s : State) : Host.Outcome State Fault Refusal :=
  .next (s.netIn 0 ⟨Nw.dat, vc, h.toNat, flitsOf flits⟩ fun p s => s.writeArrives p)

/-- The NET port of region i has an answer with this tag; false when the answer is discarded (R383). -/
def State.portAnswer (s : State) (i tag : Nat) : Bool × State :=
  let v := s.np i
  if v.late.contains tag then (false, s.setNp i { v with late := v.late.erase tag })
  else (true, s.setNp i { v with asked := v.asked.erase tag })

/-- READ_DATA arrives at its requester. -/
def State.dataArrives (s : State) (p : Packet) : State :=
  let h := p.h
  match s.portAt (destOf h), unitAt (destOf h) with
  | some i, _ =>
    let (fs, s) := s.checkFlits h p.flits
    let (ok, s) := s.portAnswer i (Hd.tag h)
    if ok then s.portDeliver i p (datFlits p fs) else s
  | none, some .pcie =>
    let (fs, s) := s.checkFlits h p.flits
    s.userData (Hd.tag h) fs
  | none, _ => s.discard h

/-- READ_DATA (R362). -/
def execNetReadData (vc : Fin 4) (h : BitVec 512) (flits : List DataFlit) (s : State) : Host.Outcome State Fault Refusal :=
  .next (s.netIn 1 ⟨Nw.dat, vc, h.toNat, flitsOf flits⟩ fun p s => s.dataArrives p)

/-- The words of an EVENT: those of a packer's without the padding of its last flit. -/
def ownWords (h : Nat) (ws : List (Nat × Bool)) : List (Nat × Bool) := if Hd.sep h = 2 then eventWords ws else ws

/-- An EVENT arrives (§09.3). -/
def State.eventArrives (s : State) (p : Packet) : State :=
  let h := p.h
  let place := destOf h
  match unitAt place with
  | some (.slab i) => s.netRefused i 2
  | some (.ddr c) =>
    if s.blk (En.ddr c) = St.retired then s.discard h
    else
      let (fs, s) := s.checkFlits h p.flits
      let r := bitsOf (Hd.addr h) 6 2
      let full := !s.ringRoom c r fs.length
      let s := s.ddrEvent c r (fs.flatMap fun f => f.1.map fun w => (w, f.2))
      s.gtLate p (bit (full && !(s.ringWaiting c r).isEmpty))
  | some u =>
    if s.endpointWhy place ≠ none then s.discard h
    else
      let (fs, s) := s.checkFlits h p.flits
      let ws := fs.flatMap fun f => f.1.map fun w => (w, f.2)
      match u with
      | .port i => s.portDeliver i p (datFlits p fs)
      | .tx g =>
        let s := s.txEvent g (Hd.addr h) (ownWords h ws)
        s.gtLate p (bit (!(halfOf (s.txg g) (bitOf (Hd.addr h) 6)).wait.isEmpty))
      | .pcie =>
        let i := (regionAt (Hd.sx h) (Hd.sy h)).getD 0
        let ws := ownWords h ws
        let full := !s.hostRoom (s.ringSel i) (8 * ws.length)
        let s := s.hostEvent i ws
        s.gtLate p (bit (full && !(s.hostRing (s.ringSel i)).isEmpty))
      | _ => s.discard h
  | none => s.discard h

/-- EVENT (R362). -/
def execNetEvent (vc : Fin 4) (h : BitVec 512) (flits : List DataFlit) (s : State) : Host.Outcome State Fault Refusal :=
  .next (s.netIn 2 ⟨Nw.dat, vc, h.toNat, flitsOf flits⟩ fun p s => s.eventArrives p)

/-- An RSP arrives at its requester; one that finds none is consumed. -/
def State.rspArrives (s : State) (p : Packet) (host : State → State) : State :=
  match s.portAt (destOf p.h), unitAt (destOf p.h) with
  | some i, _ =>
    let (ok, s) := s.portAnswer i (Hd.tag p.h)
    if ok then s.portDeliver i p (oneFlit p) else s
  | none, some .pcie => host s
  | none, _ => s

/-- A WRITE_DONE arrives. -/
def State.doneArrives (s : State) (p : Packet) : State :=
  s.rspArrives p fun s => if Hd.code p.h = 0 then s.userEnd (Hd.tag p.h) true [] else s.userAbort (Hd.tag p.h) (Hd.code p.h)

/-- WRITE_DONE (R362). -/
def execWriteDone (vc : Fin 2) (h : BitVec 64) (s : State) : Host.Outcome State Fault Refusal :=
  .next (s.netIn 0 ⟨Nw.rsp, vc, h.toNat, []⟩ fun p s => s.doneArrives p)

/-- A READ_FAIL arrives. -/
def State.failArrives (s : State) (p : Packet) : State :=
  s.rspArrives p fun s => s.userAbort (Hd.tag p.h) (Hd.code p.h)

/-- READ_FAIL (R362). -/
def execReadFail (vc : Fin 2) (h : BitVec 64) (s : State) : Host.Outcome State Fault Refusal :=
  .next (s.netIn 1 ⟨Nw.rsp, vc, h.toNat, []⟩ fun p s => s.failArrives p)

/-- RELEASE_DONE (R380). -/
def execReleaseDone (vc : Fin 2) (h : BitVec 64) (s : State) : Host.Outcome State Fault Refusal :=
  .next (s.netIn 2 ⟨Nw.rsp, vc, h.toNat, []⟩ fun p s => s.rspArrives p id)

/-- An INV arrives at a sharer. -/
def State.invArrives (s : State) (p : Packet) : State :=
  match s.portAt (destOf p.h) with
  | some i => s.portDeliver i p (oneFlit p)
  | none => s.discard p.h

/-- INV (R381). -/
def execInv (vc : Fin 2) (h : BitVec 64) (s : State) : Host.Outcome State Fault Refusal :=
  .next (s.netIn 0 ⟨Nw.snp, vc, h.toNat, []⟩ fun p s => s.invArrives p)

/-- An INV_ACK arrives. -/
def State.ackArrives (s : State) (p : Packet) : State :=
  match s.portAt (destOf p.h), (unitAt (destOf p.h)).bind memKey with
  | some i, _ => s.portDeliver i p (oneFlit p)
  | none, some k => (regionAt (Hd.sx p.h) (Hd.sy p.h)).elim s fun i => s.invAcked k (Hd.line p.h) i
  | none, none => s

/-- INV_ACK (R381). -/
def execInvAck (vc : Fin 2) (h : BitVec 64) (s : State) : Host.Outcome State Fault Refusal :=
  .next (s.netIn 1 ⟨Nw.snp, vc, h.toNat, []⟩ fun p s => s.ackArrives p)

/-! ### The network clock -/

/-- What an arriving packet does, by its network and OP; a reserved OP does nothing. -/
def State.arrives (s : State) (p : Packet) : State :=
  match p.net, Hd.op p.h with
  | 0, 0 => s.reqArrives p
  | 0, 1 => s.reqArrives p
  | 0, 2 => s.reqArrives p
  | 1, 0 => s.doneArrives p
  | 1, 1 => s.failArrives p
  | 1, 2 => s.rspArrives p id
  | 2, 0 => s.invArrives p
  | 2, 1 => s.ackArrives p
  | 3, 0 => s.writeArrives p
  | 3, 1 => s.dataArrives p
  | 3, 2 => s.eventArrives p
  | _, _ => s

/-- One network-clock edge (log entry 40): every output sends at most one flit, and packets whose TAIL has left the last
router arrive. -/
def State.netEdge (s : State) : State :=
  if !s.netRuns then s
  else
    let late := s.lateLeads s.leads
    let m := s.moved
    let (out, rest) := m.flight.partition Worm.arrived
    let s := s.setMesh { m with flight := rest, edge := m.edge + 1, slot := if m.slot + 1 < s.netK then m.slot + 1 else 0 }
    let s := s.each late fun l s => s.flitLate l.router.1 l.router.2 l.w.p.net 1
    s.each out fun w s => s.arrives w.p

/-- SNP_TIMEOUT (R381): SNP_TMO has passed for a write to this line; 0 waits without end. -/
def execSnpTimeout (unit : SharedHome) (line : Nat) (s : State) : Host.Outcome State Fault Refusal :=
  .next (
    let k := homeKey unit
    let h := s.home k
    if s.rd Pg.network Net.SNP_TMO ≠ 0 && h.waits.any fun w => w.left.any fun l => l.1 = line then
      let p := homePlace k
      let s := ((s.count Pg.network Net.SNP_TMO_CNT).irq Pg.network 19).logHw Pg.network 0x24 Sev.info
        (p.x + p.y * 2 ^ 4 + p.ep * 2 ^ 7)
      let ws := h.waits.map fun w => if w.left.any fun l => l.1 = line then { w with left := [] } else w
      (s.setHome k { h with waits := ws }).homeDone k
    else s)

/-! ### Link errors and spare wires (R376, R377) -/

/-- A check fails on a link and the flit is replayed, which keeps the link for 6 network-clock edges (R376). -/
def State.hopError (s : State) (x y out net : Nat) : State :=
  let pg := Pg.network
  let l := linkKey x y out net
  let s := (s.count pg Net.HOP_ERR_CNT).count pg Net.RETRY_CNT
  let s := (((s.wr pg Net.ERR_X x).wr pg Net.ERR_Y y).wr pg Net.ERR_PORT out).wr pg Net.ERR_NET net
  let s := (s.irq pg 16).logOnce pg 0x20 Sev.corrected l l
  let ts := (s.us :: mget [] s.mesh.replays l).take 17
  let busy : Bool := ts.length = 17 && decide (s.us < ts.getLastD 0 + 1000)
  s.setMesh { s.mesh with replays := mset [] s.mesh.replays l ts, busy := mset 0 s.mesh.busy l (s.mesh.edge + 6)
                          tests := if busy && !s.mesh.tests.contains l then s.mesh.tests ++ [l] else s.mesh.tests }

/-- HOP_ERR (R376). -/
def execHopErr (x : Fin 12) (y : Fin 8) (out : Fin 5) (net : Fin 4) (s : State) : Host.Outcome State Fault Refusal :=
  .next (if s.netRuns then s.hopError x y out net else s)

/-- The network's wire record of wire w of a link. -/
def wirePlace (l w : Nat) : Nat := l + w * 2 ^ 12

/-- The test of a link that asked for it finds wire w failed (R377): 2 spares for each group of 64 wires. -/
def State.wireFail (s : State) (l w : Nat) : State :=
  let pg := Pg.network
  let e := En.network
  let mine (r : Repair) : Bool := r.entry = e && r.kind = 6 && r.place % 2 ^ 12 = l && r.place / 2 ^ 12 / 64 = w / 64
  let used := (s.repairs.filter fun r => mine r && r.spare ≠ 0xFFFF).length
  if used < 2 then
    let s := (s.addRepair ⟨e, 6, false, false, used, wirePlace l w⟩).wr pg Net.SPARES_FREE (s.rd pg Net.SPARES_FREE - 1)
    (s.irq pg 20).logHw pg 0x25 Sev.corrected (wirePlace l w)
  else
    let s := (s.addRepair ⟨e, 6, false, true, 0xFFFF, wirePlace l w⟩).count pg Net.DEAD_WIRES
    ((s.irq pg 21).logHw pg 0x26 Sev.degraded (wirePlace l w)).degrade e 0x26

/-- LINK_TEST (R377). -/
def execLinkTest (x : Fin 12) (y : Fin 8) (out : Fin 5) (net : Fin 4) (badWire : Option (BitVec 10)) (s : State) :
    Host.Outcome State Fault Refusal :=
  .next (s.simultaneous fun s =>
    let l := linkKey x y out net
    if !s.mesh.tests.contains l then s
    else
      let s := s.setMesh { s.mesh with tests := s.mesh.tests.erase l, replays := mset [] s.mesh.replays l [] }
      badWire.elim s fun w => s.wireFail l w.toNat)

/-! ### Time slots (R372, R373) -/

/-- A write through the slot window. -/
def State.slotWindow (s : State) (off v : Nat) : State :=
  let bank := off / 0x40000
  let idx := off % 0x40000 / 2
  if bank = s.rd Pg.network Net.ACT_TBL then s.ignored Pg.network
  else if 122880 ≤ idx then s
  else s.setMesh { s.mesh with slots := mset 0 s.mesh.slots (bank * 2 ^ 17 + idx) (v % 256) }

/-- SLOT_WINDOW_WRITE (R372). -/
def execSlotWindowWrite (ag : Agent) (off : BitVec 19) (v : BitVec 16) (s : State) : Host.Outcome State Fault Refusal :=
  .next (s.access ag Pg.network (fun s => s.slotWindow off.toNat v.toNat) ((0x0F000000 + off.toNat) / 4096))

/-- A write of 1 to TBL_COMMIT (R373); while a commit waits it does nothing (R14). -/
def State.slotCommit (s : State) : State :=
  if s.flag Pg.network Net.TBL_PEND then s.ignored Pg.network
  else (s.wr Pg.network Net.TBL_PEND 1).setMesh { s.mesh with commitAt := s.time64 }

/-- TBL_COMMIT (R373). -/
def execTblCommit (ag : Agent) (s : State) : Host.Outcome State Fault Refusal :=
  .next (s.access ag Pg.network State.slotCommit)

/-- SLOT_TABLE_SWITCH (R373): slot 0 of the first bucket of the next observed lay-by, or of the next turn. -/
def execSlotTableSwitch (s : State) : Host.Outcome State Fault Refusal :=
  .next (
    let pg := Pg.network
    if s.rd pg Net.TBL_PEND = 1 && s.quietPoint && decide (s.mesh.commitAt < s.time64) && s.netRuns then
      let b := 1 - s.rd pg Net.ACT_TBL
      let s := ((s.wr pg Net.ACT_TBL b).wr pg Net.TBL_PEND 0).wr pg Net.TBL_DONE 1
      (s.irq pg 22).logHw pg 0x28 Sev.info b
    else s)

/-! ### Flits of the fabric (R382, R383) -/

/-- The port's pulse. -/
def State.pulse (s : State) (i : Nat) (p : NetPulse) : State := s.setNp i { s.np i with pulse := some p }

/-- The fabric's packet enters the network, or is refused with a pulse; READ and WRITE are timed (R383). -/
def State.portSend (s : State) (i : Nat) (p : Packet) : State :=
  let (w, s) := s.inject p (regionPlace i 1)
  match w with
  | .noRoute => s.pulse i .refused
  | .noSlot => s.pulse i .noSlot
  | .sent =>
    let timed : Bool := s.rd Pg.network Net.REQ_TMO ≠ 0 &&
      ((p.net = Nw.req && Hd.op p.h ≤ 1) || (p.net = Nw.dat && Hd.op p.h = 0))
    if timed then s.setNp i { s.np i with asked := (s.np i).asked ++ [Hd.tag p.h], late := (s.np i).late.erase (Hd.tag p.h) }
    else s

/-- Bits of a flit by network. -/
def flitWidth (net : Nat) : Nat := if net = Nw.req then 128 else if net = Nw.dat then 512 else 64

/-- A flit of the fabric with a credit: a packet goes when its TAIL has come; the port forms CHK. -/
def State.portFlit (s : State) (i : Nat) (f : PortFlit) : State :=
  if f.net ≠ Nw.dat then s.portSend i ⟨f.net, f.vc, f.flit, []⟩
  else
    let v := s.np i
    let fs := if f.head then [f] else mget [] v.parts f.vc ++ [f]
    match fs with
    | h :: body =>
      if !h.head then s
      else if !f.tail then s.setNp i { v with parts := mset [] v.parts f.vc fs }
      else
        let s := s.setNp i { v with parts := mset [] v.parts f.vc [] }
        let words (g : PortFlit) := (List.range 8).map fun j => (bitsOf g.flit (64 * j) 64, g.poison)
        let flits := body.map fun g => { flitOf (words g) with poison := g.poison }
        s.portSend i ⟨Nw.dat, f.vc, h.flit, flits⟩
    | [] => s

/-- Region i's fabric writes a flit on its NET port (R382, R383). -/
def State.netPortFlit (s : State) (i net vc : Nat) (head tail poison : Bool) (flit : Nat) : State :=
  let vc := if net = Nw.rsp ∨ net = Nw.snp then vc % 2 else vc
  let k := 4 * net + vc
  if !s.regionRuns i || !s.netPort i || !s.netRuns then s
  else if 4 ≤ mget 0 (s.np i).sent k then
    (s.pulse i .refused).logHw Pg.network 0x29 Sev.info (i + net * 2 ^ 6)
  else
    let s := s.setNp i { s.np i with sent := mset 0 (s.np i).sent k (mget 0 (s.np i).sent k + 1) }
    s.portFlit i ⟨net, vc, head, tail, poison, flit % 2 ^ flitWidth net⟩

/-- NET_PORT_FLIT (R382, R383). -/
def execNetPortFlit (region : Fin 40) (net vc : Fin 4) (head tail poison : Bool) (flit : BitVec 512) (s : State) :
    Host.Outcome State Fault Refusal :=
  .next (s.netPortFlit region net vc head tail poison flit.toNat)

/-- A credit of VC k of a network, numbered 4 · network + VC, comes back to the port of region i: `toFabric` for the flits
the fabric sends (R382). -/
def State.creditReturn (s : State) (i k : Nat) (toFabric : Bool) : State :=
  let v := s.np i
  if toFabric then s.setNp i { v with sent := mset 0 v.sent k (mget 0 v.sent k - 1) }
  else
    let v := { v with used := mset 0 v.used k (mget 0 v.used k - 1) }
    s.setNp i (portShow { v with waiting := [] } v.waiting)

/-- NET_CREDIT_RETURN (R382): a pulse on a credit wire, towards the fabric or from it. -/
def execNetCreditReturn (region : Fin 40) (net vc : Fin 4) (toFabric : Bool) (s : State) :
    Host.Outcome State Fault Refusal :=
  .next (s.creditReturn region (4 * net + vc) toFabric)

/-- REQ_TIMEOUT (R383): REQ_TMO has passed without an answer to this tag. -/
def execReqTimeout (region : Fin 40) (tag : BitVec 8) (s : State) : Host.Outcome State Fault Refusal :=
  .next (
    let v := s.np region
    if s.rd Pg.network Net.REQ_TMO ≠ 0 && v.asked.contains tag.toNat then
      s.setNp region { v with asked := v.asked.erase tag.toNat, late := v.late ++ [tag.toNat], pulse := some (.tmo tag.toNat) }
    else s)

end Sys2Proof.Machine
end

