-- ==== Sys2Proof/Machine/LoaderOps.lean ====
section
/-! DEFINITION. Machine/LoaderOps.lean: what other chapters see of the loader: its registers, the fence, an abort, a new
stream, and the keys (R206, R207, R220, R482). -/

namespace Sys2Proof.Machine

/-! ### Frame addresses (R199) -/

structure Far where
  ctx : Nat
  layer : Nat
  band : Nat
  col : Nat
  minor : Nat
  deriving DecidableEq, Repr

/-- Table 07.3. -/
def farOf (w : Nat) : Far := ⟨bitsOf w 29 3, bitsOf w 28 1, bitsOf w 26 2, bitsOf w 17 9, bitsOf w 12 5⟩

def farWord (f : Far) : Nat := f.ctx * 2 ^ 29 + f.layer * 2 ^ 28 + f.band * 2 ^ 26 + f.col * 2 ^ 17 + f.minor * 2 ^ 12

/-- The region instance a frame falls in, and its column there. -/
def Far.region (f : Far) : Nat := f.layer * 20 + f.band * 5 + f.col / 64
def Far.x (f : Far) : Nat := f.col % 64

/-- Block within the column and half of it, for minors 18 to 21 (R203). -/
def Far.block (f : Far) : Nat := (8 * (f.minor - 18) + f.ctx) / 2
def Far.half (f : Far) : Nat := (8 * (f.minor - 18) + f.ctx) % 2

/-- The FAR after a frame (R199). -/
def farNext (w : Nat) : Nat :=
  let f := farOf w
  let f := if f.minor = 15 then { f with minor := 0, col := f.col + 1 }
    else if f.minor < 15 then { f with minor := f.minor + 1 } else { f with col := f.col + 1 }
  let f := if f.col = 320 then { f with col := 0, band := f.band + 1 } else f
  let f := if f.band = 4 then { f with band := 0, layer := f.layer + 1 } else f
  let f := if f.layer = 2 then { f with layer := 0, ctx := (f.ctx + 1) % 8 } else f
  farWord f

/-- Row band 0 to 3 always holds; COL and MINOR valid and bits [11:0] zero (check 2 of Table 07.5). -/
def farOk (w : Nat) : Bool := w % 4096 = 0 && bitsOf w 17 9 < 320 && bitsOf w 12 5 ≤ 21

def State.ldRd (s : State) (r : Row) : Nat := s.rd Pg.loader r
def State.ldWr (s : State) (r : Row) (v : Nat) : State := s.wr Pg.loader r v
def State.setLd (s : State) (l : Ld) : State := { s with ld := l }

/-- CFG_MODE as it acts: a reserved code acts as 0 (R190). -/
def State.cfgMode (s : State) : Nat :=
  let m := s.rd 0 Wbh.CFG_MODE
  if m < 3 then m else 0

/-- A stream is open (SYNCED). -/
def State.streamOpen (s : State) : Bool := s.flag Pg.loader Ld.SYNCED
/-- The open stream is a full image. -/
def State.ldFull (s : State) : Bool := bitOf s.ld.flags 0 = 1

/-- Region i, and context c, lie inside the fence (Table 07.9). -/
def State.inFence (s : State) (i : Nat) : Bool :=
  bitOf (s.ldRd Ld.RFENCE_LO + s.ldRd Ld.RFENCE_HI * 2 ^ 32) i = 1
def State.ctxInFence (s : State) (c : Nat) : Bool := bitOf (s.ldRd Ld.RFENCE_CTX) c = 1

/-- Write the fence (R207). -/
def State.setFence (s : State) (lo hi ctx : Nat) : State :=
  ((s.ldWr Ld.RFENCE_LO lo).ldWr Ld.RFENCE_HI hi).ldWr Ld.RFENCE_CTX ctx

/-! Abort reasons (Table 07.9). -/
namespace Abort
def crc : Nat := 1
def fence : Nat := 2
def profile : Nat := 3
def live : Nat := 4
def check : Nat := 5
def badCmd : Nat := 6
def auth : Nat := 7
def stall : Nat := 8
def overflow : Nat := 9
def temp : Nat := 10
def badReg : Nat := 11
def state : Nat := 12
def member : Nat := 13
def resync : Nat := 14
def host : Nat := 15
end Abort

/-- The STAT bit named for a reason (R206). -/
def abortBit (why : Nat) : Option Row :=
  match why with
  | 1 => some Ld.CRC_ERR
  | 2 => some Ld.FENCE_VIOLATION
  | 3 => some Ld.PROFILE_REFUSED
  | 4 => some Ld.LIVE_REFUSED
  | 5 => some Ld.CHECK_REJECT
  | 7 => some Ld.AUTH_FAIL
  | _ => none

/-- INV_CAUSE of the contexts an abort leaves (R206). -/
def abortCause (why : Nat) : Nat := if why = Abort.fence then 2 else if why = Abort.crc ∨ why = Abort.auth then 5 else 1

/-- What a stream leaves behind when it is over: nothing but what the loader keeps across streams. -/
def Ld.idle (l : Ld) : Ld :=
  { l with order := 0, op := 0, left := 0, kept := [], written := [], banks := [], wreg := [], jobs := [], buf := []
           enc := none, seen := [], macOk := false, macOn := true }

/-- A stream aborts (R206). `far` is the FAR of the frame that caused it. -/
def State.ldAbort (s : State) (why chk : Nat) (far : Option Nat) : State :=
  let full := s.ldFull
  let src := s.ldRd Ld.SRC
  let s := s.each s.ld.written fun w s => s.ctxInvalid w.1 w.2 (abortCause why)
  let s := (s.setLd s.ld.idle).ldWr Ld.ABORTED 1
  let s := (abortBit why).elim s fun r => s.ldWr r 1
  let s := ((s.ldWr Ld.WHY why).ldWr Ld.CHK_WHY chk).ldWr Ld.ABORT_FULL (bit full)
  let s := ((s.ldWr Ld.ABORT_SRC src).ldWr Ld.ABORT_FAR (far.getD 0xFFFFFFFF)).count Pg.loader Ld.CNT_ABORT
  let s := (s.ldWr Ld.SYNCED 0).ldWr Ld.SRC 0
  let s := (s.irq Pg.loader 19).logHw Pg.loader 0x20 Sev.degraded (why + chk * 2 ^ 4 + bit full * 2 ^ 7 + src * 2 ^ 8)
  let s := far.elim s fun f => s.logHw Pg.loader 0x21 Sev.info f
  if full then
    let s := (s.ldWr Ld.CFG_ERR 1).doIf (s.ldRd Ld.PHASE = 5) fun s => s.ldWr Ld.PHASE 4
    s.setLd { s.ld with late := [], srcWrites := [], profiles := [], lastByte := none }
  else s

/-- A sync word is accepted from port src (R193, R220). -/
def State.newStream (s : State) (src : Nat) : State :=
  let l := s.ld.idle
  let s := s.setLd { l with flags := 0, selected := true, far := 0, last := none, regions := [], skipped := []
                            busyTold := false, fenceSeen := false }
  (((s.ldWr Ld.SYNCED 1).ldWr Ld.SRC src).ldWr Ld.CFG_ERR 0).irq Pg.loader 16

/-- IMAGE_TIMER (Table 07.9): milliseconds since enumeration, until the last byte of the full image. -/
def State.imageTimer (s : State) : Nat :=
  match s.ld.enumerated with
  | none => 0
  | some t => min ((s.ld.lastByte.getD s.us - t) / 1000) 0xFFFF

/-- PSREADY (R191, R208, R216). -/
def State.psReady (s : State) : Bool :=
  s.rd 0 Wbh.CFG_MODE = 2 && s.flag Pg.loader Ld.READY && (s.ldRd Ld.SRC = 0 || s.ldRd Ld.SRC = 3) &&
    s.ld.buf.length < 16384 && s.ld.fifo.length < 56

/-- A write of 1 to RB_GO (R222): RB_FAR is taken as it stands; while a readback runs, R14 holds. -/
def State.readbackGo (s : State) : State :=
  if s.flag Pg.loader Ld.RB_BUSY then s.ignored Pg.loader
  else (s.setLd { s.ld with rbFar := s.ldRd Ld.RB_FAR }).ldWr Ld.RB_BUSY 1

/-- The 32 bytes of the key in a slot (R482); slot 0 was fused at manufacture and its value is open (log entry 2). -/
def State.keyBytes (s : State) (slot : Nat) : List Nat :=
  beBytes 32 (if slot = 0 then Config.fusedKey 0 else mget 0 s.keys slot)

end Sys2Proof.Machine
end

