-- ==== Sys2Proof/Machine/Thermal.lean ====
section
/-! DEFINITION. Machine/Thermal.lean: power measurement and the power cap, temperature points, the model of layer C, zones,
windows and board channels (§14.3 to §14.7). Temperatures are in eighths of a degree. -/

namespace Sys2Proof.Machine

def State.thRd (s : State) (r : Row) (i : Nat := 0) : Nat := s.rd Pg.thermal r i
def State.thWr (s : State) (r : Row) (v : Nat) (i : Nat := 0) : State := s.wr Pg.thermal r v i

/-! ### Points (R436 to R441) -/

/-- Reading of point p. -/
def State.temp (s : State) (p : Nat) : Int := signedOf 16 (s.thRd Thr.TEMP p)

/-- State of point p itself: 0 OK, 1 SUSPECT, 2 BROKEN. -/
def State.ownState (s : State) (p : Nat) : Nat := s.thRd Thr.PSTATE p

/-- PSTATE as it reads: MASKED in place of the point's own state (R450). -/
def State.pstate (s : State) (p : Nat) : Nat := if s.thRd Thr.MASK p = 1 then 3 else s.ownState p

/-- The zone of point p (Table 14.6): 0 to 19, 20 + k for a shallot, 32 for Z_B. -/
def zoneOfPoint (p : Nat) : Nat :=
  if 144 ≤ p then 20 + (p - 144) / 3 else if p < 24 || 20 ≤ p % 24 then 32 else p % 24

def allPoints : List Nat := List.range 180

/-- Points of zone z. -/
def pointsOf (z : Nat) : List Nat := allPoints.filter fun p => zoneOfPoint p = z

/-- The highest of a list of readings. -/
def highestTemp : List Int → Option Int
  | [] => none
  | t :: ts => some (ts.foldl max t)

def State.limitT (s : State) (r : Row) : Int := 8 * (s.thRd r : Int)

/-- The effective reading of point p (R441). -/
def State.effective (s : State) (p : Nat) : Int :=
  match s.pstate p with
  | 0 => s.temp p
  | 3 =>
    if 72 ≤ p ∧ p < 96 then signedOf 16 (s.thRd Thr.MODEL (p - 72))
    else
      let others := (pointsOf (zoneOfPoint p)).filter fun q => q ≠ p && s.pstate q = 0
      (highestTemp (others.map s.temp)).getD (Config.orphanReading p)
  | _ => s.limitT Thr.T_SHED

/-- A point becomes BROKEN (R438): number, and whether it is an external channel. -/
def State.broken (s : State) (n : Nat) (ext : Bool) : State :=
  let s := if ext then s.thWr Thr.EXT_BROKEN 1 n else s.thWr Thr.PSTATE 2 n
  ((s.irq Pg.thermal 20).count Pg.thermal Thr.CNT_BROKEN).logHw Pg.thermal 0x24 Sev.degraded (n + bit ext * 2 ^ 8)

/-- RATE of point p times 2, in 0.5 K/s units: its reading less its reading 100 ms earlier (R437); 0 before there is
one. -/
def State.rate2 (s : State) (p : Nat) : Int :=
  let h := (mget {} s.points p).hist
  match h[0]?, h[100]? with
  | some a, some b => 5 * (a - b)
  | _, _ => 0

/-- The RATE field. A rate outside its range is a value the table does not give (log entry 28). -/
def State.showRate (s : State) (p : Nat) : State :=
  let r := s.rate2 p / 2
  if -128 ≤ r ∧ r ≤ 127 then s.thWr Thr.RATE (fieldOf 8 r) p
  else let (v, s) := s.draw; s.thWr Thr.RATE v p

/-- One reading (R437, R438). -/
def State.convert (s : State) (r : TempReading) : State :=
  let p := r.point.val
  let ext : Bool := decide (180 ≤ p)
  let e := p - 180
  if ext && s.thRd Thr.EXT_EN e = 0 then s
  else
    let pt := mget {} s.points p
    let fails := if r.refFail then pt.refFails + 1 else 0
    let s := { s with points := mset {} s.points p { hist := (r.eighths :: pt.hist).take 101, refFails := fails } }
    let bad : Bool := r.openOrShort || r.eighths < -320 || 1200 < r.eighths || 3 ≤ fails
    if ext then
      let s := s.thWr Thr.EXT_TEMP (fieldOf 16 r.eighths) e
      s.doIf (bad && s.thRd Thr.EXT_BROKEN e = 0) fun s => s.broken e true
    else
      let s := (s.thWr Thr.TEMP (fieldOf 16 r.eighths) p).showRate p
      s.doIf (bad && s.ownState p ≠ 2) fun s => s.broken p false

/-! ### Windows (R447, R448) -/

/-- Every point of layer `first / 24` reads from lo to hi and none of them is SUSPECT or BROKEN. -/
def State.windowOpen (s : State) (first : Nat) (lo hi : Int) : Bool :=
  (List.range 24).all fun j =>
    let p := first + j
    (s.pstate p = 0 || s.pstate p = 3) && 8 * lo ≤ s.effective p && s.effective p ≤ 8 * hi

/-- One window follows the readings: a change is logged, a closure latched. -/
def State.windowLook (s : State) (fuse : Bool) : State :=
  let r := if fuse then Thr.FUSE_WIN else Thr.CFG_WIN
  let now := if fuse then s.windowOpen 0 15 60 else s.windowOpen 72 (-5) 95
  if bit now = s.thRd r then s
  else
    let s := s.thWr r (bit now)
    let s := s.doIf (!now) fun s => s.irq Pg.thermal 21
    let s := s.doIf (!now && !fuse) fun s => s.count Pg.thermal Thr.CNT_WIN_CLOSE
    s.logHw Pg.thermal 0x25 Sev.info (bit fuse + 2 * bit now)

def State.windows (s : State) : State := (s.windowLook false).windowLook true

/-- TEMP_CONVERSION (R437): the converters read every point. -/
def execTempConversion (readings : List TempReading) (s : State) : Host.Outcome State Fault Refusal :=
  .next (s.simultaneous fun s => (s.each readings fun r s => s.convert r).windows)

/-! ### The model of layer C (R439, R440) -/

/-- Power of configuration plane j in 10 mW. -/
def State.planePower (s : State) (j : Nat) : Nat := s.rd Pg.power Pwr.POWER (80 + j)

/-- MODEL_j times 400,000, in eighths of a degree; none when neither neighbour reads. -/
def State.modelOf (s : State) (j : Nat) : Option Int :=
  let a := 48 + j; let b := 96 + j
  let okA := s.ownState a = 0; let okB := s.ownState b = 0
  let ta := if okA then s.temp a else s.temp b
  let tb := if okB then s.temp b else s.temp a
  let p40 := if j < 20 then 40 * s.planePower j else ((List.range 40).map s.planePower).sum
  if okA || okB then some ((ta + tb) * 200000 + 8 * (s.thRd Thr.THETA_C : Int) * (p40 : Int)) else none

/-- A point of layer C becomes SUSPECT by a rule (R440). -/
def State.suspect (s : State) (p rule : Nat) : State :=
  let s := (s.thWr Thr.PSTATE 1 p).count Pg.thermal Thr.CNT_SUSPECT
  (s.irq Pg.thermal 19).logHw Pg.thermal 0x23 Sev.degraded (p + rule * 2 ^ 8)

/-- One evaluation of position j. -/
def State.modelCheck (s : State) (j : Nat) : State :=
  let p := 72 + j
  match s.modelOf j with
  | none => { s with cchecks := mset {} s.cchecks j {} }
  | some m =>
    let s := s.thWr Thr.MODEL (fieldOf 16 (m / 400000)) j
    let c := mget {} s.cchecks j
    let t := s.temp p * 400000
    let warn := 2 * (s.thRd Thr.RATE_WARN : Int)
    let above : Bool := t + 64 * 400000 < m
    let still : Bool := (warn < s.rate2 (48 + j) || warn < s.rate2 (96 + j)) && s.rate2 p < 4
    let near : Bool := m - t ≤ 32 * 400000 && t - m ≤ 32 * 400000
    let c : CCheck := { formed := true, run0 := if above then c.run0 + 1 else 0
                        run1 := if still then c.run1 + 1 else 0, okRun := if near && s.ownState p = 1 then c.okRun + 1 else 0 }
    let s := { s with cchecks := mset {} s.cchecks j c }
    match s.ownState p with
    | 0 => if 10 ≤ c.run0 then s.suspect p 0 else if 100 ≤ c.run1 then s.suspect p 1 else s
    | 1 => if 10000 ≤ c.okRun then s.thWr Thr.PSTATE 0 p else s
    | _ => s

/-- MODEL_EVALUATION (R439, R440); the windows follow (R447). -/
def execModelEvaluation (s : State) : Host.Outcome State Fault Refusal :=
  .next (s.simultaneous fun s => (s.each (List.range 24) fun j s => s.modelCheck j).windows)

/-! ### Zones (R443, R444) -/

/-- Domains zone z acts on (Table 14.6). -/
def State.domainsOfZone (s : State) (z : Nat) : List Nat := (List.range 270).filter fun d => (s.zonesOf d).contains z

/-- The point with the highest value of f among ps, the first where several have it. -/
def pointMax (f : Nat → Int) : List Nat → Nat × Int
  | [] => (0, 0)
  | p :: ps => ps.foldl (fun (best : Nat × Int) q => if best.2 < f q then (q, f q) else best) (p, f p)

/-- The thresholds of a state: entry and exit temperature and rate; SHED has no rate. -/
def State.overThreshold (s : State) (st : Nat) (t r2 : Int) (leave : Bool) : Bool :=
  let h : Int := if leave then s.limitT Thr.HYST else 0
  match st with
  | 1 => s.limitT Thr.T_WARN - h ≤ t || 2 * (s.thRd Thr.RATE_WARN : Int) ≤ r2
  | 2 => s.limitT Thr.T_THROT - h ≤ t || 2 * (s.thRd Thr.RATE_ACT : Int) ≤ r2
  | _ => s.limitT Thr.T_SHED - h ≤ t

/-- Zone z enters state st (Table 14.7): what it logs and counts. -/
def State.zoneEnter (s : State) (z st : Nat) (t r : Nat × Int) : State :=
  match st with
  | 1 =>
    if s.limitT Thr.T_WARN ≤ t.2 then
      (s.irq Pg.thermal 16).logHw Pg.thermal 0x20 Sev.info (t.1 + fieldOf 16 t.2 * 2 ^ 8)
    else (s.irq Pg.thermal 22).logHw Pg.thermal 0x26 Sev.info (r.1 + s.thRd Thr.RATE r.1 * 2 ^ 8)
  | 2 => ((s.irq Pg.thermal 17).count Pg.thermal Thr.CNT_THROT).logHw Pg.thermal 0x21 Sev.degraded z
  | _ => ((s.irq Pg.thermal 18).count Pg.thermal Thr.CNT_SHED).logHw Pg.thermal 0x22 Sev.degraded z

/-- One evaluation of zone z (R443): its new state. -/
def State.zoneNext (s : State) (z : Nat) (t r2 : Int) : Nat × Zone :=
  let st := s.zstate z
  let m := mget {} s.zones z
  let limit : Bool := decide (s.limitT Thr.T_LIMIT ≤ t)
  let run := if st = 2 ∧ s.overThreshold 3 t r2 false then m.shedRun + 1 else 0
  let up := if limit then 3 else if st = 2 ∧ 10 ≤ run then 3
    else if s.overThreshold 2 t r2 false then max st 2 else if s.overThreshold 1 t r2 false then max st 1 else st
  let quiet : Bool := st ≠ 0 && up = st && !s.overThreshold st t r2 true
  let exit := if quiet then m.exitRun + 1 else 0
  if st < up then (up, ⟨0, 0, limit⟩)
  else if 1000 ≤ exit then (st - 1, ⟨0, 0, limit⟩)
  else (st, ⟨run, exit, limit⟩)

/-- The move of zone z from one state to the next. -/
def State.zoneMove (s : State) (z st st' : Nat) (t r : Nat × Int) : State :=
  let s := s.thWr Thr.ZSTATE st' z
  let s := s.each ((List.range 4).filter fun k => st < k && k ≤ st') fun k s => s.zoneEnter z k t r
  let s := s.doIf (st = 2 && st' = 1) fun s => s.logHw Pg.thermal 0x21 Sev.degraded (z + 2 ^ 6)
  let s := s.doIf (st = 3 && st' = 2) fun s => s.logHw Pg.thermal 0x22 Sev.degraded (z + 2 ^ 6)
  s.doIf ((st = 3) != (st' = 3)) fun s => s.each (s.domainsOfZone z) fun d s => s.revote d

/-! ### Board channels (R449) -/

def State.extTemp (s : State) (e : Nat) : Int := signedOf 16 (s.thRd Thr.EXT_TEMP e)

/-- DDR4 channels that a hot or broken enabled channel names. -/
def State.hotDdr (s : State) : Nat :=
  (List.range 8).foldl (fun m e =>
    if s.thRd Thr.EXT_EN e = 1 && (680 < s.extTemp e || s.thRd Thr.EXT_BROKEN e = 1)
    then m ||| s.thRd Thr.DDR_MASK e else m) 0

/-- REF_2X and EXT_HOT follow the board channels. -/
def State.board (s : State) : State :=
  let hot := s.hotDdr
  let mine := s.pw.ref2x
  let s := s.each (List.range 8) fun c s =>
    if bitOf hot c = 1 && s.rd (Pg.ddr c) Ddr.REF_2X = 0 then
      (s.wr (Pg.ddr c) Ddr.REF_2X 1) |> fun s => { s with pw := { s.pw with ref2x := s.pw.ref2x ||| 2 ^ c } }
    else if bitOf hot c = 0 && bitOf mine c = 1 then
      (s.wr (Pg.ddr c) Ddr.REF_2X 0) |> fun s => { s with pw := { s.pw with ref2x := putBits s.pw.ref2x c 1 0 } }
    else s
  s.each (List.range 8) fun e s =>
    let above : Bool := s.thRd Thr.EXT_EN e = 1 && s.limitT Thr.T_WARN < s.extTemp e
    let was : Bool := bitOf s.pw.extHot e = 1
    let s := { s with pw := { s.pw with extHot := putBits s.pw.extHot e 1 (bit above) } }
    s.doIf (above && !was) fun s =>
      (s.irq Pg.thermal 23).logHw Pg.thermal 0x28 Sev.info (e + fieldOf 16 (s.extTemp e) * 2 ^ 3)

/-- ZONE_EVALUATE (R443). -/
def State.zoneEvaluate (s : State) (z : Nat) : State :=
  let ps := pointsOf z
  let t := pointMax s.effective ps
  let r := pointMax s.rate2 ps
  let st := s.zstate z
  let (st', m) := s.zoneNext z t.2 r.2
  let was := (mget {} s.zones z).limit
  let s := ({ s with zones := mset {} s.zones z m }).thWr Thr.ZPOINT t.1 z
  let s := s.zoneMove z st st' t r
  let byRate : Bool := (st' = 1 || st' = 2) && !(s.overThreshold st' t.2 (-1000000) true) && s.overThreshold st' t.2 r.2 true
  let s := s.thWr Thr.ZRATE (bit byRate) z
  let s := s.doIf (m.limit && !was) fun s => s.logHw Pg.thermal 0x27 Sev.fatal (t.1 + fieldOf 16 t.2 * 2 ^ 8)
  s.board.windows

def execZoneEvaluate (z : Fin 33) (s : State) : Host.Outcome State Fault Refusal :=
  .next (s.simultaneous fun s => s.zoneEvaluate z)

/-! ### Power (R435, R445) -/

def State.pwRd (s : State) (r : Row) (i : Nat := 0) : Nat := s.rd Pg.power r i
def State.pwWr (s : State) (r : Row) (v : Nat) (i : Nat := 0) : State := s.wr Pg.power r v i

/-- P_TOTAL exceeds P_LIMIT. -/
def State.overLimit (s : State) : Bool := 10 * s.pwRd Pwr.P_LIMIT < s.pwRd Pwr.P_TOTAL
/-- P_TOTAL is below P_LIMIT − 20 W. -/
def State.wellUnder (s : State) : Bool := s.pwRd Pwr.P_TOTAL + 200 < 10 * s.pwRd Pwr.P_LIMIT

/-- POWER_MEASURE (R435, R445): the regulators' readings in 10 mW. -/
def execPowerMeasure (readings : List (Fin 270 × Nat)) (always : Nat) (s : State) :
    Host.Outcome State Fault Refusal :=
  .next (
    let s := s.each readings fun r s => s.pwWr Pwr.POWER (min r.2 0xFFFF) r.1
    let s := { s with pw := { s.pw with always := always } }
    let total := always + ((List.range 270).map fun d => s.pwRd Pwr.POWER d).sum
    let s := s.pwWr Pwr.P_TOTAL (min (total / 10) 0xFFFF)
    let n : Nat := if s.overLimit then s.pw.above + 1 else 0
    let s : State := { s with pw := { s.pw with above := n } }
    if 2 ≤ n ∧ s.pwRd Pwr.PCAP = 0 then
      ((s.pwWr Pwr.PCAP 1).irq Pg.power 18).logHw Pg.power 0x22 Sev.info 0
    else s)

/-- PCAP_SHED (R445): P_TOTAL still exceeds P_LIMIT 10 ms later, and one domain takes a ceiling of RET. -/
def execPcapShed (s : State) : Host.Outcome State Fault Refusal :=
  .next (
    if s.pwRd Pwr.PCAP = 0 || !s.overLimit then s
    else match (List.range 270).reverse.find? fun d => s.pwRd Pwr.SHED_EN d = 1 && !s.pw.ceils.contains d with
      | some d =>
        let s := { s with pw := { s.pw with ceils := d :: s.pw.ceils } }
        let s := ((s.pwWr Pwr.PCAP_SHED 1).count Pg.power Pwr.CNT_CAP_SHED).logHw Pg.power 0x23 Sev.degraded d
        s.revote d
      | none =>
        if s.pwRd Pwr.PCAP_UNMET = 1 then s
        else (s.pwWr Pwr.PCAP_UNMET 1).logHw Pg.power 0x24 Sev.degraded (s.pwRd Pwr.P_TOTAL))

/-- PCAP_LIFT (R445): P_TOTAL has stayed below P_LIMIT − 20 W for 1 s; the latest ceiling lifts, or the throttle. -/
def execPcapLift (s : State) : Host.Outcome State Fault Refusal :=
  .next (
    if s.pwRd Pwr.PCAP = 0 || !s.wellUnder then s
    else match s.pw.ceils with
      | d :: ds =>
        let s := ({ s with pw := { s.pw with ceils := ds } }).pwWr Pwr.PCAP_SHED (bit !ds.isEmpty)
        s.revote d
      | [] => (s.pwWr Pwr.PCAP 0).logHw Pg.power 0x22 Sev.info 1)

/-! ### Limits that envelopes change (R428, R450) -/

/-- A forced level (R428). -/
def State.forceLevel (s : State) (d level : Nat) : State :=
  let slots := (List.range 8).foldl (fun w a => if level < bitsOf w (2 * a) 2 then putBits w (2 * a) 2 level else w)
    (s.slots d)
  (((s.setSlots d slots).irq Pg.power 19).logHw Pg.power 0x21 Sev.info (d + level * 2 ^ 9)).revote d

/-- The ordering R450 asks of new limits; w0 and w1 as Table 16.3 lays them out. -/
def State.limitsOk (s : State) (w0 w1 : Nat) : Bool :=
  bitsOf w0 0 8 < bitsOf w0 8 8 && bitsOf w0 8 8 < bitsOf w0 16 8 && bitsOf w0 16 8 < s.thRd Thr.T_LIMIT &&
    bitsOf w1 0 8 < bitsOf w1 8 8

def State.setLimits (s : State) (w0 w1 : Nat) : State :=
  let s := ((s.thWr Thr.T_WARN (bitsOf w0 0 8)).thWr Thr.T_THROT (bitsOf w0 8 8)).thWr Thr.T_SHED (bitsOf w0 16 8)
  ((s.thWr Thr.RATE_WARN (bitsOf w1 0 8)).thWr Thr.RATE_ACT (bitsOf w1 8 8)).thWr Thr.HYST (bitsOf w1 16 4)

/-- Points that share point p's limit on masks: its layer, or its shallot (R450). -/
def maskGroup (p : Nat) : List Nat :=
  allPoints.filter fun q => if 144 ≤ p then 144 ≤ q && (q - 144) / 3 = (p - 144) / 3 else q < 144 && q / 24 = p / 24

/-- Whether SENSOR_MASK may set or clear MASK of point p (R450). -/
def State.maskOk (s : State) (p : Nat) (on : Bool) : Bool :=
  p < 180 && (!on || ((maskGroup p).filter fun q => q = p || s.thRd Thr.MASK q = 1).length ≤ (if 144 ≤ p then 1 else 4))

/-- ALERT_N is asserted (R446). -/
def State.alert (s : State) : Bool :=
  (List.range 33).any (fun z => s.zstate z ≠ 0) ||
    allPoints.any (fun p => s.pstate p = 1 || s.pstate p = 2) ||
    (List.range 8).any (fun e => s.thRd Thr.EXT_EN e = 1 && s.thRd Thr.EXT_BROKEN e = 1) ||
    s.pwRd Pwr.PCAP_UNMET = 1 || (s.tp.everLocked && !s.timed) || s.romFail ||
    s.flag Pg.pcie Pcie.QUIESCED || (List.range 40).any fun i => s.rd (Pg.region i) Rgn.CW_DEAD_CNT ≠ 0

/-- The votes of a full load are handed over (R425): nothing else changes, since no vote's maximum does. -/
def State.handover (s : State) : State :=
  let s := s.each (List.range 270) fun d s =>
    let w := s.slots d
    let w := putBits w 0 2 (max (bitsOf w 0 2) (bitsOf w 2 2))
    s.setSlots d (putBits w 2 2 0)
  ((s.pwWr Pwr.HANDOVER 1).irq Pg.power 20).logHw Pg.power 0x25 Sev.info (s.rd Pg.timing Tp.START_TURN)

end Sys2Proof.Machine
end

