-- ==== Sys2Proof/Machine/Resilience.lean ====
section
/-! DEFINITION. Machine/Resilience.lean: the mender, the scrub walker, vias, self-test slices and wear (chapter 15, §11.4). -/

namespace Sys2Proof.Machine

def State.wkRd (s : State) (r : Row) : Nat := s.rd Pg.walker r
def State.wkWr (s : State) (r : Row) (v : Nat) : State := s.wr Pg.walker r v

/-! ### The mender (R330 to R332) -/

/-- Key of tile b of word row t of plane i. -/
def tileKey (i t b : Nat) : Nat := (i * 2 ^ 19 + t) * 10 + b

/-- Word w of layer C of region i, in the order of the array walk: cluster row 20480c + 320x + r (R459), then minor. -/
def cWordKey (i w : Nat) : Nat :=
  let row := w / 16
  cfgKey i (row / 20480) (row % 20480 / 320) (w % 16) (row % 320)

/-- The walker reads word w of layer C (R324, R326, R331): its data, whether it is good, and the state. -/
def State.cRead (s : State) (i w : Nat) : (Nat × Bool) × State :=
  let k := cWordKey i w
  let e := mget {} s.cfg k
  match wordDecode e with
  | (.clean, d) => ((d, true), s)
  | (.poison, _) => ((0, false), s)
  | (.corrected, d) =>
    let s := { s with cfg := mset {} s.cfg k (wordBack e) }.count Pg.walker Wk.C_CE_CNT
    ((d, true), s.doIf (i < 40) fun s => s.hotWord (.cfgSram (Fin.ofNat 40 i)) w e.err (w / 16))
  | (.uncorrectable, _) =>
    let t := w / 8
    let errs := (List.range 8).map fun r => (mget {} s.cfg (cWordKey i (8 * t + r))).err
    let diffs := (List.range 10).map fun b => mget 0 s.wk.tiles (tileKey i t b)
    let e' := { e with err := (mend errs diffs).getD (w % 8) 0 }
    match wordDecode e' with
    | (.clean, d) | (.corrected, d) =>
      ((d, true), { s with cfg := mset {} s.cfg k (cleanWord d) }.count Pg.walker Wk.C_CE_CNT)
    | _ =>
      let s := { s with cfg := mset {} s.cfg k poisonWord }.count Pg.walker Wk.C_UE_CNT
      let s := (s.irq Pg.walker 18).logHw Pg.walker 0x22 Sev.uncorrected (i + w / 16 * 2 ^ 6)
      ((0, false), s.doIf (s.ctxValid i (w / 16 / 20480)) fun s => s.ctxInvalid i (w / 16 / 20480) 3)

/-- The plane's lane of the walker works. -/
def State.laneWalks (s : State) (i : Nat) : Bool :=
  s.isOn (En.plane i) && s.blk (En.plane i) != St.retired && s.wkRd Wk.WALK_EN = 1 && s.wkRd Wk.RESTARTING = 0

/-- MENDER_WALK (R332): parity that disagrees with words that all decode clean is rebuilt. -/
def execMenderWalk (plane : Fin 40) (tile : Nat) (s : State) : Host.Outcome State Fault Refusal :=
  .next (
    let t := tile / 10
    let b := tile % 10
    let ws := (List.range 8).map fun r => mget {} s.cfg (cWordKey plane (8 * t + r))
    let clean := ws.all fun e => (wordDecode e).1 = .clean
    if s.isOn (En.plane plane) && decide (t < 327680) && clean && mget 0 s.wk.tiles (tileKey plane t b) ≠ 0 then
      (s.setWk { s.wk with tiles := mset 0 s.wk.tiles (tileKey plane t b) 0 }).count Pg.walker Wk.PAR_REBUILD_CNT
    else s)

/-! ### The walker's own protection (R466, R467) -/

/-- Outvoted copies are rewritten from the other two. -/
def State.voteFix (s : State) : State :=
  if s.wk.outvoted.isEmpty then s
  else (s.setWk { s.wk with outvoted := [] }).count Pg.walker Wk.VOTE_FIX_CNT s.wk.outvoted.length

/-- The walker restarts from its ROM defaults: pointers, queues and candidate tables start empty. -/
def State.walkerRestart (s : State) (i : Nat) : State :=
  let s := (s.irq Pg.walker 18).logHw Pg.walker 0x22 Sev.uncorrected (i + 2 ^ 24)
  let s := s.setWk { s.wk with at_ := [], began := [], cands := [], tables := [], tablePar := [] }
  let s := (s.wkWr Wk.RESTARTING 1).count Pg.walker Wk.RESTART_CNT
  (s.irq Pg.walker 19).logHw Pg.walker 0x23 Sev.degraded (s.wkRd Wk.RESTART_CNT)

/-- Lane i reads its working tables: struck bits are corrected, mended or cost a restart; whether it goes on. -/
def State.tablesOk (s : State) (i : Nat) : Bool × State :=
  let errs := (List.range 8).map fun w => mget 0 s.wk.tables (8 * i + w)
  if errs.all (· = 0) then (true, s)
  else
    let bad (e : Nat) : Bool := 2 < onesIn e 80
    let errs := if errs.any bad then mend errs ((List.range 10).map fun b => mget 0 s.wk.tablePar (10 * i + b)) else errs
    if errs.any bad then (false, s.walkerRestart i)
    else (true, s.setWk { s.wk with tables := (List.range 8).foldl (fun m w => mset 0 m (8 * i + w) 0) s.wk.tables })

/-- WALKER_RESTART_DONE (R467). -/
def execWalkerRestartDone (s : State) : Host.Outcome State Fault Refusal := .next (s.wkWr Wk.RESTARTING 0)

/-! ### Retirement (R18, R458) -/

/-- What retires with entry e: a region takes its packer, slab and plane along. -/
def retireSet (e : Nat) : List Nat :=
  if typeOf e = 0x20 then [e, En.packer (e - 44), En.slab (e - 44), En.plane (e - 44)] else [e]

/-- Entries move to RETIRED (Table 02.6); a spare that served keeps nothing to name. -/
def State.retireEntry (s : State) (e reason : Nat) : State :=
  s.wbRetire ((retireSet e).map fun x => ⟨x, St.retired, 0xFFFF, reason⟩)

/-! ### Columns (R154, R155, R465) -/

/-- Spare columns of a pair that a remap can still take. -/
def State.columnsFree (s : State) (pair : Nat) : Nat :=
  let free := (if s.rgRd pair Rgn.MAP0 = 0x7F then 1 else 0) + (if s.rgRd pair Rgn.MAP1 = 0x7F then 1 else 0)
  free - (if s.repairs.any fun r => r.entry = En.region pair && r.kind = 1 && r.dead && r.place % 128 = 65 then 1 else 0)

/-- Physical column of logical column x of a pair (R154). -/
def State.physColumn (s : State) (pair x : Nat) : Nat :=
  let skip := [s.rgRd pair Rgn.MAP0, s.rgRd pair Rgn.MAP1]
  ((List.range 66).find? fun p => p - (skip.filter fun m => m ≤ p).length = x && !skip.contains p).getD x

/-- HLP begins a column remap (R155), or puts it behind the pair's running one (R456). -/
def State.remapStart (s : State) (q : Remap) : State :=
  let pair := q.pair
  if s.rgRd pair Rgn.REMAP_PEND = 1 then
    if s.rgRd pair Rgn.PEND_COL = q.col || s.wk.remaps.any fun r => r.pair = pair && r.col = q.col then s
    else s.setWk { s.wk with remaps := s.wk.remaps ++ [q] }
  else
    let both (s : State) (r : Row) (v : Nat) := (s.rgWr pair r v).rgWr (pair + 20) r v
    let s := (both (both s Rgn.REMAP_PEND 1) Rgn.PEND_COL q.col).setWk { s.wk with running := s.wk.running ++ [q] }
    (s.setRg pair { s.rg pair with pendLayer := q.layer }).logHw (Pg.region pair) 0x22 Sev.corrected
      (q.col + q.layer * 2 ^ 7)

/-- No spare column is left: a bond via retires its region (R18), a stuck latch is recorded without a spare and rewritten at
every pass (R465). -/
def State.columnLost (s : State) (q : Remap) : State :=
  let e := En.region q.pair
  if q.via then
    let e := En.region (q.pair + 20 * q.layer)
    if s.blk e = St.retired then s else s.retireEntry e 0x22
  else
    let s := s.addRepair ⟨e, 1, false, true, 0xFFFF, q.col + q.layer * 2 ^ 7⟩
    let s := (s.degrade e 0x21).degrade (En.region (q.pair + 20)) 0x21
    s.setWk { s.wk with stuck := s.wk.stuck ++ [q.latch] }

/-- A column is to be remapped (R18, R155, R465). -/
def State.remapOr (s : State) (q : Remap) : State := if s.columnsFree q.pair ≠ 0 then s.remapStart q else s.columnLost q

/-- The spare column that the pair's running remap was bringing in has failed: the move is abandoned, and the next free column
takes its place where there is one (R456). -/
def State.remapAbandon (s : State) (pair : Nat) : State :=
  if s.columnsFree pair ≠ 0 then s
  else (s.wk.running.filter fun q => q.pair = pair).foldl (fun s q =>
    let both (s : State) (r : Row) (v : Nat) := (s.rgWr pair r v).rgWr (pair + 20) r v
    ((both (both s Rgn.REMAP_PEND 0) Rgn.PEND_COL 0x7F).setWk { s.wk with running := s.wk.running.erase q }).columnLost q) s

/-- Remaps that waited begin once their pair is free. -/
def State.remapNext (s : State) : State :=
  match s.wk.remaps.find? fun r => s.rgRd r.pair Rgn.REMAP_PEND = 0 with
  | none => s
  | some r => (s.setWk { s.wk with remaps := s.wk.remaps.erase r }).remapOr r

/-! ### The walks (R463 to R465) -/

/-- Latch interval of region i in µs. -/
def State.latchInterval (s : State) (i : Nat) : Nat :=
  let t := max 1 (s.wkRd Wk.CFG_SCRUB_US)
  if s.profile (En.region i) = Prof.endurance then ceilDiv t 4 else t

/-- Array interval of region i in µs. -/
def State.arrayInterval (s : State) (i : Nat) : Nat :=
  let t := max 1 (s.wkRd Wk.C_SCRUB_MS)
  1000 * (if s.profile (En.region i) = Prof.endurance then ceilDiv t 4 else t)

/-- A pass of a walk ends: counted, late when it overran its interval. -/
def State.passEnd (s : State) (i walk interval : Nat) (r : Row) : State :=
  let k := 2 * i + walk
  let late : Bool := decide (interval < s.us - mget 0 s.wk.began k)
  let s := (s.wkWr r (s.wkRd r + 1)).setWk { s.wk with began := mset 0 s.wk.began k s.us }
  s.doIf late fun s => ((s.wkWr Wk.SCRUB_LATE 1).irq Pg.walker 20).logHw Pg.walker 0x24 Sev.info (i + walk * 2 ^ 6)

/-- A latch bit taken to be stuck (R465): remap, or a record without a spare. -/
def State.latchStuck (s : State) (i x key detail : Nat) : State :=
  let pair := i % 20
  let col := s.physColumn pair x
  let layer := i / 20
  ((s.irq Pg.walker 17).logHw Pg.walker 0x21 Sev.degraded detail).remapOr ⟨pair, col, layer, false, key⟩

/-- One latch bit was rewritten to a value: the candidate table of 16 per lane (R465, R466). -/
def State.candidate (s : State) (i x key value detail : Nat) : State :=
  if s.wk.stuck.contains key then s.count Pg.walker Wk.STUCK_CNT
  else
    let live := s.wk.cands.filter fun c => c.lane ≠ i || decide (s.us < c.since + s.latchInterval i)
    match live.find? fun c => c.lane = i && c.bit = key && c.value = value with
    | some c =>
      if 3 ≤ c.count + 1 then (s.setWk { s.wk with cands := live.erase c }).latchStuck i x key detail
      else s.setWk { s.wk with cands := live.map fun d => if d = c then { d with count := d.count + 1 } else d }
    | none =>
      let mine := live.filter fun c => c.lane = i
      let live := if mine.length < 16 then live else mine.head?.elim live fun c => live.erase c
      s.setWk { s.wk with cands := live ++ [⟨i, key, value, 1, s.us⟩] }

/-- The 16 words of cluster (x, r) of context c as the walker reads them. -/
def State.cCluster (s : State) (i c x r : Nat) : Option (List Nat) × State :=
  (List.range 16).foldl (fun (a : Option (List Nat) × State) (n : Nat) =>
    let d := a.2.cRead i (16 * (20480 * c + 320 * x + r) + n)
    (a.1.bind fun l => if d.1.2 then some (l ++ [d.1.1]) else none, d.2)) (some [], s)

/-- Compare cluster (x, r) of latch set k with its copy, and rewrite what differs (R464). -/
def State.compareCluster (s : State) (i k c x r : Nat) (staged : Bool) : State :=
  let (copy, s) := s.cCluster i c x r
  copy.elim s fun ws =>
    let bits := ws.zipIdx.flatMap fun w =>
      let v := mget 0 s.latch (latchKey k i x w.2 r)
      if v = w.1 then [] else (List.range 64).filterMap fun b =>
        if bitOf (v ^^^ w.1) b = 1 then some (64 * w.2 + b, bitOf w.1 b) else none
    match bits with
    | [] => s
    | (first, _) :: _ =>
      let s := { s with latch := ws.zipIdx.foldl (fun (m : List (Nat × Nat)) (w : Nat × Nat) => mset 0 m (latchKey k i x w.2 r) w.1) s.latch }
      let s := s.count Pg.walker Wk.LATCH_FIX_CNT
      let s := (((s.wkWr Wk.FIX_X x).wkWr Wk.FIX_R r).wkWr Wk.FIX_REGION i).wkWr Wk.FIX_BIT first
      let place (b : Nat) : Nat := x + r * 2 ^ 6 + i * 2 ^ 15 + b * 2 ^ 21 + bit staged * 2 ^ 31
      let s := ((s.wkWr Wk.FIX_SET (bit staged)).irq Pg.walker 16).logHw Pg.walker 0x20 Sev.corrected (place first)
      s.each bits fun b s => s.candidate i x (latchKey k i x (b.1 / 64) r * 64 + b.1 % 64) b.2 (place b.1)

/-- A restage that a direction checker asked for waits in lane i (R141, R464). -/
def State.restageDue (s : State) (i : Nat) : Bool := (s.rg (i % 20)).conflicts.any fun c => !c.persists && !c.passed

/-- One step of the active or the staged walk of lane i: cluster row r, 64 clusters. A staging has the bonds to itself, and
a comparison it meets is repeated later (R186); restages come before the walks (R464). -/
def State.latchCompare (s : State) (i : Nat) (staged : Bool) (r : Nat) : State :=
  let s := s.voteFix
  if !s.laneWalks i || !s.isOn (En.region i) then s
  else
    let (ok, s) := s.tablesOk i
    let c := if staged then s.rgRd i Rgn.STG_CTX else s.liveCtx i
    let k := if staged then 1 - (s.rg i).active else (s.rg i).active
    let due := if staged then s.stgValid i else (s.rg i).live && s.ctxValid i c && s.rgRd i Rgn.LIVE_UNSCRUBBED = 0
    if !ok || !due || (s.rg i).staging.isSome || s.restageDue i then s
    else
      let s := s.each (List.range 64) fun x s => if s.ctxValid i c then s.compareCluster i k c x r staged else s
      if !staged && r = 319 then s.passEnd i 0 (s.latchInterval i) Wk.CFG_PASS else s

/-- LATCH_COMPARE (R463, R464). -/
def execLatchCompare (region : Fin 40) (staged : Bool) (r : Fin 320) (s : State) : Host.Outcome State Fault Refusal :=
  .next (s.simultaneous fun s => s.latchCompare region staged r)

/-- Cluster rows of an array pass, spare rows included (R459). -/
def arrayRows : Nat := 165120

/-- Words of the row at the lane's array pointer. -/
def State.walkRow (s : State) (i row : Nat) : Nat → State
  | 0 => s
  | n + 1 => ((s.walkRow i row n).cRead i (16 * row + n)).2

/-- One step of the array walk of lane i: the 16 words of one cluster row (log entry 47). -/
def State.arrayWalk (s : State) (i : Nat) : State :=
  let s := s.voteFix
  if !s.laneWalks i then s
  else
    let (ok, s) := s.tablesOk i
    if !ok then s
    else
      let row := mget 0 s.wk.at_ i
      let s := if row < 163840 then s.walkRow i row 16 else s
      let next := if row + 1 < arrayRows then row + 1 else 0
      let s := s.setWk { s.wk with at_ := mset 0 s.wk.at_ i next }
      if next = 0 then s.passEnd i 1 (s.arrayInterval i) Wk.C_PASS else s

/-- ARRAY_WALK_READ (R463). -/
def execArrayWalkRead (region : Fin 40) (s : State) : Host.Outcome State Fault Refusal :=
  .next (s.simultaneous fun s => s.arrayWalk region)

/-! ### Vias (R17 to R19, R460 to R462) -/

/-- A causeway signal without a detour is dead (R19, R462). -/
def State.causewayDead (s : State) (pair x r signal place : Nat) : State :=
  let e := En.region pair
  if s.repairs.any fun q => q.entry = e && q.kind = 3 && q.place = place then s
  else
    let s := s.addRepair ⟨e, 3, false, true, 0xFFFF, place⟩
    let s := s.each [pair, pair + 20] fun i s =>
      let s := s.rgWr i Rgn.CW_DEAD_CNT (s.rgRd i Rgn.CW_DEAD_CNT + 1)
      (s.irq (Pg.region i) 17).logHw (Pg.region i) 0x21 Sev.degraded (x + r * 2 ^ 6 + signal * 2 ^ 15)
    let able (e : Nat) : Bool := s.blk e = St.usable || s.blk e = St.inUse
    s.wbUpdate (([e, En.region (pair + 20)].filter able).map fun x => ⟨x, St.degraded, 0xFFFF, 0x21⟩)

/-- The lowest detour of a via group that carries no signal and has not failed (R17, R461): `spot` names the group. -/
def State.detourFree (s : State) (e spot : Nat) : Option Nat :=
  (List.range 4).find? fun d => !s.repairs.any fun q => q.entry = e && q.kind = 2 && q.place % 2 ^ 18 = spot && q.spare = d

/-- A via is judged failed (R461). -/
def State.viaFail (s : State) (pair layer group x r signal : Nat) : State :=
  let r0 := if group = 2 then r / 2 * 2 else r
  let i := if group = 3 then pair else pair + 20 * layer
  let e := En.region i
  let spot := x + r0 * 2 ^ 6 + group * 2 ^ 15
  let place := spot + signal * 2 ^ 18
  match s.detourFree e spot with
  | some d => (s.addRepair ⟨e, 2, false, false, d, place⟩).logHw Pg.walker 0x25 Sev.corrected place
  | none =>
    if group = 3 then s.causewayDead pair x r signal place
    else s.remapOr ⟨pair, s.physColumn pair x, layer, true, 0⟩

/-- VIA_FAIL (R460, R461). -/
def execViaFail (pair : Fin 20) (layer : Fin 2) (group : Fin 4) (x : Fin 64) (r : Fin 320) (signal : Fin 64) (s : State) :
    Host.Outcome State Fault Refusal :=
  .next (s.simultaneous fun s => s.viaFail pair layer group x r signal)

/-! ### Wear (R473, R474) -/

def State.wear (s : State) (m : Nat) : Wear := mget {} s.wk.wears m
def State.setWear (s : State) (m : Nat) (v : Wear) : State := s.setWk { s.wk with wears := mset {} s.wk.wears m v }

/-- Entries that monitor m covers (R473). -/
def wearCovers (m : Nat) : List Nat :=
  if m < 40 then [En.region m]
  else if m < 48 then (List.range 13).map fun k => En.engine (13 * (m - 40) + k)
  else if m < 60 then [En.shallot (m - 48)]
  else if m < 80 then [En.plane (m - 60), En.plane (m - 60 + 20)]
  else []

/-- Some block that monitor m covers holds ENDURANCE. -/
def State.wearEndurance (s : State) (m : Nat) : Bool :=
  (wearCovers m).any fun e => s.usable e && s.profile e = Prof.endurance

/-- Body bias of block e in mV in the state that its domain's level gives it (R30, R429, R474); none at OFF. A block in
ENDURANCE has the offset of the monitor that covers it. -/
def State.bodyBias (s : State) (e : Nat) : Option Int :=
  match (s.dom (domainOf e)).level with
  | 0 => none
  | 1 => some (-300)
  | 2 => some 0
  | _ =>
    let p := s.profile e
    if p = Prof.latency || p = Prof.thasol then some 150
    else if p = Prof.endurance then some (((List.range 84).find? fun m => (wearCovers m).contains e).elim 0 fun m =>
      if (s.wear m).ignored then 0 else 10 * (s.wear m).bias)
    else some 0

/-- The alarm of R474. -/
def State.wearJudge (s : State) (m : Nat) : State :=
  let v := s.wear m
  let on := !v.ignored && (if s.wearEndurance m then decide (500 < v.slow) && v.bias = 15 else decide (300 < v.slow))
  let s' := s.setWear m { v with alarm := on }
  if on && !v.alarm then (s'.irq Pg.walker 22).logHw Pg.walker 0x27 Sev.degraded (m + fieldOf 16 v.slow * 2 ^ 7) else s'

/-- WEAR_STEP (R474): a compensation step at the first bucket of an observed lay-by, or at a turn boundary. -/
def execWearStep (m : Fin 84) (s : State) : Host.Outcome State Fault Refusal :=
  .next (
    let v := s.wear m
    if !s.quietPoint || v.ignored || !s.wearEndurance m then s
    else
      let b := if 100 < v.slow ∧ v.bias < 15 then v.bias + 1 else if v.slow < -100 ∧ -30 < v.bias then v.bias - 1 else v.bias
      (s.setWear m { v with bias := b }).wearJudge m)

/-! ### Self-test in service (R469 to R471) -/

/-- The engine a TE_PATH slice may use: IDLE or HALTED. -/
def State.sliceFree (s : State) (kind e : Nat) : Bool :=
  if kind = 3 then s.estate (e - 164) = Es.idle || s.estate (e - 164) = Es.halted else true

/-- Start a slice (R470, R471): HLP votes RUN for a domain below it and claims a counter for PLL_SPARE. -/
def State.sliceStart (s : State) (kind e : Nat) : State :=
  let d := domainOf e
  let low : Bool := d ≠ alwaysOn && decide (s.taken d < 3)
  if low && decide (s.ceil d < 3) then s.sliceDeferred
  else
    let free := (List.range 16).find? fun f => s.mayClaim (Reg.counter f) Ag.hlp 0x40
    if kind = 5 && free.isNone then (s.refuseClaim Pg.clocks (Reg.counter 0) Ag.hlp).sliceDeferred
    else
      let counter := if kind = 5 then free else none
      let s := counter.elim s fun f => s.setClaim (Reg.counter f) Ag.hlp 0x40 true
      let s := s.setWk { s.wk with slices := s.wk.slices ++ [⟨kind, e, if low then some (d, s.vote d Ag.hlp) else none, counter⟩] }
      if low then s.castVote d Ag.hlp 3 else s

/-- SELFTEST_SLICE (R470): HLP starts a slice of a kind on a unit; `foreground`: foreground work claims the unit during
it. -/
def execSelftestSlice (kind : Fin 11) (entry : Fin 354) (foreground : Bool) (s : State) : Host.Outcome State Fault Refusal :=
  .next (
    if bitOf (s.wkRd Wk.ST_EN) kind = 0 || decide (8 ≤ s.wk.slices.length) || (s.wk.slices.any fun c => c.entry = entry.val)
        || !s.sliceFree kind entry then s
    else
      let n := s.wk.slices.length
      let s := s.sliceStart kind entry
      if foreground && decide (n < s.wk.slices.length) then
        (s.wk.slices.getLast?.elim s fun c => s.sliceEnd c).sliceDeferred
      else s)

/-- A spare fails self-test (Table 02.6). -/
def State.spareFails (s : State) (e : Nat) : State :=
  if s.blk e = St.spare then s.wbRetire [⟨e, St.retired, 0xFFFF, 0x26⟩] else s

/-- The action of Table 15.2 on a confirmed failure; `detail` names the part within the unit. -/
def State.sliceFailed (s : State) (kind e detail : Nat) : State :=
  match kind with
  | 0 =>
    let pair := (e - 44) % 20
    let s := s.addRepair ⟨En.region pair, 1, false, true, 0xFFFF, detail % 2 ^ 8⟩
    let s := if detail % 128 = 64 ∧ s.rgRd pair Rgn.MAP0 = 0x7F then (s.rgWr pair Rgn.MAP0 64).rgWr (pair + 20) Rgn.MAP0 64 else s
    s.remapAbandon pair
  | 1 => s.addRepair ⟨e, 2, false, true, detail / 2 ^ 24, detail % 2 ^ 24⟩
  | 2 | 5 => s.spareFails e
  | 3 => s.teFail (e - 164)
  | 4 =>
    let k := e - 268
    (s.addRepair ⟨e, 5, false, true, 0, detail⟩).shWr k Shl.SPARES_FREE (s.shRd k Shl.SPARES_FREE - 1)
  | 6 => if typeOf e = 0x40 then s.txLaneFail (e - 320) (detail % 16) else s.rxLaneFail (e - 332) (detail % 16)
  | 7 =>
    let s := s.addRepair ⟨En.network, 6, false, true, 0, detail⟩
    (s.wr Pg.network Net.SPARES_FREE (s.rd Pg.network Net.SPARES_FREE - 1)).count Pg.network Net.DEAD_WIRES
  | 8 => { s with romFail := true }
  | 9 => if detail < 180 then s.broken detail false else s.broken (detail - 180) true
  | _ => s.setWear (detail % 128) { s.wear (detail % 128) with ignored := true, alarm := false }

/-- A WEAR slice that passes reports a monitor in [6:0] and its SLOW, signed, in [22:7] (R473). -/
def State.wearReading (s : State) (detail : Nat) : State :=
  let m := detail % 128
  if 84 ≤ m then s else (s.setWear m { s.wear m with slow := signedOf 16 (detail / 128) }).wearJudge m

/-- A slice of a kind on entry e completes (R469). -/
def State.sliceDone (s : State) (kind e : Nat) (fail : Bool) (detail : Nat) : State :=
  match s.wk.slices.find? fun c => c.kind = kind && c.entry = e with
  | none => s
  | some c =>
    let s := (s.sliceEnd c).count Pg.walker Wk.ST_RUN_CNT
    let s := ((s.wkWr Wk.ST_LAST_KIND kind).wkWr Wk.ST_LAST_ENTRY e).wkWr Wk.ST_LAST_FAIL (bit fail)
    if !fail then
      let s := s.setWk { s.wk with failedOnce := s.wk.failedOnce.erase (kind, e) }
      if kind = 10 then s.wearReading detail else s
    else
      let sure := s.wk.failedOnce.contains (kind, e)
      let s := (s.count Pg.walker Wk.ST_FAIL_CNT).irq Pg.walker 21
      let s := s.logHw Pg.walker 0x26 (if kind = 8 then Sev.fatal else Sev.degraded) (kind + e * 2 ^ 4 + bit sure * 2 ^ 13)
      if sure then (s.setWk { s.wk with failedOnce := s.wk.failedOnce.erase (kind, e) }).sliceFailed kind e detail
      else s.setWk { s.wk with failedOnce := s.wk.failedOnce ++ [(kind, e)] }

/-- SLICE_DONE (R469). -/
def execSliceDone (kind : Fin 11) (entry : Fin 354) (fail : Bool) (detail : Nat) (s : State) :
    Host.Outcome State Fault Refusal :=
  .next (s.simultaneous fun s => s.sliceDone kind entry fail detail)

end Sys2Proof.Machine
end

