-- ==== Sys2Proof/Machine/PageOps.lean ====
section
/-! DEFINITION. Machine/PageOps.lean: what the common page header, the ownership registry, the mailboxes and the central
error log do when an agent writes them (chapter 02). -/

namespace Sys2Proof.Machine

/-! ### Owners and locks (R51 to R53) -/

/-- A write of OWNER (R51, R52). -/
def State.ownerWrite (s : State) (ag pg w : Nat) : State :=
  let claim : Bool := bitOf w 16 = 1
  let owner := s.rd pg Hdr.OWN_AGENT
  if s.flag pg Hdr.CLAIMED && owner ≠ ag then s.claimRefused pg ag (claimDetail 0x7FF owner (s.rd pg Hdr.OWN_FEATURE))
  else
    let s := s.doIf (s.flag pg Hdr.CLAIMED && !claim) fun s => s.wr pg Hdr.LOCK_OPEN 0
    let s := (s.wr pg Hdr.OWN_AGENT (if claim then ag else bitsOf w 0 3)).wr pg Hdr.OWN_FEATURE (bitsOf w 8 8)
    s.wr pg Hdr.CLAIMED (bit claim)

/-- A write of KEY (R53): an action whatever value it carries. -/
def State.keyWrite (s : State) (ag pg v : Nat) : State :=
  if s.flag pg Hdr.CLAIMED && s.rd pg Hdr.OWN_AGENT ≠ ag then s.lockRefused pg 0x02C ag
  else s.wr pg Hdr.LOCK_OPEN (bit (v = 0x4F50454E))

/-- A write of VOTE: the writer's own slot alone (R54); a page without a votable domain ignores it. -/
def State.voteWord (s : State) (ag pg w : Nat) : State :=
  match entryOfPage pg with
  | none => s
  | some e => if domainOf e = alwaysOn then s else s.castVote (domainOf e) ag (bitsOf w (2 * ag) 2)

/-- A write of IRQ_STAT: each 1 clears its bit of IRQ_RAW (R50). -/
def State.irqClear (s : State) (pg w : Nat) : State :=
  s.each ((List.range 32).filter fun b => bitOf w b = 1) fun b s => s.wr pg (irqBit b) 0

/-- SRST of an engine (log entry 49): it halts, and its registers and FIFOs are empty. -/
def State.teSrst (s : State) (t : Nat) : State :=
  let s := (s.each (List.range 4) fun f s => s.fifoFlush t f).teHaltNow t
  s.setTe t { s.te t with loops := [], v := [], acc := [], ctl := [], popped := [], startReq := none, haltReq := false }

/-- SRST of a shallot (log entry 49): the sets it holds are lost. -/
def State.shSrst (s : State) (k : Nat) : State :=
  s.setSh k { s.sh k with sets := [], closed := none, results := [], progress := [], out := [], half := none }

/-- SRST of the logic of the block of entry e: a region's flip-flops take their INIT (R144), a packer drops what it holds
(R279). Of the other blocks the manual says only that their logic is reset: what they hold on its way is lost, and their
registers and memories stay (DESIGN CHOICE, log entry 49). -/
def State.blockSrst (s : State) (e : Nat) : State :=
  let k := instOf e
  match typeOf e with
  | 0x20 => s.regionSrst k
  | 0x32 => s.packSrst k
  | 0x30 => s.teSrst k
  | 0x31 => s.shSrst k
  | 0x40 => ((s.setHalf k 0 {}).setHalf k 1 {}).setTxg k {}
  | 0x41 => s.setRxg k { s.rxg k with logicals := [], lastTag := [] }
  | 0x42 => s.setCh k { s.ch k with rings := [] }
  | 0x44 => s.setUsr { s.usr with reqs := [], done := none }
  | 0x43 => s.setMesh { s.mesh with flight := [], ports := [], lastVc := [], lastIn := [], busy := [] }
  | _ => s

/-- SRST = 1 (Table 02.7). -/
def State.srst (s : State) (pg : Nat) : State := (entryOfPage pg).elim s fun e => s.blockSrst e

/-! ### Profiles (R32, R36) -/

/-- The open stream addresses region i: a frame of it is written or held, or a register pair names its page (R36). -/
def State.addresses (s : State) (i : Nat) : Bool :=
  s.ld.regions.contains i || (!s.ld.jobs.isEmpty && (farOf s.ld.far).region = i) ||
    s.ld.wreg.any fun w => w.1 / 4096 = Pg.region i

/-- The lowest cause for which a change of region i to THASOL is refused (R36, Table 02.12). -/
def State.thasolWhy (s : State) (i : Nat) : Option Nat :=
  if (s.rg i).staging.isSome || (s.rg i).stgNext.isSome || !(s.rg i).stgReqs.isEmpty then some 0
  else if !(s.rg i).swReqs.isEmpty then some 1
  else if s.streamOpen && !s.ldFull && s.addresses i then some 2
  else if allEntries.any fun e => s.msArmed e && s.me e MsE.ACTION = 2 && s.me e MsE.TARGET = i then some 3
  else none

/-- A write of PROFILE_REQ (R32, R36, Table 02.7). -/
def State.profileReq (s : State) (ag pg p : Nat) : State :=
  match entryOfPage pg with
  | none => s
  | some e =>
    if !holdsProfile e then s.doIf (p ≠ 0) fun s => s.ignored pg
    else if p = s.rd pg Hdr.PROFILE_REQ then s
    else match (if p = Prof.thasol ∧ typeOf e = 0x20 then s.thasolWhy (e - 44) else none) with
      | some why => s.log pg 0x07 Sev.info ag (p + why * 4)
      | none =>
        let pend := bit (p ≠ s.wb e Wbe.PROFILE)
        (s.wr pg Hdr.PROFILE_REQ p).wbUpdate [] fun s =>
          (s.setWb e Wbe.PROFILE_PEND p).setWb e Wbe.PEND_VALID pend

/-- The waiting profile of entry e takes effect, and its clock tree is judged under it (R32, R108). -/
def State.profileTake (s : State) (e : Nat) : State :=
  if s.wb e Wbe.PEND_VALID = 0 then s
  else
    let s := s.wbUpdate [] fun s => (s.setWb e Wbe.PROFILE (s.wb e Wbe.PROFILE_PEND)).setWb e Wbe.PEND_VALID 0
    (treeOf e).elim s fun t => s.checkCeil t

/-! ### The ownership registry (R55 to R59) -/

/-- A claim ends by its owner word or with its domain: the enable clears in the same cycle (R58, R59). -/
def State.releaseResource (s : State) (idx : Nat) : State :=
  let s :=
    if 108 ≤ idx ∧ idx < 124 then
      let s := s.wr Pg.clocks Clk.FC_EN 0 (idx - 108)
      { s with ck := { s.ck with counting := s.ck.counting.erase (idx - 108) } }
    else if 124 ≤ idx ∧ idx < 380 then s.msDisarm (idx - 124)
    else if 380 ≤ idx ∧ idx < 412 then s.setTm (idx - 380) Tmr.T_EN 0
    else if 828 ≤ idx ∧ idx < 1020 then s.wr (Pg.gio ((idx - 828) / 24)) Gio.EN 0 ((idx - 828) % 24)
    else s
  s.unclaim idx

/-- A write of owner word idx (R59). -/
def State.ownerWord (s : State) (ag idx w : Nat) : State :=
  let a := s.claimAgent idx
  let f := s.claimFeature idx
  let pg := Pg.registry idx
  if !s.claimed idx then s
  else if a ≠ ag then s.claimRefused pg ag (claimDetail idx a f)
  else if bitOf w 16 = 0 then s.releaseResource idx
  else s.doIf (bitsOf w 0 3 ≠ a || bitsOf w 8 8 ≠ f) fun s => s.ignored pg

/-- HLP releases every claim of an agent that has left (R59). -/
def State.releaseAgent (s : State) (ag : Nat) : State :=
  s.each ((List.range 1020).filter fun idx => s.claimed idx && s.claimAgent idx = ag) fun idx s => s.releaseResource idx

/-! ### Mailboxes (R60 to R63) -/

/-- The agent of channel c. -/
def chanAgent (c : Nat) : Nat := if c = 0 then Ag.host else if c = 1 then Ag.fabric else Ag.debug

/-- Word k of a channel's command and response buffers (§02.7). -/
def cmdBuf (c : Nat) : Row := rows (0x400 + 0x400 * c) 0 32 .rw 0 4 64
def respBuf (c : Nat) : Row := rows (0x500 + 0x400 * c) 0 32 .ro 0 4 64

/-- The channel whose register or buffer lies at an offset. -/
def chanAt (off : Nat) : Option Nat :=
  if 0x080 ≤ off ∧ off < 0x0E0 ∧ (off - 0x080) % 0x20 < 0x0C then some ((off - 0x080) / 0x20)
  else if 0x400 ≤ off ∧ off < 0x1000 ∧ off % 0x400 < 0x200 then some (off / 0x400 - 1)
  else none

/-- Channel c of processor p, as one number. -/
def chanKey (p c : Nat) : Nat := 3 * p + c

/-- A write to a register or buffer word of channel c of processor p (R60, R61). DETAIL of a refusal names the channel's own
agent with feature 0 (DESIGN CHOICE, log entry 140); the tag that a response echoes is the one written to TAG, also where
word 0 of the command holds another (DESIGN CHOICE, log entry 141). -/
def State.chanWrite (s : State) (ag p c off w : Nat) : State :=
  let pg := Pg.mailbox p
  let busy := s.flag pg Mbx.BUSY c
  if ag ≠ chanAgent c then s.claimRefused pg ag (claimDetail 0x7FF (chanAgent c) 0)
  else if 0x400 ≤ off then
    if 0x100 ≤ off % 0x400 then s
    else if busy then s.ignored pg
    else s.wr pg (cmdBuf c) w (off % 0x400 / 4)
  else match (off - 0x080) % 0x20 with
    | 0x00 =>
      if busy then s.ignored pg
      else
        let ws := (List.range 64).map fun k => s.rd pg (cmdBuf c) k
        let s := (s.wr pg Mbx.BUSY 1 c).wr pg Mbx.RUN_TAG w c
        s.setChan (chanKey p c) { s.chan (chanKey p c) with run := some ⟨ws, w % 256, none⟩ }
    | 0x04 =>
      let clr (s : State) (r : Row) := s.doIf (bitOf w r.lo = 1) fun s => s.wr pg r 0 c
      clr (clr (clr s Mbx.DONE) Mbx.TIMEOUT) Mbx.ABORTED
    | 0x08 => s.wr pg Mbx.TMO w c
    | _ => s

/-- Put a response into channel c's buffer: DONE, and the channel is free. -/
def State.chanDone (s : State) (p c : Nat) (ws : List Nat) : State :=
  let pg := Pg.mailbox p
  let s := s.each ws.zipIdx fun w s => s.wr pg (respBuf c) w.1 w.2
  let s := (s.wr pg Mbx.DONE 1 c).wr pg Mbx.BUSY 0 c
  s.setChan (chanKey p c) { s.chan (chanKey p c) with run := none }

/-- Word 0 of a response (§02.7). -/
def respHead (result n tag : Nat) : Nat := result + n * 2 ^ 16 + tag * 2 ^ 24

/-- Processor p has a response for the command that runs on channel c. -/
def State.mailReply (s : State) (p c result : Nat) (ws : List Nat := []) : State :=
  let ch := s.chan (chanKey p c)
  match ch.run with
  | none => s
  | some m => s.setChan (chanKey p c) { ch with run := some { m with resp := some (respHead result ws.length m.tag :: ws) } }

/-- The words of the command that runs on channel c of processor p and has no response yet. -/
def State.running (s : State) (p c : Nat) : Option (List Nat) :=
  (s.chan (chanKey p c)).run.bind fun m => if m.resp.isNone then some m.words else none

/-! Results of Table 02.10. -/
namespace Res
def ok : Nat := 0
def badOpcode : Nat := 1
def badLength : Nat := 2
def authFailed : Nat := 3
def claimRefused : Nat := 4
def aborted : Nat := 5
def refused : Nat := 6
end Res

/-- SCP verifies processor p's stored patch against the hash it keeps (R26, R490): one that fails is dropped and does not
run; the manual does not say what becomes of it (DESIGN CHOICE, log entry 148). -/
def State.patchVerify (s : State) (p : Nat) : State :=
  let n := mget 0 s.sec.patchLen p
  let bytes := ((List.range (ceilDiv n 4)).flatMap fun k => leBytes (mget 0 s.sec.patches (8192 * p + k))).take n
  if n = 0 || beNat (sha256 bytes) = mget 0 s.sec.patchHash p then s
  else { s with sec := { s.sec with patches := mclear s.sec.patches (8192 * p) 8192
                                    patchLen := mset 0 s.sec.patchLen p 0, patchHash := mset 0 s.sec.patchHash p 0 } }

/-- Processor p restarts from its ROM (R26, R62): SCP verifies its patch again, and running commands end ABORTED. -/
def State.procRestart (s : State) (p : Nat) : State :=
  let pg := Pg.mailbox p
  let s := (s.patchVerify p).logHw pg 0x06 Sev.degraded (p + 1)
  s.each (List.range 3) fun c s =>
    let ch := s.chan (chanKey p c)
    match ch.run with
    | none => s.setChan (chanKey p c) {}
    | some m => ((s.chanDone p c [respHead Res.aborted 0 m.tag]).wr pg Mbx.ABORTED 1 c).setChan (chanKey p c) {}

/-! ### The central error log (R64 to R66, R519) -/

/-- Write entry k of the log. -/
def State.logPut (s : State) (k seq : Nat) (r : LogRec) : State :=
  let f (s : State) (row : Row) (v : Nat) := s.wr Pg.entries row v k
  let s := f (f (f (f s Lge.SEQ seq) Lge.CODE r.code) Lge.SEVERITY r.sev) Lge.AGENT r.agent
  let s := f (f (f (f s Lge.PRELOCK (bit r.prelock)) Lge.VALID 1) Lge.PAGE r.page) Lge.BUCKET r.bucket
  f (f s Lge.TURN r.turn) Lge.DETAIL r.detail

/-- The log takes the entry at the front of its queue (R65, R66, R519). -/
def State.logTake (s : State) : State :=
  match s.logQ with
  | [] => s
  | r :: q =>
    let s := { s with logQ := q }
    let pg := Pg.log
    let k := s.rd pg Log.LOG_WR
    let fill := s.rd pg Log.LOG_FILL
    let seq := s.rd pg Log.LOG_SEQ % 0xFFFF + 1
    let s := s.logPut k seq r
    let s := ((s.wr pg Log.LOG_WR (k + 1)).wr pg Log.LOG_SEQ seq).wr r.page Hdr.INDEX k
    let s := s.wr r.page Hdr.SEQ seq
    if fill = 1024 then (s.wr pg Log.LOG_RD (s.rd pg Log.LOG_RD + 1)).logLost
    else (s.wr pg Log.LOG_FILL (fill + 1)).doIf (fill + 1 = s.rd pg Log.LOG_THRESH) fun s => s.irq pg 16

/-- A software write of LOG_RD (R519). -/
def State.logRdWrite (s : State) (v : Nat) : State :=
  let rd := v % 1024
  (s.wr Pg.log Log.LOG_RD rd).wr Pg.log Log.LOG_FILL ((s.rd Pg.log Log.LOG_WR + 1024 - rd) % 1024)

/-- PMODE of general I/O pin p (Table 17.11). -/
def State.pinMode (s : State) (p : Nat) : Nat := s.rd (Pg.gio (p / 24)) Gio.PMODE (p % 24)

/-! ### The virtual downstream ports (R214, R504) -/

/-- VDP_UP follows VDP_EN while the link is up and global reset is released. A rise is a hot-add, but for the first
enumeration after PERST_N (`first`). -/
def State.vdpLook (s : State) (first : Bool := false) : State :=
  let up := if s.linkTakes && !s.tp.globalReset then s.peRd Pcie.VDP_EN else 0
  let was := s.peRd Pcie.VDP_UP
  (s.peWr Pcie.VDP_UP up).doIf (up &&& was ≠ up && !first) fun s => s.irq Pg.pcie 22

end Sys2Proof.Machine
end

