-- ==== Sys2Proof/Machine/Access.lean ====
section
/-! DEFINITION. Machine/Access.lean: a read or a write of the page space as an agent makes it (chapter 00, §02.1): which
fields lie at an address, what a write does field by field (R10, R518), and what a read delivers (R7, R12). -/

namespace Sys2Proof.Machine

/-! ### What lies where -/

/-- A page's tables start at its base: the Waybook and the log's entries are each one table over several pages. -/
def basePage (pg : Nat) : Nat := if pg < 0x10 then 0 else if 0x13 ≤ pg ∧ pg ≤ 0x16 then 0x13 else pg

/-- The block table of a page, beside the header. -/
def blockTable (pg : Nat) : List Row :=
  match (entryOfPage pg).elim 0 typeOf with
  | 0x01 => Wbh.table ++ Wbe.table
  | 0x02 => [ownAgent, ownFeature, ownClaimed]
  | 0x03 => if pg = Pg.log then Log.table else Lge.table
  | 0x04 => Mbx.table ++ (List.range 3).flatMap (fun c => [cmdBuf c, respBuf c]) ++ (if pg = 0x22 then Scp.table else [])
  | 0x10 => Tp.table
  | 0x11 => (if pg = Pg.milestones then Ms.table ++ Tmr.table else Ms.table2) ++ MsE.table
  | 0x12 => Clk.table
  | 0x13 => Pll.table
  | 0x14 => Pwr.table
  | 0x15 => Thr.table
  | 0x16 => Ld.table
  | 0x17 => Slv.table
  | 0x18 => Wk.table
  | 0x19 => Gio.table
  | 0x20 => Rgn.table
  | 0x21 => Slab.table
  | 0x30 => Te.table
  | 0x31 => Shl.table
  | 0x32 => Pk.table
  | 0x40 => Tx.table
  | 0x41 => Rx.table
  | 0x42 => Ddr.table
  | 0x43 => Net.table
  | 0x44 => Pcie.table
  | _ => []

/-- The instance of field r that stands at byte offset off, if one does. -/
def Row.at? (r : Row) (off : Nat) : Option Nat :=
  if r.stride = 0 then if off = r.off then some 0 else none
  else if r.off ≤ off ∧ (off - r.off) % r.stride = 0 ∧ (off - r.off) / r.stride < r.count then
    some ((off - r.off) / r.stride)
  else none

/-- The fields of the register at byte offset off of page pg, each with its instance, counted from the base page. -/
def fieldsAt (pg off : Nat) : List (Row × Nat) :=
  let o := off + (pg - basePage pg) * 4096
  ((if hasHeader pg then Hdr.table else []) ++ blockTable pg).filterMap fun r => (r.at? o).map fun i => (r, i)

/-! ### Fields computed when they are read -/

/-- READY of entry e: powered, clocked and initialised (Table 02.7; log entry 55). A region's is held, since its logic step
sets it (R187, R219). -/
def State.pageReady (s : State) (pg e : Nat) : Bool :=
  let open_ := (treeOf e).elim true fun t => s.flag Pg.clocks Clk.OPEN t
  match typeOf e with
  | 0x13 => s.pllReady (e - 11)
  | 0x20 => s.isOn e && s.flag pg Hdr.READY
  | 0x21 => s.isOn e && s.rd pg Slab.INIT_BUSY = 0
  | 0x42 => s.isOn e && s.trained (e - 344)
  | 0x44 => s.isOn e && s.pllReady 2
  | _ => if domainOf e = alwaysOn then s.pllReady 1 && open_ else s.isOn e && open_

/-- Fields of the page header whose value follows other state (Table 02.7). -/
def State.viewHeader (s : State) (pg e : Nat) (r : Row) : Nat :=
  let d := domainOf e
  let home := holdsProfile e
  if r = Hdr.INSTANCE then instOf e
  else if r = Hdr.TYPE then typeOf e
  else if r = Hdr.READY then bit (s.pageReady pg e)
  else if r = Hdr.PROFILE_REQ then if home then s.rd pg r else 0
  else if r = Hdr.GATED then bit (s.gatedOff e)
  else if r = Hdr.PROFILE then s.profile e
  else if r = Hdr.STATE then s.blk e
  else if r = Hdr.PROFILE_PEND then bit (s.pendValid e)
  else if r = Hdr.NO_PROFILE then bit !home
  else if r = Hdr.SLOT then if d = alwaysOn then 0 else s.slots d
  else if r = Hdr.LEVEL then if d = alwaysOn then 0 else s.taken d
  else if r = Hdr.WAKING then bit (d ≠ alwaysOn && (s.dom d).wake ≠ 0)
  else s.rd pg r

/-- Waybook fields that the layout or another entry gives (Table 02.5). -/
def State.viewEntry (s : State) (r : Row) (e : Nat) : Nat :=
  if r = Wbe.INSTANCE then instOf e
  else if r = Wbe.TYPE then typeOf e
  else if r = Wbe.PAGE then pageOf e
  else if r = Wbe.PAGE_COUNT then pageCountOf e
  else if r = Wbe.PARAM_PTR then paramPtr e
  else if r = Wbe.PROFILE then s.profile e
  else if r = Wbe.PROFILE_PEND then s.profilePend e
  else if r = Wbe.PEND_VALID then bit (s.pendValid e)
  else if r = Wbe.DOMAIN then domainOf e
  else s.rd 0 r e

/-- Fields of the thermal page that summarise others (Table 14.9). -/
def State.viewThermal (s : State) (r : Row) (i : Nat) : Nat :=
  if r = Thr.PSTATE then s.pstate i
  else if r = Thr.SUSPECT_ANY then bit (allPoints.any fun p => s.pstate p = 1)
  else if r = Thr.BROKEN_ANY then
    bit (allPoints.any (fun p => s.pstate p = 2) || (List.range 8).any fun e => s.thRd Thr.EXT_BROKEN e = 1)
  else if r = Thr.THROT_ANY then bit ((List.range 33).any fun z => 2 ≤ s.zstate z)
  else if r = Thr.SHED_ANY then bit ((List.range 33).any fun z => s.zstate z = 3)
  else if r = Thr.HOT_POINT then (pointMax s.effective allPoints).1
  else if r = Thr.HOT_TEMP then fieldOf 16 (pointMax s.effective allPoints).2
  else s.thRd r i

/-- Fields of the power page that follow votes, ceilings and sequences (Table 14.8). -/
def State.viewPower (s : State) (r : Row) (d : Nat) : Nat :=
  if r = Pwr.TAKEN then s.taken d
  else if r = Pwr.HIGH then highest (s.slots d)
  else if r = Pwr.CEIL then s.ceil d
  else if r = Pwr.STEP then s.stepCode d
  else if r = Pwr.THROT then bit (s.throttled d)
  else s.pwRd r d

def State.gioPipe (s : State) (b : Nat) : GioPipe := mget {} s.gio b
def State.setGio (s : State) (b : Nat) (v : GioPipe) : State := { s with gio := mset {} s.gio b v }

/-- The user pins are the design's: from the start turn boundary (R99) to UNCONFIGURE (R221) or the end of a quiesce
(R513). -/
def State.pinsReleased (s : State) : Bool := s.tp.started && !s.flag Pg.pcie Pcie.QUIESCE_DONE

/-- The weak pull of pin i of bank b, coded as PULL: before the pins are released the one that the sampled LOADSTATE sets
(Table 07.8). -/
def State.pinPull (s : State) (b i : Nat) : Nat :=
  if s.pinsReleased then s.rd (Pg.gio b) Gio.PULL i else if s.flag 0 Wbh.LOADSTATE then 2 else 1

/-- Level of pin i of bank b as the device drives it, if it does (R505 to R507); none is high impedance with the pull of
State.pinPull. -/
def State.pinDriven (s : State) (b i : Nat) : Option Nat :=
  let pg := Pg.gio b
  let p := 24 * b + i
  let ball := (s.gioPipe b).ball
  if s.rd pg Gio.VIO_OK = 0 || !s.pinsReleased then none
  else if s.pinMode p = 1 && s.rd pg Gio.EN i = 1 && s.flag pg Gio.FAB_EN then
    if bitOf ball (24 + i) = 1 then some (bitOf ball i) else none
  else if s.pinMode p = 2 && s.rd pg Gio.EN i = 1 then some (s.rd pg Gio.OUT i)
  else if s.pinMode p = 3 then some (bit (s.ms.pulses.any fun q => q.1 = p))
  else none

/-- Fields of the other blocks that follow other state; n is a free value for the level of an undriven pin. -/
def State.viewBlock (s : State) (pg e n : Nat) (r : Row) (i : Nat) : Nat :=
  let k := instOf e
  match typeOf e with
  | 0x10 => if r = Tp.LAYBY_BAD then bit s.laybyBad else if r = Tp.WAIT_TIMING then bit s.waitTiming else s.rd pg r i
  | 0x11 =>
    if r = Ms.ARMED then ((List.range 32).map fun b => bit (s.msArmed (32 * i + b)) * 2 ^ b).sum else s.rd pg r i
  | 0x12 => if r = Clk.CLOSING then bit (s.gate (gateEntry (entryOfTree i))).waits else s.rd pg r i
  | 0x14 => s.viewPower r i
  | 0x15 => s.viewThermal r i
  | 0x16 => if r = Ld.IMAGE_TIMER then s.imageTimer else s.rd pg r i
  | 0x17 => if r = Slv.MODE then s.cfgMode else if r = Slv.PSREADY then bit s.psReady else s.rd pg r i
  | 0x18 =>
    let v := s.wear (s.wkRd Wk.WEAR_SEL)
    if r = Wk.WEAR_SLOW then fieldOf 16 v.slow else if r = Wk.WEAR_BIAS then fieldOf 8 v.bias
    else if r = Wk.WEAR_ALARM then bit v.alarm else s.rd pg r i
  | 0x19 => if r = Gio.IN then (s.pinDriven k i).getD (n % 2) else s.rd pg r i
  | 0x30 => if r = Te.LOGICAL then (s.logicalOf k).getD 127 else s.rd pg r i
  | 0x31 =>
    if r = Shl.HIT_LIMIT then s.hitLimit k else if r = Shl.SSTATE then s.sstate k
    else if r = Shl.THROTTLED then bit (s.shThrottled k) else if r = Shl.C then s.shC k else s.rd pg r i
  | 0x32 =>
    if r = Pk.BYPASS then bit (s.profile e = Prof.latency || s.profile e = Prof.thasol) else s.rd pg r i
  | 0x40 =>
    if r = Tx.L_USED then s.lUsed k else if r = Tx.RATE_OK then bit (s.txRateOk k) else s.rd pg r i
  | 0x41 =>
    if r = Rx.FIXED then bit (s.rxFixed k) else if r = Rx.SHORT_TURN then bit (s.turnLen < 128) else s.rd pg r i
  | 0x42 => if r = Ddr.REF_MODE then s.refMode k else s.rd pg r i
  | 0x43 =>
    if r = Net.K then
      if s.prelock then 0 else (s.treePll 156).elim 0 fun p => s.rd (Pg.pll p) Pll.MULT / ((s.tree 156).div + 1)
    else s.rd pg r i
  | _ => s.rd pg r i

/-- What a read of field r (instance i) of page pg delivers. -/
def State.view (s : State) (pg n : Nat) (r : Row) (i : Nat) : Nat :=
  if r.acc = .wo then 0
  else match entryOfPage pg with
    | none => 0
    | some e =>
      if Hdr.table.contains r && hasHeader pg then s.viewHeader pg e r
      else if e = 0 then if Wbe.table.contains r then s.viewEntry r i else s.rd 0 r i
      else s.viewBlock pg e n r i

/-! ### Reads -/

/-- Whether off is the low word of a 64-bit quantity on page pg (R7). -/
def lowWord (pg off : Nat) : Bool :=
  match (entryOfPage pg).elim 0 typeOf with
  | 0x10 => off = 0x058
  | 0x04 => pg = 0x22 && off = 0x104
  | 0x32 => [0x050, 0x060, 0x068, 0x074, 0x07C].contains off
  | 0x31 => off = 0x074
  | 0x40 => off = 0x058
  | 0x41 => off = 0x05C
  | 0x44 => 0x200 ≤ off && off < 0x280 && (off % 0x20 = 0 || off % 0x20 = 0x14)
  | _ => false

/-- The register word at an aligned offset, as a read delivers it; IRQ_RAW and IRQ_STAT are words of latches (R50). -/
def State.wordAt (s : State) (pg off n : Nat) : Nat :=
  if hasHeader pg && (off = 0x010 || off = 0x018) then
    let raw := ((List.range 32).map fun b => s.rd pg (irqBit b) * 2 ^ b).sum
    if off = 0x010 then raw else raw &&& s.rd pg Hdr.IRQ_EN
  else ((fieldsAt pg off).map fun f => s.view (basePage pg) n f.1 f.2 * 2 ^ f.1.lo).sum

/-- RC fields of a register clear after a read (R10). -/
def State.clearRc (s : State) (pg off : Nat) : State :=
  s.each ((fieldsAt pg off).filter fun f => f.1.acc = .rc) fun f s => s.wr (basePage pg) f.1 0 f.2

/-- A read of an aligned register that its page serves (R7, R10, R12). -/
def State.readServed (s : State) (pg off : Nat) : State :=
  let (n, s) := if (entryOfPage pg).elim false (fun e => typeOf e = 0x19) then s.draw else (0, s)
  let a := pg * 4096 + off
  let data := (mget none s.shadow a).getD (s.wordAt pg off n)
  let s := { s with shadow := mset none s.shadow a none }
  let s := s.doIf (lowWord pg off) fun s =>
    { s with shadow := mset none s.shadow (a + 4) (some (s.wordAt pg (off + 4) n)) }
  let s := s.clearRc pg off
  { s with bus := { s.bus with data := data } }

/-- Pages of the Waybook's parameter area (R42, R47): they hold no registers. -/
def paramPage (pg : Nat) : Bool := 3 ≤ pg && pg < 0x10

/-- A read of an aligned word of the parameter area. -/
def State.paramAnswer (s : State) (ag pg off : Nat) : State :=
  match paramAt (pg * 4096 + off) with
  | none => s
  | some (e, o) =>
    let (x, s) := s.paramRead e (o / 8)
    s.answer ag pg (bitsOf x.1 (o % 8 * 8) 32) x.2

/-! ### Bulk windows -/

/-- A bulk window of BAR0 and the offset of a byte in it. -/
inductive Window where
  | engine (t off : Nat)
  | loader
  | patch (off : Nat)
  | msix (off : Nat)
  | readback (off : Nat)
  | pattern (k off : Nat)
  | slots (off : Nat)
  deriving DecidableEq, Repr

/-- The window that holds byte a (R192, R222, R239, R291, R372, R490, R508). -/
def windowOf (a : Nat) : Option Window :=
  if 0x02000000 ≤ a ∧ a < 0x02000000 + 104 * 0x80000 then some (.engine ((a - 0x02000000) / 0x80000) (a % 0x80000))
  else if 0x08000000 ≤ a ∧ a < 0x08100000 then some .loader
  else if 0x08100000 ≤ a ∧ a < 0x08101000 then some (.readback (a - 0x08100000))
  else if 0x08200000 ≤ a ∧ a < 0x08208000 then some (.patch (a - 0x08200000))
  else if 0x08300000 ≤ a ∧ a < 0x08301000 then some (.msix (a - 0x08300000))
  else if 0x09000000 ≤ a ∧ a < 0x09000000 + 12 * 0x800000 then
    some (.pattern ((a - 0x09000000) / 0x800000) ((a - 0x09000000) % 0x800000))
  else if 0x0F000000 ≤ a ∧ a < 0x0F080000 then some (.slots (a - 0x0F000000))
  else none

/-- The page whose block answers for a window. -/
def Window.page : Window → Nat
  | .engine t _ => Pg.engine t
  | .loader | .readback _ => Pg.loader
  | .patch _ => Pg.mailbox 2
  | .msix _ => Pg.pcie
  | .pattern k _ => Pg.shallot k
  | .slots _ => Pg.network

/-- An aligned 32-bit write into a window that its block serves. The loader window is the loader's (R192). -/
def State.windowWrite (s : State) (w : Window) (v : Nat) : State :=
  match w with
  | .engine t o =>
    if o < 0x40000 then s.dmWindowWrite t (o / 128) (o / 4 % 32) v
    else if o < 0x44000 then s.imWindowWrite t ((o - 0x40000) / 8) (o / 4 % 2 = 1) v
    else s
  | .patch o => { s with sec := { s.sec with patchBuf := mset 0 s.sec.patchBuf (o / 4) v } }
  | .msix o => s.setUsr { s.usr with msix := mset 0 s.usr.msix (o / 4) v }
  | .pattern k o => s.patternWrite k o false v
  | .slots o => (s.slotWindow o (v % 2 ^ 16)).slotWindow (o + 2) (v / 2 ^ 16)
  | .loader | .readback _ => s

/-- A 32-bit read of a window that its block serves. -/
def State.windowRead (s : State) (ag a : Nat) (w : Window) : State :=
  match w with
  | .engine t o =>
    if o < 0x40000 then s.dmWindowRead ag t (o / 128) (o / 4 % 32)
    else if o < 0x44000 then
      let (d, s) := s.imRead t ((o - 0x40000) / 8)
      s.answer ag (a / 4096) (bitsOf (d.getD 0) (o / 4 % 2 * 32) 32)
    else s
  | .readback o => s.answer ag (a / 4096) (mget 0 s.ld.rbBuf (o / 4))
  | .patch o => s.answer ag (a / 4096) (mget 0 s.sec.patchBuf (o / 4))
  | .msix o => s.answer ag (a / 4096) (mget 0 s.usr.msix (o / 4))
  | .pattern k o =>
    let (d, s) := s.goldRead k (s.shRd k Shl.WIN_BANK) (o / 32) (o / 8 % 4)
    s.answer ag (a / 4096) (bitsOf (d.getD 0) (o / 4 % 2 * 32) 32) d.isNone
  | .slots o =>
    let e (o : Nat) : Nat :=
      if 122880 ≤ o % 0x40000 / 2 then 0 else mget 0 s.mesh.slots (o / 0x40000 * 2 ^ 17 + o % 0x40000 / 2)
    s.answer ag (a / 4096) (e o + e (o + 2) * 2 ^ 16)
  | .loader => s

/-- A read of `size` bytes at byte address a by agent ag: one that is not a naturally aligned 32-bit access returns 0 and
has no effect (R6, R9, R39). -/
def State.pageRead (s : State) (ag a size : Nat) : State :=
  let pg := a / 4096
  let off := a % 4096
  let whole : Bool := size = 4 && a % 4 = 0
  if !s.reaches ag then s
  else match windowOf a with
    | some w => s.access ag w.page (fun s => if whole then s.windowRead ag a w else s) pg
    | none =>
      if !whole then s.shell ag id
      else if hasHeader pg && off < 0x040 then s.shell ag fun s => s.readServed pg off
      else s.access ag pg fun s => if paramPage pg then s.paramAnswer ag pg off else s.readServed pg off

/-! ### Writes field by field (R10, R518) -/

/-- What a write of one register refused: an RWL field, an AUTH field. -/
structure Refused where
  lock : Bool := false
  auth : Bool := false
  deriving DecidableEq, Repr

/-- Write one field. `rwl`: the writer passes LOCK (R197). -/
def State.fieldWrite (s : State) (pg w : Nat) (rwl : Bool) (x : Refused) (f : Row × Nat) : Refused × State :=
  let (r, i) := f
  let v := bitsOf w r.lo r.width
  let old := s.rd pg r i
  match r.acc with
  | .rw => (x, s.wr pg r v i)
  | .rwl => if rwl || s.lockOpen pg then (x, s.wr pg r v i) else ({ x with lock := x.lock || v ≠ old }, s)
  | .auth => ({ x with auth := x.auth || v ≠ old }, s)
  | .w1c => (x, s.wr pg r (old - (old &&& v)) i)
  | .w1s => (x, s.wr pg r (old ||| v) i)
  | .ro | .wo | .rc => (x, s)

/-- Write the fields of a register that `keep` admits, and report what was refused once for the register. -/
def State.fieldsWrite (s : State) (ag pg off w : Nat) (rwl : Bool) (keep : Row → Bool := fun _ => true) : State :=
  let fs := (fieldsAt pg off).filter fun f => keep f.1
  let (x, s) := fs.foldl (fun (p : Refused × State) f => p.2.fieldWrite pg w rwl p.1 f) (({} : Refused), s)
  let s := if x.lock then s.lockRefused pg off ag else s
  if x.auth then s.authRefused pg off ag else s

/-- Fields a register write leaves out when a change of them is to be ignored (R14). -/
def State.unless (s : State) (ag pg off w : Nat) (rwl : Bool) (r : Row) (i : Nat) (busy : Bool) : State :=
  if busy && bitsOf w r.lo r.width ≠ s.rd pg r i then (s.fieldsWrite ag pg off w rwl fun q => q ≠ r).ignored pg
  else s.fieldsWrite ag pg off w rwl

/-! ### Writes of the page header (Table 02.7) -/

/-- EN of a page is written. -/
def State.enWrite (s : State) (pg v : Nat) : State :=
  match entryOfPage pg with
  | none => s
  | some e =>
    let was := s.rd pg Hdr.EN
    let on := s.wr pg Hdr.EN v
    match typeOf e with
    | 0x13 => if v = was then s else s.pllEnWrite (e - 11) (v = 1)
    | 0x31 => on.doIf (was = 0 && v = 1) fun s => s.shWr (e - 268) Shl.SET_SEQ 0
    | 0x40 => on.txLook (e - 320)
    | 0x41 => on.rxLook (e - 332)
    | _ => on

/-- A write of a header register. -/
def State.headerWrite (s : State) (ag pg off w : Nat) (rwl : Bool) : State :=
  match off with
  | 0x008 =>
    let s := (s.enWrite pg (bitOf w 0)).doIf (bitOf w 1 = 1) fun s => s.srst pg
    let s := s.profileReq ag pg (bitsOf w 2 2)
    s.fieldsWrite ag pg off w rwl fun r => !Hdr.table.contains r
  | 0x018 => s.irqClear pg w
  | 0x01C => s.ownerWrite ag pg w
  | 0x028 => s.voteWord ag pg w
  | 0x02C => s.keyWrite ag pg w
  | _ => s.fieldsWrite ag pg off w rwl

/-! ### Writes of block registers -/

def State.timingWrite (s : State) (ag off w : Nat) (rwl : Bool) : State :=
  let pg := Pg.timing
  match off with
  | 0x040 => (s.put pg Tp.TURN_BCAST_EN w).turnLenWrite ag (w % 2 ^ 16) rwl
  | 0x044 => s.laybyWrite w
  | 0x048 => s.unless ag pg off w rwl Tp.DLY 0 s.timed
  | 0x064 => s.doIf (bitOf w 0 = 1) fun s => s.turnLoad
  | _ => s.fieldsWrite ag pg off w rwl

def State.milestoneWrite (s : State) (ag pg off w : Nat) (rwl : Bool) : State :=
  if 0x400 ≤ off ∧ off < 0xC00 then
    let e := (off - 0x400) / 16 + 128 * (pg - Pg.milestones)
    if off % 16 = 0 then s.msWrite0 ag e w else s.msWriteN e (off % 16 / 4) w
  else if pg = Pg.milestones ∧ 0x100 ≤ off ∧ off < 0x300 ∧ off % 16 = 0 then s.tmWrite0 ag ((off - 0x100) / 16) w
  else s.fieldsWrite ag pg off w rwl

/-- Branch enables of tree t as the register holds them, bits [20:12] at [8:0]. -/
def State.enableWord (s : State) (t : Nat) : Nat :=
  ([Clk.CORE_RUN, Clk.CORE_SLEEP, Clk.CORE_DEEP, Clk.PORT_RUN, Clk.PORT_SLEEP, Clk.PORT_DEEP, Clk.KEEP_RUN,
    Clk.KEEP_SLEEP, Clk.KEEP_DEEP].map fun r => s.rd Pg.clocks r t * 2 ^ (r.lo - 12)).sum

def State.clockWrite (s : State) (ag off w : Nat) (rwl : Bool) : State :=
  let pg := Pg.clocks
  if 0x100 ≤ off ∧ off < 0x100 + 4 * 177 then
    let t := (off - 0x100) / 4
    let s := s.fieldsWrite ag pg off w rwl fun r => r.acc = .w1c
    let s := if bitsOf w 12 9 = s.enableWord t then s else s.writeEnables t (bitsOf w 12 9)
    s.treeRequest t (bitsOf w 0 3) (bitsOf w 3 3) ag
  else if 0x400 ≤ off ∧ off < 0x500 ∧ off % 16 = 0 then s.fcWrite ag ((off - 0x400) / 16) w
  else s.fieldsWrite ag pg off w rwl

def State.pllWrite (s : State) (ag p off w : Nat) (rwl : Bool) : State :=
  let pg := Pg.pll p
  match off with
  | 0x040 =>
    let s := s.pllSetting p (bitsOf w 0 2) (bitsOf w 2 11) ag
    if bitsOf w 16 5 = s.rd pg Pll.MIRROR then s else s.mirrorWrite p (bitsOf w 16 5) ag
  | _ => s.fieldsWrite ag pg off w rwl

def State.regionWrite (s : State) (ag i off w : Nat) (rwl : Bool) : State :=
  let pg := Pg.region i
  if 0x400 ≤ off ∧ off < 0x600 then s.attWrite ag i ((off - 0x400) / 64) ((off - 0x400) / 4 % 16) w
  else match off with
    | 0x050 => s.doIf (bitOf w 0 = 1) fun s => s.captureReq i
    | 0x100 => s.doIf (bitOf w 3 = 1) fun s => s.stageReq ag i (w % 8)
    | 0x104 => s.doIf (bitOf w 3 = 1) fun s => s.switchReq ag i (w % 8)
    | _ => s.fieldsWrite ag pg off w rwl

def State.engineRegWrite (s : State) (ag t off w : Nat) (rwl : Bool) : State :=
  let pg := Pg.engine t
  match off with
  | 0x048 =>
    let s := s.fieldsWrite ag pg off w rwl
    let s := s.doIf (bitOf w 11 = 1) fun s => s.startGo ag t (w % 2048)
    s.doIf (bitOf w 12 = 1) fun s => s.haltGo t
  | 0x054 =>
    let s := s.unless ag pg off w rwl Te.FMT 0 (s.teBusy t)
    s.each ((List.range 4).filter fun f => bitOf w (4 + f) = 1) fun f s => s.fifoFlush t f
  | _ => s.fieldsWrite ag pg off w rwl

def State.shallotWrite (s : State) (ag k off w : Nat) (rwl : Bool) : State :=
  let pg := Pg.shallot k
  match off with
  | 0x048 => s.unless ag pg off w rwl Shl.ROAD_DELAY 0 (s.sstate k = 1 || s.sstate k = 2)
  | 0x054 =>
    let s := s.doIf (bitOf w 0 = 1) fun s => s.verifyGo k (bitOf w 1)
    s.doIf (bitOf w 2 = 1) fun s => s.commitGo k (bitOf w 3)
  | _ => s.fieldsWrite ag pg off w rwl

def State.txRegWrite (s : State) (ag g off w : Nat) (rwl : Bool) : State :=
  let pg := Pg.tx g
  match off with
  | 0x044 => s.halfWrite ag g 0 w
  | 0x048 => s.halfWrite ag g 1 w
  | 0x04C =>
    let s := s.fieldsWrite ag pg off w rwl
    s.doIf (bitOf w 8 = 1) fun s => s.parkGo g (bitsOf w 4 4)
  | _ => s.fieldsWrite ag pg off w rwl

def State.rxRegWrite (s : State) (ag g off w : Nat) (rwl : Bool) : State :=
  match off with
  | 0x048 => s.slotWrite ag g 0 w
  | 0x04C => s.slotWrite ag g 1 w
  | 0x080 => s.scanWrite g w
  | _ => s.fieldsWrite ag (Pg.rx g) off w rwl

def State.ddrRegWrite (s : State) (ag c off w : Nat) (rwl : Bool) : State :=
  let pg := Pg.ddr c
  let r := (off - 0x080) / 16
  if 0x080 ≤ off ∧ off < 0x0C0 ∧ off % 16 = 0 then s.unless ag pg off w rwl Ddr.EVR_BASE r (s.ddrRd c Ddr.EVR_EN r = 1)
  else if 0x080 ≤ off ∧ off < 0x0C0 ∧ off % 16 = 4 then s.evrWrite c r w
  else s.fieldsWrite ag pg off w rwl

def State.networkWrite (s : State) (ag off w : Nat) (rwl : Bool) : State :=
  let pg := Pg.network
  if off = 0x044 then
    let s := s.unless ag pg off w rwl Net.ACT_TBL 0 (s.flag pg Net.GT_EN)
    s.doIf (bitOf w 1 = 1) fun s => s.slotCommit
  else s.fieldsWrite ag pg off w rwl

def State.pcieWrite (s : State) (ag off w : Nat) (rwl : Bool) : State :=
  if 0x200 ≤ off ∧ off < 0x280 ∧ off % 0x20 = 8 then s.ringCtl ((off - 0x200) / 0x20) w
  else if off = 0x044 then (s.fieldsWrite ag Pg.pcie off w rwl).vdpLook
  else s.fieldsWrite ag Pg.pcie off w rwl

/-- A write of a block-specific register that the block serves. -/
def State.blockWrite (s : State) (ag pg off w : Nat) (rwl : Bool) : State :=
  match entryOfPage pg with
  | none => s
  | some e =>
    let k := instOf e
    let plain := s.fieldsWrite ag pg off w rwl
    match typeOf e with
    | 0x02 => if off < 0x1000 then s.ownerWord ag ((off - 0x040) / 4 + 1008 * (pg - 0x10)) w else s
    | 0x03 => if pg = Pg.log ∧ off = 0x044 then s.logRdWrite w else plain
    | 0x04 => (chanAt off).elim plain fun c => s.chanWrite ag k c off w
    | 0x10 => s.timingWrite ag off w rwl
    | 0x11 => s.milestoneWrite ag pg off w rwl
    | 0x12 => s.clockWrite ag off w rwl
    | 0x13 => s.pllWrite ag k off w rwl
    | 0x16 =>
      let s := plain
      s.doIf (off = 0x06C && bitOf w 0 = 1) fun s => s.readbackGo
    | 0x19 => if 0x080 ≤ off ∧ off < 0x0E0 then s.pinWrite ag k ((off - 0x080) / 4) w else plain
    | 0x20 => s.regionWrite ag k off w rwl
    | 0x30 => s.engineRegWrite ag k off w rwl
    | 0x31 => s.shallotWrite ag k off w rwl
    | 0x32 => if off = 0x048 then s.unless ag pg off w rwl Pk.RING_LEN 0 (s.flag pg Pk.BUSY) else plain
    | 0x40 => s.txRegWrite ag k off w rwl
    | 0x41 => s.rxRegWrite ag k off w rwl
    | 0x42 => s.ddrRegWrite ag k off w rwl
    | 0x43 => s.networkWrite ag off w rwl
    | 0x44 => s.pcieWrite ag off w rwl
    | _ => plain

/-- A write of `size` bytes at byte address a by agent ag (R5, R6, R9, R38, R39, R518). -/
def State.pageWrite (s : State) (ag a size v : Nat) (rwl : Bool := false) : State :=
  let pg := a / 4096
  let off := a % 4096
  let whole : Bool := size = 4 && a % 4 = 0
  if !s.reaches ag then s
  else match windowOf a with
    | some w =>
      s.access ag w.page (fun s =>
        if whole then s.windowWrite w v
        else match w with
          | .slots o => if size = 2 ∧ a % 2 = 0 then s.slotWindow o v else s
          | _ => s) pg
    | none =>
      if !whole then s.shell ag id
      else if hasHeader pg && off < 0x040 then s.shell ag fun s => s.headerWrite ag pg off v rwl
      else if (entryOfPage pg).any (typeOf · = 0x20) && off = 0x050 && bitOf v 0 = 1 then
        s.captureAccess ag (pg - Pg.region 0) fun s => s.blockWrite ag pg off v rwl
      else s.access ag pg fun s => s.blockWrite ag pg off v rwl

/-- A word of a BULK packet (Table 07.2, R198): none where no bulk window of a full image lies. -/
def State.bulkWrite (s : State) (a w : Nat) : Option State :=
  if a % 4 ≠ 0 then none
  else match windowOf a with
    | some (.engine t o) => if o < 0x44000 then some (s.access Ag.cfp (Pg.engine t) fun s => s.windowWrite (.engine t o) w) else none
    | some (.pattern k o) => some (s.access Ag.cfp (Pg.shallot k) fun s => s.windowWrite (.pattern k o) w)
    | some (.slots o) => some (s.access Ag.cfp Pg.network fun s => s.windowWrite (.slots o) w)
    | _ => none

end Sys2Proof.Machine
end

