-- ==== Sys2Proof/Machine/Loader.lean ====
section
/-! DEFINITION. Machine/Loader.lean: the stream from its first word to its last: packets, frames, the write window, CLOSE and
START (§07.1 to §07.7). -/

namespace Sys2Proof.Machine

/-! ### Frames (R200, R201) -/

/-- The 64-bit slots of a frame (R200). -/
def frameSlots : List Nat → List Nat
  | lo :: hi :: rest => (lo + hi * 2 ^ 32) :: frameSlots rest
  | _ => []

/-- CRC of a frame (R201). -/
def frameCrc (far : Nat) (data : List Nat) : Nat := crc32c (far :: data)

/-! ### Content (check 7 of Table 07.5) -/

/-- A cell record with a reserved field or code that is not 0 (Table 05.2). -/
def cellBad (cell rec_ : Nat) : Bool :=
  bitsOf rec_ 28 3 ≠ 0 || 5 ≤ bitsOf rec_ 21 3 || 10 ≤ bitsOf rec_ 24 4 || (cell < 14 && bitOf rec_ 31 = 1)

/-- Both ends of a causeway would drive: slots of a minor-15 frame against the other layer's context (R139, R204). -/
def State.bothEnds (s : State) (i c x : Nat) (slots : List Nat) : Bool :=
  let o := partner i
  (s.ctxState o c = 1 || s.ctxState o c = 2) &&
    slots.zipIdx.any fun p => p.1 &&& (wordDecode (mget {} s.cfg (cfgKey o c x 15 p.2))).2 ≠ 0

/-- The first content rule a frame breaks: 1 both-drive, 2 BM position, 4 reserved field (R204). -/
def State.contentWhy (s : State) (f : Far) (data : List Nat) : Option Nat :=
  let slots := frameSlots data
  if f.minor = 15 then if s.bothEnds f.region f.ctx f.x slots then some 1 else none
  else if 18 ≤ f.minor then if (data.drop 512).any (· ≠ 0) then some 4 else none
  else if f.minor = 17 then if slots.any fun v => v / 2 ^ 16 ≠ 0 then some 4 else none
  else if f.minor ≤ 7 then
    if f.minor = 7 && slots.zipIdx.any (fun p => bitOf p.1 63 = 1 && p.2 % 10 ≠ 0) then some 2
    else if slots.any fun v => cellBad (2 * f.minor) (v % 2 ^ 32) || cellBad (2 * f.minor + 1) (v / 2 ^ 32) then some 4
    else none
  else none

/-! ### Checks and writes of one frame (R204 to R209) -/

/-- What becomes of a frame. -/
inductive Verdict where
  | fail (why chk : Nat)
  | skip
  | hold
  | window
  | power (domain : Nat)
  | write
  deriving DecidableEq, Repr

/-- A block that the live context hosts a port of (check 6). -/
def State.liveBlock (s : State) (f : Far) : Bool :=
  s.bmHost f.region f.x (20 * f.block) || s.bmHost f.region f.x (20 * f.block + 10)

/-- Domain d of entry e is ON, and at RUN as far as CFP's own vote takes it (R209). -/
def State.writable (s : State) (e d : Nat) : Bool := s.isOn e && (3 ≤ s.taken d || s.vote d Ag.cfp = 3)

/-- The checks of Table 07.5, in order. -/
def State.judge (s : State) (far : Nat) (data : List Nat) (crc : Option Nat) : Verdict :=
  let f := farOf far
  let i := f.region
  let ofCtx : Bool := f.minor ≤ 15 || f.minor = 17
  let full := s.ldFull
  if crc.elim false fun c => frameCrc far data ≠ c then .fail Abort.crc 0
  else if !farOk far then .fail Abort.badCmd 0
  else if s.blk (En.region i) = St.retired then .skip
  else if !full && !(s.inFence i && (17 < f.minor || s.ctxInFence f.ctx)) then .fail Abort.fence 0
  else if !full && s.profile (En.region i) = Prof.thasol then .fail Abort.profile 0
  else if f.minor = 16 || (!full && (if ofCtx then f.ctx = s.liveCtx i else s.liveBlock f)) then .fail Abort.live 0
  else match s.contentWhy f data with
    | some chk => .fail Abort.check chk
    | none =>
      let d := (if f.minor ≤ 15 then 80 else 40) + i
      if !s.flag Pg.thermal Thr.CFG_WIN then .window
      else if ofCtx && (s.rg i).staging.elim false (fun g => g.ctx = f.ctx) then .hold
      else if !(s.writable (if f.minor ≤ 15 then En.plane i else En.slab i) d) then .power d
      else .write

/-- A frame touches context c (R172, Table 06.1): LOADING, and out of the staged set. -/
def State.touchCtx (s : State) (i c : Nat) : State :=
  let s := s.rgWr i Rgn.CSTATE 1 c
  s.doIf (s.rgRd i Rgn.STG_CTX = c) fun s => s.rgWr i Rgn.STG_VALID 0

/-- Add to a list that holds no repeats. -/
def addOnce {α : Type} [DecidableEq α] (xs : List α) (x : α) : List α := if xs.contains x then xs else xs ++ [x]

/-- Write one frame (R200, R203). -/
def State.writeFrame (s : State) (far : Nat) (data : List Nat) : State :=
  let f := farOf far
  let i := f.region
  let s :=
    if f.minor ≤ 15 then
      let lo := cfgKey i f.ctx f.x f.minor 0
      let es := (frameSlots data).zipIdx.filterMap fun p =>
        if cleanWord p.1 = {} then none else some (lo + p.2, cleanWord p.1)
      let s := { s with cfg := mreplace s.cfg lo 320 es }
      (s.touchCtx i f.ctx).setLd { s.ld with written := addOnce s.ld.written (i, f.ctx) }
    else if f.minor = 17 then
      let s := s.each (frameSlots data).zipIdx fun p s => s.sbWrite i f.ctx f.x p.2 p.1
      (s.touchCtx i f.ctx).setLd { s.ld with written := addOnce s.ld.written (i, f.ctx)
                                             banks := addOnce s.ld.banks (i, f.ctx) }
    else
      let bytes := (data.take 512).flatMap leBytes
      s.each bytes.zipIdx fun p s => s.bmWrite i (16 * f.x + f.block) (2048 * f.half + p.2) p.1
  let locked := s.ld.rbLocked.filter (· ≠ i)
  let s := s.setLd { s.ld with regions := addOnce s.ld.regions i, last := some data
                               rbLocked := if bitOf s.ld.flags 3 = 1 then locked else locked ++ [i] }
  s.ldWr Ld.CNT_FRAMES (s.ldRd Ld.CNT_FRAMES + 1)

/-- The first waiting frame is done with: the FAR advances (R199). -/
def State.nextFrame (s : State) : State :=
  let jobs := match s.ld.jobs with
    | [] => []
    | j :: js => if j.times ≤ 1 then js else { j with times := j.times - 1 } :: js
  s.setLd { s.ld with jobs := jobs, far := farNext s.ld.far }

/-- A frame of a RETIRED region is skipped (check 3); a REPEAT behind it repeats its words all the same (R202; DEDUCED, log
entry 157). -/
def State.skipFrame (s : State) (i : Nat) (data : List Nat) : State :=
  let s := (s.setLd { s.ld with last := some data }).count Pg.loader Ld.CNT_SKIP
  if s.ld.skipped.contains i then s
  else (s.setLd { s.ld with skipped := s.ld.skipped ++ [i] }).logHw Pg.loader 0x25 Sev.info i

/-- The write window is closed: TEMP_HOLD (R208). -/
def State.tempHold (s : State) : State :=
  if s.flag Pg.loader Ld.TEMP_HOLD then s
  else ((s.ldWr Ld.TEMP_HOLD 1).irq Pg.loader 20).logHw Pg.loader 0x24 Sev.info 0

/-- TEMP_HOLD ends (R208). -/
def State.tempGo (s : State) : State :=
  if s.flag Pg.loader Ld.TEMP_HOLD then (s.ldWr Ld.TEMP_HOLD 0).logHw Pg.loader 0x24 Sev.info 1 else s

/-- CFP votes RUN for a domain below it and remembers its vote (R209). -/
def State.loadVote (s : State) (d : Nat) : State :=
  if 3 ≤ s.taken d then s
  else
    let s := if s.ld.votes.any fun v => v.1 = d then s
      else s.setLd { s.ld with votes := s.ld.votes ++ [(d, s.vote d Ag.cfp)] }
    s.castVote d Ag.cfp 3

/-- The votes of the load are lowered again (R209). -/
def State.loadUnvote (s : State) : State :=
  let vs := s.ld.votes
  (s.setLd { s.ld with votes := [] }).each vs fun v s => s.castVote v.1 Ag.cfp v.2

/-- A stream aborts (R206), and the votes of the load go with it (log entry 25). -/
def State.abortStream (s : State) (why chk : Nat) (far : Option Nat) : State :=
  if !s.streamOpen then s else ((s.ldAbort why chk far).tempGo).loadUnvote

/-- Judge the waiting frames one after the other until one holds, at most n of them. -/
def State.runJobs : Nat → State → State
  | 0, s => s
  | n + 1, s =>
    match s.ld.jobs with
    | [] => s
    | j :: _ =>
      let far := s.ld.far
      match s.judge far j.data j.crc with
      | .fail why chk => s.abortStream why chk (some far)
      | .skip => State.runJobs n ((s.skipFrame (farOf far).region j.data).nextFrame)
      | .hold => s
      | .window => s.tempHold
      | .power d =>
        let s := s.loadVote d
        if s.judge far j.data j.crc = .write then State.runJobs n ((s.writeFrame far j.data).nextFrame) else s
      | .write => State.runJobs n ((s.tempGo.writeFrame far j.data).nextFrame)

/-- Frames come to the front of the loader. -/
def State.addJob (s : State) (j : Job) : State :=
  let s := s.setLd { s.ld with jobs := s.ld.jobs ++ [j] }
  s.runJobs ((s.ld.jobs.map (·.times)).sum)

/-! ### WREG (R197) -/

/-- Why a pair may not be written, if so. -/
def State.wregWhy (s : State) (a v : Nat) : Option Nat :=
  let pg := a / 4096; let off := a % 4096 / 4 * 4
  if s.ldFull then
    if pg ≤ 0x23 || pg = 0x60 || pg = 0x61 || pg = 0x70 || pg = 0x71 then some Abort.badReg
    else if (fieldsAt pg off).any fun r => r.1.acc = .auth || (r.1.acc = .wo && bitsOf v r.1.lo r.1.width ≠ 0) then
      some Abort.badReg
    else none
  else
    let i := pg - 0x100
    let c := if 0x400 ≤ off ∧ off < 0x600 then some ((off - 0x400) / 64)
      else if 0x120 ≤ off ∧ off < 0x140 then some ((off - 0x120) / 4) else none
    match c with
    | none => some Abort.fence
    | some c =>
      if pg < 0x100 || 40 ≤ i || !s.inFence i || !s.ctxInFence c || c = s.liveCtx i
          || (s.rg i).staging.elim false (fun g => g.ctx = c) then some Abort.fence
      else if s.profile (En.region i) = Prof.thasol then some Abort.profile
      else none

/-- A WREG packet joins the buffer of 2,048 pairs. -/
def State.takeWreg (s : State) (ws : List Nat) : State :=
  let pairs := (chunks 2 ws.length ws).map fun p => (p.getD 0 0, p.getD 1 0)
  if 2048 < s.ld.wreg.length + pairs.length then s.abortStream Abort.badCmd 0 none
  else match pairs.findSome? fun p => s.wregWhy p.1 p.2 with
    | some why => s.abortStream why 0 none
    | none => s.setLd { s.ld with wreg := s.ld.wreg ++ pairs }

/-- An attachment entry at byte address a: region, context, entry. -/
def attachmentAt (a : Nat) : Option (Nat × Nat × Nat) :=
  let pg := a / 4096; let off := a % 4096
  if 0x100 ≤ pg ∧ pg < 0x128 ∧ 0x400 ≤ off ∧ off < 0x600 then some (pg - 0x100, (off - 0x400) / 64, (off - 0x400) / 4 % 16)
  else none

/-- Every attachment of the pairs holds under R151, each judged after those before it. -/
def State.attachmentsHold (s : State) (pairs : List (Nat × Nat)) : Bool :=
  (pairs.foldl (fun (p : Bool × State) w =>
    match attachmentAt w.1 with
    | none => p
    | some (i, c, k) =>
      let t := bitsOf w.2 0 4; let inst := bitsOf w.2 4 8; let base := bitsOf w.2 12 9
      let n := 16 * c + k
      (p.1 && (p.2.attWhy i c k t inst base).isNone,
        ((p.2.rgWr i Rgn.TYPE t n).rgWr i Rgn.INST inst n).rgWr i Rgn.BASE_ROW base n)) (true, s)).1

/-- One pair of a full image (R198): what it defers, and the value written now. -/
def State.applyPair (s : State) (a v : Nat) : State :=
  let pg := a / 4096; let off := a % 4096 / 4 * 4
  let now (s : State) (v : Nat) := s.pageWrite Ag.cfp a 4 v true
  if (pg = 0x31 ∨ pg = 0x32) ∧ 0x400 ≤ off ∧ off < 0xC00 ∧ off % 16 = 0 ∧ bitOf v 0 = 1 then
    s.setLd { s.ld with late := s.ld.late ++ [(a, v)] }
  else if off = 0x008 ∧ (entryOfPage pg).elim false holdsProfile then
    let e := (entryOfPage pg).getD 0
    let s := s.setLd { s.ld with late := s.ld.late ++ [(a, v)]
                                 profiles := mset Prof.endurance s.ld.profiles e (bitsOf v 2 2) }
    now s (putBits v 2 2 (s.rd pg Hdr.PROFILE_REQ))
  else if pg = 0x40 ∧ 0x100 ≤ off ∧ off < 0x100 + 4 * 177 then
    let t := (off - 0x100) / 4
    now (s.setLd { s.ld with srcWrites := s.ld.srcWrites ++ [(a, v)] }) (putBits v 0 3 (s.rd Pg.clocks Clk.SRC t))
  else now s v

/-- The profiles an image requests are known before its clock writes are judged (R108). -/
def State.noteProfiles (s : State) (pairs : List (Nat × Nat)) : State :=
  s.each pairs fun p s =>
    let pg := p.1 / 4096
    if p.1 % 4096 / 4 * 4 = 0x008 ∧ (entryOfPage pg).elim false holdsProfile then
      s.setLd { s.ld with profiles := mset Prof.endurance s.ld.profiles ((entryOfPage pg).getD 0) (bitsOf p.2 2 2) }
    else s

/-- Every PLL that is enabled reads READY (R219). -/
def State.pllsReady (s : State) : Bool :=
  (List.range 20).all fun p => !(s.flag (Pg.pll p) Hdr.EN) || p ≤ 2 || s.pllReady p

/-- The deferred SRC writes apply once every PLL that the image enables reads READY (R198). -/
def State.applySrc (s : State) : State :=
  if s.ldRd Ld.PHASE ≠ 5 || !s.pllsReady then s
  else
    let ws := s.ld.srcWrites
    let s := s.setLd { s.ld with srcWrites := [], judging := true }
    let s := s.each ws fun p s => s.pageWrite Ag.cfp p.1 4 p.2 true
    s.setLd { s.ld with judging := false }

/-- The pairs of a stream are applied in order (R197, R198). -/
def State.applyPairs (s : State) : State :=
  let pairs := s.ld.wreg
  let s := s.setLd { s.ld with wreg := [] }
  if s.ldFull then
    let s := (s.noteProfiles pairs).setLd { (s.noteProfiles pairs).ld with judging := true }
    let s := s.each pairs fun p s => s.applyPair p.1 p.2
    s.setLd { s.ld with judging := false }
  else s.each pairs fun p s => s.pageWrite Ag.cfp p.1 4 p.2 true

/-- Slots of minor 15 of context c at column x of region i. -/
def State.driveSlots (s : State) (i c x : Nat) : List Nat :=
  (List.range 320).map fun r => (wordDecode (mget {} s.cfg (cfgKey i c x 15 r))).2

/-- Word number of the VOTE word of domain d. -/
def voteWordOf (d : Nat) : Nat := (pageOf (entryOfDomain d) * 4096 + 0x028) / 4

/-- CLOSE (R196, R197, R166). A vote that a register pair of the stream casts in CFP's slot stands: the load's vote for that
domain is not lowered over it. -/
def State.closePacket (s : State) : State :=
  let closing := s.ld.written.filter fun w => s.ctxState w.1 w.2 = 1
  if bitOf s.ld.flags 1 = 1 && !s.ld.macOk then s.abortStream Abort.auth 0 none
  else if closing.any fun w => (List.range 64).any fun x => s.bothEnds w.1 w.2 x (s.driveSlots w.1 w.2 x) then
    s.abortStream Abort.check 1 none
  else if let some why := if s.ldFull then none else s.ld.wreg.findSome? fun p => s.wregWhy p.1 p.2 then
    s.abortStream why 0 none
  else if !s.attachmentsHold s.ld.wreg then s.abortStream Abort.check 3 none
  else
    let s := s.each closing fun w s => s.ctxClose w.1 w.2 (s.ld.banks.contains w)
    let s := (s.ldWr Ld.IMAGE_ID s.ld.imageId).irq Pg.loader 18
    let s := s.doIf (s.ldFull && !s.ld.fenceSeen) fun s => s.setFence 0 0 0
    let mine := s.ld.wreg.map fun p => p.1 / 4
    let s := s.setLd { s.ld with votes := s.ld.votes.filter fun v => !mine.contains (voteWordOf v.1) }
    s.applyPairs.loadUnvote

/-! ### Packets (Table 07.2) -/

namespace Op
def nop : Nat := 0x00
def image : Nat := 0x01
def devsel : Nat := 0x02
def far : Nat := 0x03
def frames : Nat := 0x04
def repeat_ : Nat := 0x05
def zero : Nat := 0x06
def wreg : Nat := 0x07
def bulk : Nat := 0x08
def rfence : Nat := 0x09
def encBegin : Nat := 0x0A
def encTag : Nat := 0x0B
def hmac : Nat := 0x0C
def close : Nat := 0x0D
def start : Nat := 0x0E
def desync : Nat := 0x0F
end Op

/-- The LEN that Table 07.2 allows; a reserved OP allows none. -/
def lenOk (op len : Nat) : Bool :=
  match op with
  | 0x00 => true
  | 0x01 => len = 4
  | 0x02 => len = 2
  | 0x03 | 0x05 | 0x06 | 0x0E => len = 1
  | 0x04 => len % 641 = 0 && 1 ≤ len
  | 0x07 => len % 2 = 0 && 2 ≤ len && len ≤ 4096
  | 0x08 => 2 ≤ len
  | 0x09 => len = 3
  | 0x0A => len = 5
  | 0x0B => len = 4
  | 0x0C => len = 9
  | 0x0D | 0x0F => len = 0
  | _ => false

/-- Packets that configure: skipped while the device is not selected (R195), inside a section when FLAGS.ENC is 1
(R196). -/
def configures (op : Nat) : Bool := (3 ≤ op && op ≤ 9) || op = Op.start

/-- The port that carries full images (Table 07.1), coded as SRC. -/
def State.fullPort (s : State) : Nat :=
  match s.rd 0 Wbh.CFG_MODE with
  | 1 => 2
  | 2 => 3
  | _ => 1

/-- The IMAGE packet (R194, R196, R494). Where several reasons hold, the first listed here is recorded (log entry
26). -/
def State.imagePacket (s : State) (ws : List Nat) : State :=
  let flags := ws.getD 0 0
  let full : Bool := bitOf flags 0 = 1
  let s := (s.setLd { s.ld with flags := flags, imageId := ws.getD 2 0, selected := true }).ldWr Ld.FULL (bit full)
  let policy := s.rd (Pg.mailbox 2) Scp.POLICY
  if flags / 16 ≠ 0 || ws.getD 3 0 ≠ 0 || (full && s.ldRd Ld.SRC ≠ s.fullPort) then s.abortStream Abort.badCmd 0 none
  else if bitsOf (ws.getD 1 0) 0 16 ≠ s.rd 0 Wbh.MEMBER then s.abortStream Abort.member 0 none
  else if full = s.flag Pg.loader Ld.LOADED then s.abortStream Abort.state 0 none
  else if (bitOf policy 0 = 1 && bitOf flags 1 = 0) || (bitOf policy 1 = 1 && bitOf flags 2 = 0) then
    s.abortStream Abort.auth 0 none
  else s

/-- START (R219): the full image is over and FINISH begins. -/
def State.startPacketNow (s : State) (ctx : Nat) : State :=
  let s := ((s.ldWr Ld.START_CTX ctx).ldWr Ld.READBACK_EN (bitOf s.ld.flags 3)).ldWr Ld.PHASE 5
  (s.setLd { s.ld with lastByte := some s.us }).applySrc

/-- A key that may be used as a mask of USE says (R492 to R494). -/
def State.keyFor (s : State) (slot use : Nat) : Option (List Nat) :=
  if slot < 8 && s.rd (Pg.mailbox 2) Scp.VALID slot = 1 && bitOf (s.rd (Pg.mailbox 2) Scp.USE slot) use = 1 then
    some (s.keyBytes slot)
  else none

/-- ENC_BEGIN (R493). -/
def State.encBeginPacket (s : State) (header : Nat) (ws : List Nat) : State :=
  let slot := bitsOf (ws.getD 0 0) 0 8
  match s.keyFor slot 2 with
  | none => s.abortStream Abort.auth 0 none
  | some _ =>
    let e : Enc := ⟨slot, ((ws.drop 1).take 3).flatMap leBytes, header :: ws, ws.getD 4 0, []⟩
    s.setLd { s.ld with enc := some e }

/-- ENC_TAG (R493). -/
def State.encTagPacket (s : State) (ws : List Nat) : State :=
  match s.ld.enc with
  | none => s.abortStream Abort.badCmd 0 none
  | some e =>
    let tag := gcmTag (s.keyBytes e.slot) e.iv (e.aad.flatMap leBytes) (e.cipher.reverse.flatMap leBytes)
    if tag = ws.flatMap leBytes then s.setLd { s.ld with enc := none } else s.abortStream Abort.auth 0 none

/-- HMAC (R492). -/
def State.hmacPacket (s : State) (ws : List Nat) : State :=
  match s.keyFor (bitsOf (ws.getD 0 0) 0 8) 1 with
  | none => s.abortStream Abort.auth 0 none
  | some key =>
    if hmacSha256 key (s.ld.seen.reverse.flatMap leBytes) = (ws.drop 1).flatMap leBytes then
      s.setLd { s.ld with macOk := true }
    else s.abortStream Abort.auth 0 none

/-- A word of a BULK packet goes straight to its window (R198). -/
def State.bulkWord (s : State) (w : Nat) : State :=
  match s.bulkWrite s.ld.bulkAt w with
  | some s => s.setLd { s.ld with bulkAt := s.ld.bulkAt + 4 }
  | none => s.abortStream Abort.badCmd 0 none

/-- A packet whose payload is complete acts. -/
def State.packet (s : State) (op : Nat) (ws : List Nat) : State :=
  match op with
  | 0x01 => s.imagePacket ws
  | 0x02 => s.setLd { s.ld with
      selected := bitOf (ws.getD 0 0 + ws.getD 1 0 * 2 ^ 32) (s.rd 0 Wbh.DEV_ID) = 1 }
  | 0x03 => s.setLd { s.ld with far := ws.getD 0 0 }
  | 0x05 | 0x06 =>
    let n := ws.getD 0 0
    let data := if op = 0x06 then some (List.replicate 640 0) else s.ld.last
    match data with
    | some d => if 1 ≤ n ∧ n < 65536 then s.addJob ⟨d, none, n⟩ else s.abortStream Abort.badCmd 0 none
    | none => s.abortStream Abort.badCmd 0 none
  | 0x07 => s.takeWreg ws
  | 0x09 => if s.ldFull then (s.setFence (ws.getD 0 0) (ws.getD 1 0) (ws.getD 2 0)).setLd
      { (s.setFence (ws.getD 0 0) (ws.getD 1 0) (ws.getD 2 0)).ld with fenceSeen := true }
    else s.abortStream Abort.fence 0 none
  | 0x0A => s.encBeginPacket (0x0A * 2 ^ 24 + 5) ws
  | 0x0B => s.encTagPacket ws
  | 0x0C => s.hmacPacket ws
  | 0x0D => s.closePacket
  | 0x0E => s.startPacketNow (bitsOf (ws.getD 0 0) 0 3)
  | 0x0F =>
    let s := s.doIf s.ldFull fun s => s.setLd { s.ld with lastByte := some s.us }
    (s.ldWr Ld.SYNCED 0).ldWr Ld.SRC 0
  | _ => s

/-- The place of a packet in the stream (R196): the order after it, or none when it may not stand here. -/
def State.orderAfter (s : State) (op : Nat) : Option Nat :=
  let o := s.ld.order
  let full := s.ldFull
  let sect := s.ld.enc.isSome
  let within (r : Option Nat) : Option Nat := if sect && s.ld.enc.elim false (fun e => e.left = 0) then none else r
  if op = Op.image then if o = 0 then some 1 else none
  else if o = 0 then none
  else if op = Op.encTag then if s.ld.enc.elim false (fun e => e.left = 0) then some o else none
  else if op = Op.encBegin then
    if !sect && (o = 1 || (o = 3 && full && bitOf s.ld.flags 2 = 1)) then some o else none
  else if op = Op.hmac then if o = 1 && !sect then some 2 else none
  else if op = Op.close then if (o = 1 || o = 2) && !sect then some 3 else none
  else if op = Op.start then within (if o = 3 && full then some 4 else none)
  else if op = Op.desync then if !sect && o = (if full then 4 else 3) then some 5 else none
  else within (if o = 1 then some 1 else none)

/-- A header word (R194 to R196). -/
def State.header (s : State) (w : Nat) : State :=
  let op := w / 2 ^ 24; let len := w % 2 ^ 24
  if !lenOk op len then s.abortStream Abort.badCmd 0 none
  else match s.orderAfter op with
    | none => s.abortStream Abort.badCmd 0 none
    | some o =>
      if bitOf s.ld.flags 2 = 1 && configures op && s.ld.enc.isNone then s.abortStream Abort.auth 0 none
      else if op = Op.bulk && s.ld.selected && !s.ldFull then s.abortStream Abort.badCmd 0 none
      else
        let s := s.setLd { s.ld with order := o, op := op, left := len, kept := [] }
        if len = 0 then s.packet op [] else s

/-- A payload word. -/
def State.payload (s : State) (w : Nat) : State :=
  let l := s.ld
  let last : Bool := l.left = 1
  let skipped : Bool := configures l.op && !l.selected
  if l.op = Op.nop || skipped then s.setLd { l with left := l.left - 1 }
  else if l.op = Op.frames then
    if l.kept.length = 640 then
      (s.setLd { l with left := l.left - 1, kept := [] }).addJob ⟨l.kept.reverse, some w, 1⟩
    else s.setLd { l with left := l.left - 1, kept := w :: l.kept }
  else if l.op = Op.bulk then
    if l.kept.isEmpty then s.setLd { l with left := l.left - 1, kept := [w], bulkAt := w }
    else (s.setLd { l with left := l.left - 1 }).bulkWord w
  else if last then (s.setLd { l with left := 0, kept := [] }).packet l.op (w :: l.kept).reverse
  else s.setLd { l with left := l.left - 1, kept := w :: l.kept }

/-- A word of packets, as received or as decrypted. -/
def State.packetWord (s : State) (w : Nat) : State := if s.ld.left = 0 then s.header w else s.payload w

/-- The n-th ciphertext word of a section, decrypted (R493). -/
def decryptWord (key iv : List Nat) (n w : Nat) : Nat :=
  let ks := gcmStream key iv (2 + n / 4)
  w ^^^ ((List.range 4).foldl (fun acc i => acc + ks.getD (n % 4 * 4 + i) 0 * 2 ^ (8 * i)) 0)

/-- A word of an open stream (R193, R211, R492, R493). -/
def State.streamWord (s : State) (w : Nat) : State :=
  let inSection := s.ld.enc.elim false fun e => 0 < e.left
  let header : Bool := s.ld.left = 0
  if header && !inSection && w = 0xB3C45A96 then
    let src := s.ldRd Ld.SRC
    (s.abortStream Abort.resync 0 none).newStream src
  else
    let macOn : Bool := s.ld.macOn && !(header && !inSection && w / 2 ^ 24 = Op.hmac)
    let s := s.setLd { s.ld with macOn := macOn, seen := if macOn then w :: s.ld.seen else s.ld.seen }
    match s.ld.enc with
    | some e =>
      if 0 < e.left then
        let n := e.cipher.length
        let s := s.setLd { s.ld with enc := some { e with left := e.left - 1, cipher := w :: e.cipher } }
        let s := s.packetWord (decryptWord (s.keyBytes e.slot) e.iv n w)
        if e.left = 1 && s.streamOpen && s.ld.left ≠ 0 then s.abortStream Abort.badCmd 0 none else s
      else s.packetWord w
    | none => s.packetWord w

/-- A word reaches the loader from port src: compared with the sync word while no stream is open (R193), kept behind a
held frame (R208), or taken. -/
def State.loaderWord (s : State) (src w : Nat) : State :=
  if !s.streamOpen then if w = 0xB3C45A96 then s.newStream src else s
  else if s.ld.jobs.isEmpty then s.streamWord w
  else s.setLd { s.ld with buf := s.ld.buf ++ [w] }

/-- Words of port src in order. -/
def State.loaderWords (s : State) (src : Nat) (ws : List Nat) : State := s.each ws fun w s => s.loaderWord src w

/-- The words of the slave port's FIFO reach the loader as far as it takes them: up to n (R104). -/
def State.drainFifo : Nat → State → State
  | 0, s => s
  | n + 1, s =>
    match s.ld.fifo with
    | [] => s
    | w :: ws =>
      if !s.ld.jobs.isEmpty && 16384 ≤ s.ld.buf.length then s
      else State.drainFifo n ((s.setLd { s.ld with fifo := ws }).loaderWord 3 w)

/-- Take the words behind a held frame out of the buffer, do f, and let the loader see them. -/
def State.rebuffer (s : State) (f : State → State) : State :=
  let ws := s.ld.buf
  let src := s.ldRd Ld.SRC
  ((f (s.setLd { s.ld with buf := [] })).loaderWords src ws).drainFifo 64

/-- A stream aborts while words may wait behind a held frame: the loader discards them up to the next sync word (R193,
R206). -/
def State.cancelStream (s : State) (why : Nat) : State := s.rebuffer fun s => s.abortStream why 0 none

/-- Input of a port that does not own the loader (R191). -/
def State.srcBusy (s : State) (port : Nat) : State :=
  let s := s.ldWr Ld.SRC_BUSY 1
  if s.ld.busyTold then s
  else (s.setLd { s.ld with busyTold := true }).logHw Pg.loader 0x26 Sev.info port

/-- The frames that wait are judged again, and the words behind them taken (R172, R208). -/
def State.retryFrames (s : State) : State :=
  if s.ld.jobs.isEmpty then s else s.rebuffer fun s => s.runJobs ((s.ld.jobs.map (·.times)).sum)

/-! ### Commands -/

def portCode : StreamPort → Nat
  | .pcie => 1
  | .serial => 2
  | .parallel => 3

/-- A PCIe write to the loader window (R191, R192, R212): the words in ascending address order. -/
def State.windowWords (s : State) (ok : Bool) (ws : List Nat) : State :=
  if !s.flag Pg.loader Ld.READY then (s.ldWr Ld.EARLY_DROP 1).logHw Pg.loader 0x27 Sev.info ws.length
  else if s.ldRd Ld.SRC ≠ 0 ∧ s.ldRd Ld.SRC ≠ 1 then s.srcBusy 1
  else if !ok then s.cancelStream Abort.badCmd
  else s.loaderWords 1 ws

/-- A serial word (R190, R191, R208, R215). -/
def State.serialIn (s : State) (w : Nat) : State :=
  if s.rd 0 Wbh.CFG_MODE ≠ 1 then s
  else
    let s := (s.wr Pg.slave Slv.SER_WORDS (s.rd Pg.slave Slv.SER_WORDS + 1)).wr Pg.slave Slv.SSEL_LOW 1
    if !s.flag Pg.loader Ld.READY then s
    else if s.ldRd Ld.SRC ≠ 0 ∧ s.ldRd Ld.SRC ≠ 2 then (s.count Pg.slave Slv.SER_DROP).srcBusy 2
    else if !s.ld.jobs.isEmpty && 16384 ≤ s.ld.buf.length then
      (s.count Pg.slave Slv.SER_DROP).cancelStream Abort.overflow
    else s.loaderWord 2 w

/-- A parallel word at an edge with PSVALID high: taken into the FIFO when PSREADY is high (R216), and from there by the
loader as soon as it takes words (DESIGN CHOICE, log entry 158). -/
def State.parallelIn (s : State) (w : Nat) : State :=
  if s.rd 0 Wbh.CFG_MODE ≠ 2 then s
  else if !s.psReady then s.doIf (s.ldRd Ld.SRC = 1 || s.ldRd Ld.SRC = 2) fun s => s.srcBusy 3
  else
    let s := s.wr Pg.slave Slv.PAR_WORDS (s.rd Pg.slave Slv.PAR_WORDS + 1)
    (s.setLd { s.ld with fifo := s.ld.fifo ++ [w] }).drainFifo 64

/-- SYNC_WORD (R193): the sync word from a port. -/
def execSyncWord (port : StreamPort) (s : State) : Host.Outcome State Fault Refusal :=
  .next (match port with
    | .pcie => s.windowWords true [0xB3C45A96]
    | .serial => s.serialIn 0xB3C45A96
    | .parallel => s.parallelIn 0xB3C45A96)

/-- Words from the port that owns the loader. -/
def State.ownerWords (s : State) (ws : List Nat) : State :=
  if s.streamOpen then s.loaderWords (s.ldRd Ld.SRC) ws else s

/-- Header word of a packet. -/
def packetHeader (op len : Nat) : Nat := op * 2 ^ 24 + len % 2 ^ 24

/-- A packet with its payload. -/
def State.packetIn (s : State) (op : Nat) (ws : List Nat) : State := s.ownerWords (packetHeader op ws.length :: ws)

def frameWordList (f : FrameWords) : List Nat := f.data.map (·.toNat) ++ [f.crc.toNat]

/-- STREAM_NOP (R194). -/
def execStreamNop (payload : List Word) (s : State) : Host.Outcome State Fault Refusal :=
  .next (s.packetIn Op.nop (payload.map (·.toNat)))

/-- IMAGE (R196). -/
def execImage (flags member imageId zero : Word) (s : State) : Host.Outcome State Fault Refusal :=
  .next (s.packetIn Op.image [flags.toNat, member.toNat, imageId.toNat, zero.toNat])

/-- DEVSEL (R195). -/
def execDevsel (mask : BitVec 64) (s : State) : Host.Outcome State Fault Refusal :=
  .next (s.packetIn Op.devsel [mask.toNat % 2 ^ 32, mask.toNat / 2 ^ 32])

/-- FAR (R199). -/
def execFar (a : Word) (s : State) : Host.Outcome State Fault Refusal := .next (s.packetIn Op.far [a.toNat])

/-- FRAMES (R194): a packet of frames. -/
def execFrames (fs : List FrameWords) (s : State) : Host.Outcome State Fault Refusal :=
  .next (s.packetIn Op.frames (fs.flatMap frameWordList))

/-- FRAME (R204): the words of the next frame of the open FRAMES packet. -/
def execFrame (f : FrameWords) (s : State) : Host.Outcome State Fault Refusal :=
  .next (if !s.ld.jobs.isEmpty || (s.ld.op = Op.frames && s.ld.left ≠ 0 && s.ld.kept.isEmpty) then s.ownerWords (frameWordList f) else s)

/-- HELD_FRAME_WRITE (R172, R208). -/
def execHeldFrameWrite (s : State) : Host.Outcome State Fault Refusal := .next s.retryFrames

/-- REPEAT (R202). -/
def execRepeatFrames (n : Word) (s : State) : Host.Outcome State Fault Refusal :=
  .next (s.packetIn Op.repeat_ [n.toNat])

/-- ZERO (R202). -/
def execZeroFrames (n : Word) (s : State) : Host.Outcome State Fault Refusal := .next (s.packetIn Op.zero [n.toNat])

/-- WREG (R197). -/
def execWreg (pairs : List (Word × Word)) (s : State) : Host.Outcome State Fault Refusal :=
  .next (s.packetIn Op.wreg (pairs.flatMap fun p => [p.1.toNat, p.2.toNat]))

/-- BULK (R198). -/
def execBulk (addr : Word) (words : List Word) (s : State) : Host.Outcome State Fault Refusal :=
  .next (s.packetIn Op.bulk (addr.toNat :: words.map (·.toNat)))

/-- RFENCE (R207). -/
def execRfence (lo hi ctx : Word) (s : State) : Host.Outcome State Fault Refusal :=
  .next (s.packetIn Op.rfence [lo.toNat, hi.toNat, ctx.toNat])

/-- ENC_BEGIN (R493), with the ciphertext words that follow it. -/
def execEncBegin (slot iv0 iv1 iv2 len : Word) (cipher : List Word) (s : State) :
    Host.Outcome State Fault Refusal :=
  .next ((s.packetIn Op.encBegin [slot.toNat, iv0.toNat, iv1.toNat, iv2.toNat, len.toNat]).ownerWords
    (cipher.map (·.toNat)))

/-- ENC_TAG (R493). -/
def execEncTag (t0 t1 t2 t3 : Word) (s : State) : Host.Outcome State Fault Refusal :=
  .next (s.packetIn Op.encTag [t0.toNat, t1.toNat, t2.toNat, t3.toNat])

/-- HMAC (R492); mac holds word k of the packet's MAC in bits [32k + 31:32k]. -/
def execHmac (slot : Word) (mac : BitVec 256) (s : State) : Host.Outcome State Fault Refusal :=
  .next (s.packetIn Op.hmac (slot.toNat :: (List.range 8).map fun k => bitsOf mac.toNat (32 * k) 32))

/-- CLOSE (R197). -/
def execClose (s : State) : Host.Outcome State Fault Refusal := .next (s.packetIn Op.close [])

/-- START of a full image (R219). -/
def execStartPacket (ctx : Word) (s : State) : Host.Outcome State Fault Refusal :=
  .next (s.packetIn Op.start [ctx.toNat])

/-- DESYNC (R194). -/
def execDesync (s : State) : Host.Outcome State Fault Refusal := .next (s.packetIn Op.desync [])

/-- STALL_TIMEOUT (R210): no word has arrived for STALL_TMO ms; 0 = no limit. -/
def execStallTimeout (s : State) : Host.Outcome State Fault Refusal :=
  .next (if s.ldRd Ld.STALL_TMO = 0 then s else s.cancelStream Abort.stall)

/-- TEMP_HOLD_TIMEOUT (R208): the window stayed closed for TEMP_HOLD_MAX ms; 0 = no limit. -/
def execTempHoldTimeout (s : State) : Host.Outcome State Fault Refusal :=
  .next (
    if s.ldRd Ld.TEMP_HOLD_MAX = 0 || !s.flag Pg.loader Ld.TEMP_HOLD then s else s.cancelStream Abort.temp)

/-- Words of a list of bytes, byte 4j in bits [7:0] (R192). -/
def wordsOfBytes (bs : List Nat) : List Nat :=
  (chunks 4 bs.length bs).map fun b => b.getD 0 0 + b.getD 1 0 * 2 ^ 8 + b.getD 2 0 * 2 ^ 16 + b.getD 3 0 * 2 ^ 24

/-- LOADER_WINDOW_WRITE (R192). -/
def execLoaderWindowWrite (addr : Word) (bytes : List (BitVec 8)) (s : State) : Host.Outcome State Fault Refusal :=
  .next (s.windowWords (addr.toNat % 4 = 0 && bytes.length % 4 = 0) (wordsOfBytes (bytes.map (·.toNat))))

/-- SERIAL_WORD (R215). -/
def execSerialWord (w : Word) (s : State) : Host.Outcome State Fault Refusal := .next (s.serialIn w.toNat)

/-- SSEL_RISE (R215): SSEL_N rises; an incomplete word is discarded and counted. -/
def execSselRise (partialWord : Bool) (s : State) : Host.Outcome State Fault Refusal :=
  .next (
    if s.rd 0 Wbh.CFG_MODE ≠ 1 then s
    else (s.wr Pg.slave Slv.SSEL_LOW 0).doIf partialWord fun s => s.count Pg.slave Slv.SER_PARTIAL)

/-- PARALLEL_WORD (R216). -/
def execParallelWord (w : Word) (s : State) : Host.Outcome State Fault Refusal := .next (s.parallelIn w.toNat)

/-- MEMORY_SPACE_ENABLE (R213): IMAGE_TIMER starts when the host first sets it. -/
def execMemorySpaceEnable (s : State) : Host.Outcome State Fault Refusal :=
  .next (if s.ld.enumerated.isSome then s else s.setLd { s.ld with enumerated := some s.us })

/-- IMAGE_LATE (R213): IMAGE_DEADLINE has passed. -/
def execImageLate (s : State) : Host.Outcome State Fault Refusal :=
  .next (
    if s.ld.enumerated.isNone || s.flag Pg.loader Ld.LOADED then s
    else ((s.ldWr Ld.IMAGE_LATE 1).irq Pg.loader 21).logHw Pg.loader 0x23 Sev.info s.imageTimer)

/-- HLP or CFP stages context c of region i and switches to it with the region held in reset (R187): every flip-flop
starts at INIT. The manual does not give the edge of its bucket on which it does so (log entry 155). -/
def State.resetSwitch (s : State) (i c : Nat) : State :=
  let s := (s.stageBegin i c 1).stageEnd i
  let (edge, s) := s.draw
  let s := (s.setRg i { s.rg i with srst := true }).switchNow i c edge
  (s.settle i).wr (Pg.region i) Hdr.READY 1

/-- The start of a full load (R187, R219). What the region held before is no context, so nothing is saved, and STG_VALID
reads 0. -/
def State.startRegion (s : State) (i c : Nat) : State :=
  ((s.rgWr i Rgn.LIVE_CTX c).resetSwitch i c).rgWr i Rgn.STG_VALID 0

/-- The wake of a region from OFF (R187): both latch sets take LIVE_CTX, and the self-switch under reset exchanges them, so
that the context that leaves is saved and stays staged as R174 has it. -/
def State.wakeRegion (s : State) (i c : Nat) : State :=
  let k := (s.rg i).active
  let es := (s.cfgSlots i c).map fun e => (e.1 + latchKey k i 0 0 0, e.2)
  let s := { s with latch := mreplace s.latch (latchKey k i 0 0 0) slotCount es }
  let s := (s.setRg i { s.rg i with live := true, liveRestore := s.rgRd i Rgn.RESTORE c = 1 }).resetFfs i
  s.resetSwitch i c

/-- LOAD_COMPLETE (R219): the PLLs are READY, the start contexts go live and the load is complete. -/
def execLoadComplete (s : State) : Host.Outcome State Fault Refusal :=
  .next (
    if s.ldRd Ld.PHASE ≠ 5 || !s.pllsReady then s
    else
      let s := s.applySrc
      let c := s.ldRd Ld.START_CTX
      let s := s.each (List.range 40) fun i s =>
        if s.usable (En.region i) && s.isOn (En.region i) && s.isOn (En.plane i) && s.ctxValid i c then s.startRegion i c
        else s.wr (Pg.region i) Hdr.READY 0
      let s := s.each (List.range 12) fun k s => s.autoCommit k
      let s := (s.ldWr Ld.LOADED 1).ldWr Ld.PHASE 6
      let s := s.ldWr Ld.DONE_TIMER (min ((s.us - s.ld.lastByte.getD s.us) / 1000) 0xFFFF)
      let s := s.setLd { s.ld with complete := true }
      (s.irq Pg.loader 17).logHw Pg.loader 0x22 Sev.info (s.ldRd Ld.IMAGE_ID))

/-! ### Readback (R222) -/

/-- A frame of configuration slots, as it is read (R208): result, words. -/
def State.slotFrame (s : State) (f : Far) : Nat × List Nat :=
  let ws := (List.range 320).map fun r => wordDecode (mget {} s.cfg (cfgKey f.region f.ctx f.x f.minor r))
  (if ws.any fun w => w.1 = .uncorrectable then 4 else 0,
    (ws.map (·.2)).flatMap fun w => [w % 2 ^ 32, w / 2 ^ 32])

/-- One cluster of a state or capture bank: both its bytes in [15:0], their poison in [17:16]. -/
def State.bankCluster (s : State) (i bank x r : Nat) : Nat × State :=
  let lo := s.sbRead i bank x r 0
  let hi := lo.2.2.sbRead i bank x r 1
  (lo.1 + hi.1 * 256 + bit lo.2.1 * 2 ^ 16 + bit hi.2.1 * 2 ^ 17, hi.2.2)

/-- The clusters of a frame of a state or capture bank, the last one first, and the state after r of them are read. -/
def State.bankClusters (s : State) (f : Far) : Nat → List Nat × State
  | 0 => ([], s)
  | r + 1 =>
    let p := s.bankClusters f r
    let c := p.2.bankCluster f.region (if f.minor = 16 then 8 else f.ctx) f.x r
    (c.1 :: p.1, c.2)

/-- A frame of a state or capture bank, r clusters of it. -/
def State.bankFrame (s : State) (f : Far) (r : Nat) : Nat × List Nat × State :=
  let p := s.bankClusters f r
  let ws := p.1.reverse
  (if ws.any fun w => w / 2 ^ 16 ≠ 0 then 4 else 0, ws.flatMap fun w => [w % 2 ^ 32, w / 2 ^ 32], p.2)

/-- The bytes of a frame of block memory, the last one first, and the state after k of them are read. -/
def State.bmBytes (s : State) (f : Far) : Nat → List (Nat × Bool) × State
  | 0 => ([], s)
  | k + 1 =>
    let p := s.bmBytes f k
    let d := p.2.bmRead f.region (16 * f.x + f.block) (2048 * f.half + k)
    ((d.1, d.2.1) :: p.1, d.2.2)

/-- A frame of block memory, k bytes of it. -/
def State.bmFrame (s : State) (f : Far) (k : Nat) : Nat × List Nat × State :=
  let p := s.bmBytes f k
  (if p.1.any (·.2) then 4 else 0, wordsOfBytes (p.1.reverse.map (·.1)) ++ List.replicate 128 0, p.2)

/-- A frame as a readback delivers it: RB_WHY, words, and the state after the reads. -/
def State.readFrame (s : State) (far : Nat) : Nat × List Nat × State :=
  let f := farOf far
  let zero := List.replicate 640 0
  if !farOk far then (2, zero, s)
  else if f.minor ≤ 15 && (bitOf (s.rd (Pg.mailbox 2) Scp.POLICY) 3 = 1 || s.ld.rbLocked.contains f.region) then (1, zero, s)
  else if !s.isOn (if f.minor ≤ 15 then En.plane f.region else En.slab f.region) then (3, zero, s)
  else if f.minor ≤ 15 then ((s.slotFrame f).1, (s.slotFrame f).2, s)
  else if f.minor ≤ 17 then s.bankFrame f 320
  else s.bmFrame f 2048

/-- READBACK (R222): a write of 1 to RB_GO. -/
def execReadback (ag : Agent) (s : State) : Host.Outcome State Fault Refusal :=
  .next (s.access ag Pg.loader fun s => s.readbackGo)

/-- READBACK_DONE (R222). -/
def execReadbackDone (s : State) : Host.Outcome State Fault Refusal :=
  .next (
    if !s.flag Pg.loader Ld.RB_BUSY then s
    else
      let far := s.ld.rbFar
      let (why, data, s) := s.readFrame far
      let ws := data ++ [frameCrc far data]
      let s := s.setLd { s.ld with rbBuf := msets 0 [] 0 ws }
      (((s.ldWr Ld.RB_WHY why).ldWr Ld.RB_BUSY 0).ldWr Ld.RB_DONE 1).irq Pg.loader 22)

end Sys2Proof.Machine
end

