-- ==== Sys2Proof/Machine/Pages.lean ====
section
/-! DEFINITION. Machine/Pages.lean: the commands of the page space (chapters 00 and 02): register accesses, the header's
registers, the ownership registry, mailboxes, the log and a processor's watchdog. -/

namespace Sys2Proof.Machine

/-! ### Register accesses -/

/-- A register write; one to the loader window is a word of the stream (R192). -/
def State.registerWrite (s : State) (ag a size v : Nat) : State :=
  if windowOf a = some .loader then
    if ag = Ag.host then s.windowWords (size = 4 && a % 4 = 0) [v] else s.shell ag id
  else s.pageWrite ag a size v

/-- REGISTER_WRITE (R518). -/
def execRegisterWrite (ag : Agent) (addr : Word) (size : Nat) (v : Word) (s : State) : Host.Outcome State Fault Refusal :=
  .next (s.registerWrite ag addr.toNat size v.toNat)

/-- RC_READ (R12): the read delivers the value, and an RC field is left clear for the events to come. -/
def execRcRead (ag : Agent) (rd : ReadAt) (s : State) : Host.Outcome State Fault Refusal :=
  .next (s.pageRead ag rd.addr.toNat rd.size)

/-- LOW_WORD_READ (R7): the high word is latched, and the next read of it returns the latch. -/
def execLowWordRead (ag : Agent) (rd : ReadAt) (s : State) : Host.Outcome State Fault Refusal :=
  .next (s.pageRead ag rd.addr.toNat rd.size)

/-- The access of region i's MGT port, as agent 5 (R153): RDATA, RESP and DONE show how it ended, until the region's next
clock edge. -/
def State.mgtAccess (s : State) (i addr : Nat) (wr : Bool) (wdata : Nat) : State :=
  if s.regionRuns i && s.livePort i 9 then
    let s := if wr then s.registerWrite Ag.fabric addr 4 wdata else s.pageRead Ag.fabric addr 4
    let g := s.rg i
    s.setRg i { g with mgtDone := true, mgtResp := s.bus.resp.code, mgtData := if wr then g.mgtData else s.bus.data }
  else s

/-- MGT_PORT_ACCESS (R153). -/
def execMgtPortAccess (region : Fin 40) (addr : Word) (wr : Bool) (wdata : Word) (s : State) :
    Host.Outcome State Fault Refusal :=
  .next (s.mgtAccess region addr.toNat wr wdata.toNat)

/-- A write of a header register of a page that carries the header (R38, R50). -/
def State.onHeader (s : State) (ag pg : Nat) (f : State → State) : State := if hasHeader pg then s.shell ag f else s

/-- IRQ_STAT_WRITE (R50). -/
def execIrqStatWrite (ag : Agent) (page : BitVec 16) (v : Word) (s : State) : Host.Outcome State Fault Refusal :=
  .next (s.onHeader ag page.toNat fun s => s.irqClear page.toNat v.toNat)

/-- KEY_WRITE (R53). -/
def execKeyWrite (ag : Agent) (page : BitVec 16) (v : Word) (s : State) : Host.Outcome State Fault Refusal :=
  .next (s.onHeader ag page.toNat fun s => s.keyWrite ag page.toNat v.toNat)

/-- PAGE_CLAIM (R51): a write of OWNER with CLAIMED = 1. -/
def execPageClaim (ag : Agent) (page : BitVec 16) (v : Word) (s : State) : Host.Outcome State Fault Refusal :=
  .next (s.onHeader ag page.toNat fun s => s.ownerWrite ag page.toNat (v.toNat ||| 0x10000))

/-- PAGE_RELEASE (R52): a write of OWNER with CLAIMED = 0. -/
def execPageRelease (ag : Agent) (page : BitVec 16) (v : Word) (s : State) : Host.Outcome State Fault Refusal :=
  .next (s.onHeader ag page.toNat fun s => s.ownerWrite ag page.toNat (putBits v.toNat 16 1 0))

/-- VOTE_WRITE (R54). -/
def execVoteWrite (ag : Agent) (page : BitVec 16) (v : Word) (s : State) : Host.Outcome State Fault Refusal :=
  .next (s.onHeader ag page.toNat fun s => s.voteWord ag page.toNat v.toNat)

/-- SRST (R144, R279). -/
def execSrst (ag : Agent) (page : BitVec 16) (s : State) : Host.Outcome State Fault Refusal :=
  .next (s.onHeader ag page.toNat fun s => s.srst page.toNat)

/-- PROFILE_REQUEST (R32, R36). -/
def execProfileRequest (ag : Agent) (page : BitVec 16) (p : BitVec 2) (s : State) : Host.Outcome State Fault Refusal :=
  .next (s.onHeader ag page.toNat fun s => s.profileReq ag page.toNat p.toNat)

/-- PROFILE_CHANGE (R32): at the first bucket of the next lay-by, or the next turn boundary of a turn without one. -/
def execProfileChange (entry : Fin 354) (s : State) : Host.Outcome State Fault Refusal :=
  .next (if s.quietPoint then s.profileTake entry else s)

/-- OWNER_WORD_RELEASE (R59): a write of an owner word of the registry. -/
def execOwnerWordRelease (ag : Agent) (idx : Fin 2016) (v : Word) (s : State) : Host.Outcome State Fault Refusal :=
  .next (s.access ag (Pg.registry idx) fun s => s.ownerWord ag idx v.toNat)

/-! ### Mailboxes -/

/-- SCP restarts for a patch of its own once it has sent the response (R490). -/
def State.afterResponse (s : State) (p c : Nat) : State :=
  if p = 2 ∧ s.sec.restartAfter = some c then { s with sec := { s.sec with restartAfter := none } }.procRestart 2 else s

/-- MAILBOX_RESPONSE (R63): a response is placed, or logged where its command was cancelled. -/
def execMailboxResponse (proc : Fin 4) (ch : Fin 3) (s : State) : Host.Outcome State Fault Refusal :=
  .next (
    let c := s.chan (chanKey proc ch)
    match c.cancelled.find? fun m => m.resp.isSome with
    | some m =>
      let h := (m.resp.getD []).getD 0 0
      (s.setChan (chanKey proc ch) { c with cancelled := c.cancelled.erase m }).logHw (Pg.mailbox proc) 0x05 Sev.info
        (bitsOf h 24 8 + bitsOf h 0 16 * 2 ^ 8 + ch * 2 ^ 24) |>.afterResponse proc ch
    | none => match c.run.bind MailCmd.resp with
      | some ws => (s.chanDone proc ch ws).afterResponse proc ch
      | none => s)

/-- MAILBOX_TIMEOUT (R63): the wait of TMO expires before a response. -/
def execMailboxTimeout (proc : Fin 4) (ch : Fin 3) (s : State) : Host.Outcome State Fault Refusal :=
  .next (
    let c := s.chan (chanKey proc ch)
    if c.run.isNone then s
    else ((s.wr (Pg.mailbox proc) Mbx.TIMEOUT 1 ch).wr (Pg.mailbox proc) Mbx.BUSY 0 ch).setChan (chanKey proc ch)
      ⟨none, c.cancelled ++ c.run.toList⟩)

/-- Opcodes that processor p serves (Tables 07.11, 14.10, 15.6 and 16.3, R495). -/
def opcodesOf (p : Nat) : List Nat :=
  match p with
  | 0 => [0x0001, 0x0002, 0x0003, 0x8001]
  | 1 => [0x8020, 0x8021, 0x8022, 0x8023, 0x8030, 0x8031]
  | 2 => [0x0045, 0x8040, 0x8041, 0x8042, 0x8043, 0x8044]
  | _ => []

/-- BAD_OPCODE (R487, R489, Table 02.10). -/
def execBadOpcode (proc : Fin 4) (ch : Fin 3) (s : State) : Host.Outcome State Fault Refusal :=
  .next (
    match s.running proc ch with
    | none => s
    | some ws => if (opcodesOf proc).contains (ws.getD 0 0 % 2 ^ 16) then s else s.mailReply proc ch Res.badOpcode)

/-- WATCHDOG_EXPIRY (R26, R62). -/
def execWatchdogExpiry (proc : Fin 4) (s : State) : Host.Outcome State Fault Refusal := .next (s.procRestart proc)

/-! ### The log -/

/-- LOG_ENTRY_WRITE (R65, R66). -/
def execLogEntryWrite (s : State) : Host.Outcome State Fault Refusal := .next s.logTake

/-- LOG_RD_WRITE (R519). -/
def execLogRdWrite (ag : Agent) (v : Word) (s : State) : Host.Outcome State Fault Refusal :=
  .next (s.access ag Pg.log fun s => s.logRdWrite v.toNat)

end Sys2Proof.Machine
end

