-- ==== Sys2Proof/Machine/Ports.lean ====
section
/-! DEFINITION. Machine/Ports.lean: the hard ports on the fabric's wires (§05.6, Tables 05.5 and 12.6): what each port drives,
what it does with what the fabric drives, and a region-clock edge as a whole. -/

namespace Sys2Proof.Machine

/-! ### Wires -/

/-- Key of a row's port tile register. -/
def rowKey (i r : Nat) : Nat := i * 320 + r

/-- Wires lo to lo + n − 1 of row r of a port. -/
def wires (rows : List Nat) (r lo n : Nat) : Nat := bitsOf (rows.getD r 0) lo n
def wire (rows : List Nat) (r b : Nat) : Bool := wires rows r b 1 = 1

/-- Signal bits [64n − 1:0] on n rows (R150). -/
def rowsOf (v : Nat) : Nat → List Nat
  | 0 => []
  | n + 1 => v % 2 ^ 64 :: rowsOf (v / 2 ^ 64) n

/-- The number that n rows from row r on spell. -/
def spell (rows : List Nat) (r : Nat) : Nat → Nat
  | 0 => 0
  | n + 1 => rows.getD r 0 % 2 ^ 64 + spell rows (r + 1) n * 2 ^ 64

/-- Entries of region i's live context that attach a port; one whose claim was refused carries nothing (R152). -/
def State.liveEntries (s : State) (i : Nat) : List Nat :=
  if !(s.rg i).live then []
  else ((List.range 16).map fun k => 16 * s.liveCtx i + k).filter fun e =>
    s.rgRd i Rgn.TYPE e ≠ 0 && s.rgRd i Rgn.REFUSED e = 0

/-- The port-out wires of an entry's rows. -/
def State.entryOut (s : State) (i e : Nat) : List Nat :=
  (List.range (portRows (s.rgRd i Rgn.TYPE e))).map fun r => s.portOutRow i (s.rgRd i Rgn.BASE_ROW e + r)

/-! ### What the ports drive -/

/-- A cell on LANE_RX (Table 05.5). -/
def cellWires (o : RxOut) : List Nat :=
  rowsOf (o.data % 2 ^ 512) 8 ++ [1 + bit o.bstart * 2 + bit o.poison * 4 + bit o.crcerr * 8]

/-- A group whose slots name LANE_RX port `port` of region i is at RET or OFF (R408). -/
def State.rxClamped (s : State) (i port : Nat) : Bool :=
  (List.range 24).any fun n => !s.isOn (En.rx (n / 2)) && (namedPorts (s.slotWord (n / 2) (n % 2))).contains (i + port * 64)

/-- What a LANE_RX port shows: the next cell, or the clamps of its group. -/
def State.rxWires (s : State) (i port : Nat) : List Nat :=
  if s.rxClamped i port then List.replicate 8 0 ++ [4]
  else ((mget [] s.rxOut (2 * i + port)).head?.map cellWires).getD []

/-- The word TE_OUT shows of output FIFO f of logical engine n; without a host the clamps hold (R252). -/
def State.teOutWires (s : State) (n f : Nat) : Nat :=
  let (d, v, l, p) := (s.hostEngine n).elim (0, false, false, true) fun t => s.teOut t (2 + f)
  d + bit v * 2 ^ 32 + bit l * 2 ^ 33 + bit p * 2 ^ 34

/-- FULL and AFULL of input FIFO f of logical engine n. -/
def State.teInWires (s : State) (n f : Nat) : Nat :=
  (s.hostEngine n).elim 3 fun t => bit (s.fifoFull t f) + 2 * bit (s.fifoAfull t f)

/-- The port of shallot k that serves region i. -/
def hitPort (k i : Nat) : Nat := ((List.range 8).find? fun n => portRegion k n = i).getD 0

/-- The word a road port drives; clamped at RET and OFF (R297). -/
def State.roadWires (s : State) (k n : Nat) : List Nat :=
  if !s.isOn (En.shallot k) then [0, 4]
  else match mget [] (s.sh k).out n with
    | [] => [0, 0]
    | w :: _ => [w.road % 2 ^ 64, 1 + bit w.last * 2 + bit w.poison * 4]

/-- Flits of each network that region i's NET port shows at the next edge, and those that stay. -/
def State.netComing (s : State) (i : Nat) : List PortFlit × List PortFlit :=
  (s.np i).coming.foldl (fun a f =>
    if a.1.any fun g => g.net = f.net then (a.1, a.2 ++ [f]) else (a.1 ++ [f], a.2)) ([], [])

/-- Flits of VC k that stand in the port of region i, offered and not yet in the router (R382). -/
def State.netHeld (s : State) (i k : Nat) : Nat :=
  let here := s.mesh.flight.filter fun w => w.src = regionPlace i 1 && 4 * w.p.net + w.p.vc = k
  (here.map fun w => (w.spots.filter fun x => x.pos = 0).length).sum

/-- VCs on which the fabric regains a credit at the next edge: the port holds fewer flits than the fabric has sent. -/
def State.netCredits (s : State) (i : Nat) : List Nat :=
  (List.range 16).filter fun k => s.netHeld i k < mget 0 (s.np i).sent k

/-- VC k has this place among the credit wires of row 8 port-in: DAT, REQ, SNP, RSP (Table 12.6). -/
def creditBit (k : Nat) : Nat :=
  match k / 4 with
  | 3 => 8 + k % 4
  | 0 => 12 + k % 4
  | 2 => 16 + k % 2
  | _ => 18 + k % 2

/-- The NET port's port-in wires (Table 12.6), clamped while the network does not run (R379). -/
def State.netWires (s : State) (i : Nat) : List Nat :=
  if !s.netRuns then List.replicate 8 0 ++ [2 ^ 5] ++ List.replicate 5 0
  else
    let show_ := (s.netComing i).1
    let of (net : Nat) := show_.find? fun f => f.net = net
    let data (net : Nat) := (of net).elim 0 fun f => f.flit
    let side (net : Nat) := (of net).elim 0 fun f => 1 + f.vc % 4 * 2
    let dat := (of Nw.dat).elim 0 fun f => side Nw.dat + bit f.head * 8 + bit f.tail * 16 + bit f.poison * 32
    let credits := ((s.netCredits i).map fun k => 2 ^ creditBit k).sum
    let pulse := match (s.np i).pulse with
      | some .refused => 2 ^ 14
      | some .noSlot => 2 ^ 4
      | some (.tmo t) => 2 ^ 5 + t % 256 * 2 ^ 6
      | none => 0
    rowsOf (data Nw.dat % 2 ^ 512) 8 ++ [dat + credits] ++ rowsOf (data Nw.req % 2 ^ 128) 2 ++
      [data Nw.snp % 2 ^ 64, data Nw.rsp % 2 ^ 64, side Nw.rsp + side Nw.snp * 4 + pulse + side Nw.req * 2 ^ 15]

/-- RDATA, RVALID and POISON of the RB port: what it read RBL edges before (R334); clamped with the slab (R333). -/
def State.rbWires (s : State) (i : Nat) : List Nat :=
  if !s.isOn (En.slab i) then List.replicate 8 0 ++ [0xFF * 2]
  else match (s.rg i).rbPipe.getD 3 none with
    | some (d, p) => rowsOf (d % 2 ^ 512) 8 ++ [1 + p % 256 * 2]
    | none => List.replicate 9 0

/-- The time bus (§03.3). -/
def State.timeWires (s : State) (i : Nat) : List Nat :=
  [s.bucket % 2 ^ 16 + s.turn % 2 ^ 16 * 2 ^ 16 + s.laybyRemain % 2 ^ 16 * 2 ^ 32 + s.tp.busCmd % 256 * 2 ^ 48
      + bit (s.bucket = 0) * 2 ^ 56 + bit s.inLayby * 2 ^ 57 + bit s.tp.busValid * 2 ^ 58 + bit s.timed * 2 ^ 59,
    mget 0 s.ms.lines i % 2 ^ 16 + s.tp.busArg % 2 ^ 16 * 2 ^ 16]

/-- The port-in wires of a port of region i, row by row (Table 05.5). -/
def State.portDrives (s : State) (i type inst : Nat) : List Nat :=
  match type with
  | 1 => s.rxWires i inst
  | 2 => List.replicate 8 0 ++ [bit ((s.halfFor i inst).elim false fun o => s.txReady o.1 o.2)]
  | 3 => [s.teInWires (inst % 128) (inst / 128)]
  | 4 => [s.teOutWires (inst % 128) (inst / 128)]
  | 5 => [bit (s.shBusy inst)]
  | 6 => s.roadWires inst (hitPort inst i)
  | 7 => s.netWires i
  | 8 => s.rbWires i
  | 9 => [(s.rg i).mgtData % 2 ^ 32 + bit (s.rg i).mgtDone * 2 ^ 32 + (s.rg i).mgtResp % 4 * 2 ^ 33]
  | 10 => [bit (s.rg i).voteAck]
  | 11 => s.timeWires i
  | _ => []

/-! ### What the ports do with what the fabric drives -/

/-- The hits on a SHL_HIT port. -/
def hitsOf (rows : List Nat) : List (Nat × Nat) :=
  (List.range 4).filterMap fun h =>
    let r := h / 2; let b := 20 * (h % 2)
    if wire rows r b then some (wires rows r (b + 1) 3, wires rows r (b + 4) 16) else none

/-- Credits that the fabric returns: the row 13 wires of the VCs of DAT, RSP, SNP and REQ (Table 12.6). -/
def creditsGiven (rows : List Nat) : List Nat :=
  (List.range 16).filter fun k =>
    match k / 4 with
    | 3 => wire rows 13 (8 + k % 4)
    | 1 => k % 4 < 2 && wire rows 13 (12 + k % 4)
    | 2 => k % 4 < 2 && wire rows 13 (14 + k % 4)
    | _ => wire rows 13 (16 + k % 4)

/-- The flits and credits the fabric drives on a NET port. -/
def State.netTake (s : State) (i : Nat) (rows : List Nat) : State :=
  let s := s.each (creditsGiven rows) fun k s => s.creditReturn i k false
  let s := s.doIf (wire rows 8 0) fun s =>
    s.netPortFlit i Nw.dat (wires rows 8 1 2) (wire rows 8 3) (wire rows 8 4) (wire rows 8 5) (spell rows 0 8)
  let s := s.doIf (wire rows 13 0) fun s => s.netPortFlit i Nw.req (wires rows 13 1 2) true true false (spell rows 9 2)
  let s := s.doIf (wire rows 13 3) fun s => s.netPortFlit i Nw.snp (wires rows 13 4 1) true true false (spell rows 11 1)
  s.doIf (wire rows 13 5) fun s => s.netPortFlit i Nw.rsp (wires rows 13 6 1) true true false (spell rows 12 1)

/-- An edge of the RB port: a descriptor or an access, and the read enters the pipe (R334). -/
def State.rbTake (s : State) (i : Nat) (rows : List Nat) : State :=
  let re := wire rows 8 21
  let s := if s.rbPort i then
      s.rbAccess i (wires rows 8 0 20) (wire rows 8 20) re (wires rows 8 22 8) (spell rows 0 8)
    else s
  s.setRg i { s.rg i with rbPipe := (if re then some (mget (0, 0) s.rbOut i) else none) :: (s.rg i).rbPipe.take 3 }

/-- An access on the MGT port waits for its turn; one that comes while another waits is lost (log entry 163). -/
def State.mgtTake (s : State) (i : Nat) (rows : List Nat) : State :=
  let g := s.rg i
  if g.mgtWait.isSome || !(wire rows 1 0 || wire rows 1 1) then s
  else s.setRg i { g with mgtWait := some (wire rows 1 0, wires rows 0 0 32, wires rows 0 32 32) }

/-- What a port of region i does at an edge with the wires of its rows (Table 05.5). -/
def State.portTake (s : State) (i type inst : Nat) (rows : List Nat) : State :=
  match type with
  | 2 => s.doIf (wire rows 8 0) fun s => s.txCellWrite i inst (spell rows 0 8) (wire rows 8 1) (wire rows 8 2)
  | 3 => s.fifoWrite i (inst % 128) (inst / 128) (wires rows 0 0 32) (wire rows 0 32) (wire rows 0 33) (wire rows 0 34)
  | 4 => s.doIf (wire rows 0 0) fun s => s.fifoRead i (inst % 128) (inst / 128)
  | 5 => s.doIf (!(hitsOf rows).isEmpty) fun s => s.hitWrite inst (hitPort inst i) (hitsOf rows)
  | 7 => s.netTake i rows
  | 8 => s.rbTake i rows
  | 9 => s.mgtTake i rows
  | _ => s

/-- What a port has shown at an edge is over: cells and roads are driven for one edge each, flits have been shown, credits
and pulses are given. -/
def State.portShown (s : State) (i type inst : Nat) : State :=
  match type with
  | 1 => { s with rxOut := mset [] s.rxOut (2 * i + inst) (mget [] s.rxOut (2 * i + inst)).tail }
  | 6 =>
    let n := hitPort inst i
    s.setSh inst { s.sh inst with out := mset [] (s.sh inst).out n (mget [] (s.sh inst).out n).tail }
  | 7 =>
    if !s.netRuns then s
    else
      let ks := s.netCredits i
      let rest := (s.netComing i).2
      let s := s.each ks fun k s => s.creditReturn i k true
      s.setNp i { s.np i with coming := rest, pulse := none }
  | 9 => s.setRg i { s.rg i with mgtDone := false }
  | 10 => s.setRg i { s.rg i with voteAck := false }
  | _ => s

/-! ### The banks of general I/O pins (R506) -/

/-- Banks that row 319 of region i serves. -/
def State.gioBanks (s : State) (i : Nat) : List Nat :=
  (List.range 8).filter fun b => homeRegion b = i && s.flag (Pg.gio b) Gio.FAB_EN

/-- A region-clock edge of a bank: the outputs in `out` are sampled, and the inputs move on. -/
def State.gioRegionEdge (s : State) (b out : Nat) : State :=
  let g := s.gioPipe b
  s.setGio b { g with sampled := out % 2 ^ 48, shown := g.taken }

/-- A GIO-clock edge of bank b: the level of a pin that nothing drives is a free value (log entry 50). Of a region that does
not stand at RUN or SLEEP the bank has the clamps' zeros. -/
def State.gioEdge (s : State) (b : Nat) : State :=
  if !s.flag (Pg.gio b) Gio.FAB_EN || !s.flag Pg.clocks Clk.OPEN (169 + b) then s
  else
    let (outside, s) := s.draw
    let g := s.gioPipe b
    let out := if s.isOn (En.region (homeRegion b)) then g.sampled else 0
    let s := s.setGio b { g with next := out, ball := g.next }
    let level (i : Nat) : Nat := (s.pinDriven b i).getD (bitOf outside i) * 2 ^ i
    s.setGio b { s.gioPipe b with taken := ((List.range 24).map level).sum }

/-- A GIO-clock edge of every bank. -/
def State.gioEdges (s : State) : State := s.each (List.range 8) fun b s => s.gioEdge b

/-! ### A region-clock edge -/

/-- What region i's fabric holds just before an edge. -/
structure Sample where
  region : Nat
  /-- The flip-flops after the edge (R132). -/
  ffs : List (Nat × Nat)
  /-- Port-out wires of each live attachment (R149). -/
  outs : List (Nat × List Nat)
  /-- Port-out wires of row 319, where a bank of pins has it (R506). -/
  pins : Nat
  /-- Block-memory columns, blocks and their two ports (R146). -/
  blocks : List ((Nat × Nat) × BmPort × BmPort)
  /-- The request cluster (R178). -/
  strobes : Nat
  ctx : Nat
  deriving DecidableEq, Repr

/-- Blocks of region i that its live context hosts a port of. -/
def State.hostedBlocks (s : State) (i : Nat) : List (Nat × Nat) :=
  ((s.latchSlots (s.rg i).active i).filterMap fun e =>
    if e.1 / 320 % 16 = 7 && s.bmHost i (e.1 / 5120) (e.1 % 320) then some (e.1 / 5120, e.1 % 320 / 20) else none).eraseDups

def State.sample (s : State) (i : Nat) : Sample :=
  { region := i
    ffs := s.ffsNext i
    outs := (s.liveEntries i).map fun e => (e, s.entryOut i e)
    pins := if (s.gioBanks i).isEmpty then 0 else s.portOutRow i 319
    blocks := (s.hostedBlocks i).map fun b =>
      (b, s.hostPort (siteOf i b.1 (20 * b.2)), s.hostPort (siteOf i b.1 (20 * b.2 + 10)))
    strobes := if s.clusterSampled i then s.clusterStrobes i else 0
    ctx := s.clusterCtx i }

/-- The block memories at an edge: what was read an edge ago is driven, and the ports' accesses begin (log entry 153). -/
def State.blocksEdge (s : State) (a : Sample) : State :=
  let i := a.region
  let lo := bmPortKey i 0 0 0
  let s := { s with bmOut := mreplace s.bmOut lo 2048 ((mrange s.bmNext lo 2048)) }
  s.each a.blocks fun b s =>
    s.bmAccess i b.1.1 b.1.2 b.2.1 b.2.2 fun s p v => { s with bmNext := mset 0 s.bmNext (bmPortKey i b.1.1 b.1.2 p) v }

/-- The request cluster at an edge: a strobe that reads 1 after reading 0 asks (R178). -/
def State.strobesEdge (s : State) (a : Sample) : State :=
  let i := a.region
  let rise (b : Nat) : Bool := bitOf a.strobes b = 1 && bitOf (s.rg i).strobes b = 0
  let stage := rise 0; let switch := rise 1
  let s := s.setRg i { s.rg i with strobes := a.strobes }
  let s := s.doIf switch fun s => s.clusterSwitch i a.ctx
  s.doIf stage fun s => s.clusterStage i a.ctx

/-- The port tile registers and the ports at an edge: they take what the fabric drove, and then drive. -/
def State.portsEdge (s : State) (a : Sample) : State :=
  let i := a.region
  let rows (s : State) (e : Nat) (vs : List Nat) : List (Nat × Nat) := vs.zipIdx.map fun v => (rowKey i (s.rgRd i Rgn.BASE_ROW e + v.2), v.1)
  let outs := (a.outs.flatMap fun o => rows s o.1 o.2) ++ [(rowKey i 319, a.pins)]
  let s := { s with portOut := mreplace s.portOut (rowKey i 0) 320 (outs.filter fun e => e.2 ≠ 0) }
  let pins := ((s.gioBanks i).map fun b => (s.gioPipe b).shown).headD 0
  let s := s.each (s.gioBanks i) fun b s => s.gioRegionEdge b a.pins
  let s := s.each a.outs fun o s => s.portTake i (s.rgRd i Rgn.TYPE o.1) (s.rgRd i Rgn.INST o.1) o.2
  let ins := (s.liveEntries i).flatMap fun e => rows s e (s.portDrives i (s.rgRd i Rgn.TYPE e) (s.rgRd i Rgn.INST e))
  let s := { s with portIn := mreplace s.portIn (rowKey i 0) 320 ((ins ++ [(rowKey i 319, pins)]).filter fun e => e.2 ≠ 0) }
  s.each (s.liveEntries i) fun e s => s.portShown i (s.rgRd i Rgn.TYPE e) (s.rgRd i Rgn.INST e)

/-- A region-clock edge of the sampled region. -/
def State.regionEdge (s : State) (a : Sample) : State :=
  let i := a.region
  let s := { s with ff := mreplace s.ff (ffKey i 0 0) clusterCount a.ffs }
  ((((s.blocksEdge a).portsEdge a).strobesEdge a).settle i).stagingEdge i

/-- VOTE strobes of one cycle: for each domain the highest level is written, and every region that strobed is answered
(R153). -/
def State.votesEdge (s : State) (as : List Sample) : State :=
  let strobes := as.flatMap fun a => a.outs.filterMap fun o =>
    if s.rgRd a.region Rgn.TYPE o.1 = 10 && wire o.2 0 11 && decide (wires o.2 0 0 9 < 270)
    then some (a.region, wires o.2 0 0 9, wires o.2 0 9 2) else none
  s.each strobes fun v s =>
    let top := (strobes.filter fun w => w.2.1 = v.2.1).foldl (fun n w => max n w.2.2) 0
    s.voteStrobe v.1 v.2.1 top

/-- One MGT access in each management-clock cycle, the regions taking turns by instance (R153). -/
def State.mgtTurn (s : State) : State :=
  let waits := (s.rgs.filter fun g => g.2.mgtWait.isSome).map (·.1)
  match (waits.find? fun i => s.mgtLast < i + 1).orElse fun _ => waits.head? with
  | none => s
  | some i =>
    match (s.rg i).mgtWait with
    | none => s
    | some (wr, addr, wdata) =>
      (({ s with mgtLast := i + 1 } : State).setRg i { s.rg i with mgtWait := none }).mgtAccess i addr wr wdata

/-- One edge of the clock of every region that runs its live context (log entry 4). -/
def State.regionEdges (s : State) : State :=
  let as := ((s.rgs.filter fun g => g.2.live && s.regionRuns g.1).map (·.1)).map s.sample
  (s.each as fun a s => s.regionEdge a).votesEdge as

end Sys2Proof.Machine
end

