-- ==== Sys2Proof/Machine/Cycle.lean ====
section
/-! DEFINITION. Machine/Cycle.lean: what a management-clock cycle without a command does (log entry 4). -/

namespace Sys2Proof.Machine

/-- One management-clock cycle passes; every 500 of them are a microsecond, in which the microsecond timers count
(R93). References that were lost may come back (R109), an MGT access is served (R153), the network clock, the clocks
of the regions and those of the general I/O banks have one edge each; what they log is logged as of one moment (R65). -/
def State.cycle (s : State) : State :=
  s.simultaneous fun s =>
    let s := { s with cycles := s.cycles + 1 }
    let s := s.refsReturn.doIf (s.cycles % 500 = 0) fun s => s.tickTimers 2
    s.mgtTurn.netEdge.regionEdges.gioEdges

end Sys2Proof.Machine
end

