-- ==== Sys2Proof/Machine/Milestones.lean ====
section
/-! DEFINITION. Machine/Milestones.lean: the commands of the milestone scheduler (R85 to R92) and the bucket boundary as
every chapter sees it (R75). -/

namespace Sys2Proof.Machine

/-- A bucket boundary (R75): the counters change, then what other chapters do at a boundary happens: branches that wait for a
bucket open (R121), the region-clock edges after those of the last commands have passed (R142, R144), destination slots and
turn counts of the lanes (R404, R412), and column remaps that waited for their pair (R456). Without lock the time bus alone
moves on. -/
def State.bucketBoundary (s : State) : State :=
  if s.timed then
    let s := s.boundary.branchEdge
    let s := { s with mesh := { s.mesh with slot := 0 } }
    (s.each ((s.rgs.map (·.1)).filter fun i => s.regionRuns i) fun i s => s.settle i).laneBoundary.remapNext
  else s.boundary

/-- BUCKET_BOUNDARY (R75); what the boundary logs is logged as of one moment (R65). -/
def execBucketBoundary (s : State) : Host.Outcome State Fault Refusal :=
  .next (s.simultaneous fun s => s.bucketBoundary)

/-- MILESTONE_ARM (R86): a write of an entry's first word with ARM = 1. -/
def execMilestoneArm (ag : Agent) (e : Fin 256) (w0 : Word) (s : State) : Host.Outcome State Fault Refusal :=
  .next (s.access ag (msPage e) fun s => s.msWrite0 ag e (w0.toNat ||| 1))

/-- MILESTONE_DISARM (R87): a write of an entry's first word with ARM = 0. -/
def execMilestoneDisarm (ag : Agent) (e : Fin 256) (w0 : Word) (s : State) : Host.Outcome State Fault Refusal :=
  .next (s.access ag (msPage e) fun s => s.msWrite0 ag e (w0.toNat - w0.toNat % 2))

/-- MILESTONE_EVALUATE (R90): the decision at the end of a bucket. -/
def execMilestoneEvaluate (s : State) : Host.Outcome State Fault Refusal := .next s.evaluate

/-- MILESTONE_NONE (Table 03.4). -/
def execMilestoneNone (e : Fin 256) (s : State) : Host.Outcome State Fault Refusal :=
  .next (s.fire e 0 fun _ s => (true, s))

/-- MILESTONE_STAGE (Table 03.4, R178): on the first region-clock edge of the bucket, after its captures and switches. -/
def execMilestoneStage (e : Fin 256) (s : State) : Host.Outcome State Fault Refusal := .next (s.regionMilestone e 1)

/-- MILESTONE_SWITCH (Table 03.4, R178): after the captures of its edge. -/
def execMilestoneSwitch (e : Fin 256) (s : State) : Host.Outcome State Fault Refusal := .next (s.regionMilestone e 2)

/-- MILESTONE_CAPTURE (R157, R159): a requested capture of the same edge is served with it (R158). -/
def execMilestoneCapture (e : Fin 256) (s : State) : Host.Outcome State Fault Refusal := .next (s.regionMilestone e 3)

/-- MILESTONE_TE_START (R253, R254): a TE_HALT of the same bucket comes first (R91). -/
def execMilestoneTeStart (e : Fin 256) (s : State) : Host.Outcome State Fault Refusal :=
  .next (
    match s.firingOf e 4 with
    | none => s
    | some f => (s.engineFireOn f.target [5]).fire e 4 State.engineAct)

/-- MILESTONE_TE_HALT (R254). -/
def execMilestoneTeHalt (e : Fin 256) (s : State) : Host.Outcome State Fault Refusal :=
  .next (s.fire e 5 State.engineAct)

/-- MILESTONE_REFRESH (R348). -/
def execMilestoneRefresh (e : Fin 256) (s : State) : Host.Outcome State Fault Refusal :=
  .next (s.fire e 6 fun f s => match s.refreshAction f.target f.param with
    | some s => (true, s)
    | none => (false, s))

/-- MILESTONE_PULSE (Table 03.4, R505): the pin is high for PARAM buckets, while its PMODE is 3. -/
def execMilestonePulse (e : Fin 256) (s : State) : Host.Outcome State Fault Refusal :=
  .next (s.fire e 7 fun f s =>
    if s.pinMode f.target = 3 then (true, s.setMs { s.ms with pulses := s.ms.pulses ++ [(f.target, s.time64 + f.param)] })
    else (false, s))

/-- PULSE_END (R88): pulses whose width is over end; the pin stays high while another lasts (R91). -/
def execPulseEnd (pin : Fin 192) (s : State) : Host.Outcome State Fault Refusal :=
  .next (s.setMs { s.ms with pulses := s.ms.pulses.filter fun p => p.1 ≠ pin.val || s.time64 < p.2 })

/-- MILESTONE_FABRIC (Table 03.4): the event lines of PARAM for one bucket; masks combine by OR (R91). -/
def execMilestoneFabric (e : Fin 256) (s : State) : Host.Outcome State Fault Refusal :=
  .next (s.fire e 8 fun f s =>
    if s.serves (En.region f.target) then
      (true, s.setMs { s.ms with lines := addLines s.ms.lines f.target f.param })
    else (false, s))

/-- MILESTONE_VOTE (Table 03.4): vote slot 6 of the domain (R54). -/
def execMilestoneVote (e : Fin 256) (s : State) : Host.Outcome State Fault Refusal :=
  .next (s.fire e 9 fun f s => (true, s.castVote (f.param % 512) 6 (f.ctx % 4)))

end Sys2Proof.Machine
end

