-- ==== Sys2Proof/Machine/Security.lean ====
section
/-! DEFINITION. Machine/Security.lean: the commands that processors serve in their mailboxes: envelopes, the protected
operations, and the plain opcodes of CFP and SCP (chapter 16, R225, R458, R480). -/

namespace Sys2Proof.Machine

def State.scRd (s : State) (r : Row) (i : Nat := 0) : Nat := s.rd (Pg.mailbox 2) r i
def State.scWr (s : State) (r : Row) (v : Nat) (i : Nat := 0) : State := s.wr (Pg.mailbox 2) r v i
def State.setSec (s : State) (c : Sec) : State := { s with sec := c }

/-- OPCODE and LENGTH of a command's word 0 (§02.7). -/
def opcodeOf (ws : List Nat) : Nat := bitsOf (ws.getD 0 0) 0 16
def lengthOf (ws : List Nat) : Nat := bitsOf (ws.getD 0 0) 16 8

/-! ### Plain commands (R225, R495) -/

/-- Serve the plain opcode `op` that runs on channel c of processor p; its LENGTH is 0. -/
def State.plainCmd (s : State) (p c op : Nat) (f : State → State) (answer : State → List Nat := fun _ => []) : State :=
  match s.running p c with
  | none => s
  | some ws =>
    if opcodeOf ws ≠ op then s
    else if lengthOf ws ≠ 0 then s.mailReply p c Res.badLength
    else (f s).mailReply p c Res.ok (answer s)

/-- LOAD_STATUS (R225). -/
def execLoadStatus (ch : Fin 3) (s : State) : Host.Outcome State Fault Refusal :=
  .next (s.plainCmd 0 ch 0x0001 id fun s => [0x040, 0x044, 0x048].map fun off => s.wordAt Pg.loader off 0)

/-- ABORT_STREAM (R225). -/
def execAbortStream (ch : Fin 3) (s : State) : Host.Outcome State Fault Refusal :=
  .next (s.plainCmd 0 ch 0x0002 fun s => s.cancelStream Abort.host)

/-- The active latches of region i hold the cleared pattern and its flip-flops are in reset (R218, R221). -/
def State.clearRegion (s : State) (i : Nat) : State :=
  let g := s.rg i
  let s := { s with latch := mclear s.latch (latchKey g.active i 0 0 0) slotCount
                    ff := mclear s.ff (ffKey i 0 0) clusterCount }
  let s := s.setRg i { g with live := false, staging := none, stgReqs := [], swReqs := [], stgNext := none, settling := false
                              capReq := false, srst := false, strobes := 0 }
  let s := (s.setRg (i % 20) { s.rg (i % 20) with conflicts := [] }).showPersist (i % 20)
  s.wr (Pg.region i) Hdr.READY 0 |>.rgWr i Rgn.STAGING 0 |>.rgWr i Rgn.STG_PEND 0 |>.rgWr i Rgn.SW_PEND 0
    |>.rgWr i Rgn.STG_VALID 0

/-- Every milestone entry is disarmed, and nothing decided or waiting fires (R221). -/
def State.disarmAll (s : State) : State :=
  let s := s.each (allEntries.filter fun e => s.msArmed e) fun e s => s.msDisarm e
  s.setMs { s.ms with due := [], decided := [], issued := [] }

/-- The device returns to phase LOAD (R221). -/
def State.unconfigure (s : State) : State :=
  let s := s.setTp { s.tp with globalReset := true, started := false, released := false, sampled := none, relocked := false }
  let s := (s.each (List.range 40) fun i s => s.clearRegion i).disarmAll
  let s := s.each (List.range 12) fun g s => s.txLook g
  let s := (((s.ldWr Ld.LOADED 0).setFence 0 0 0).ldWr Ld.CFG_ERR 0).ldWr Ld.PHASE 4
  let s := s.setLd { s.ld with complete := false, late := [], srcWrites := [], profiles := [] }
  s.vdpLook.logHw Pg.loader 0x29 Sev.info 0

/-- UNCONFIGURE (R221). Before the loader is READY there is no phase to return to. -/
def execUnconfigure (ch : Fin 3) (s : State) : Host.Outcome State Fault Refusal :=
  .next (s.plainCmd 0 ch 0x0003 fun s => s.doIf (s.flag Pg.loader Ld.READY) fun s => s.unconfigure)

/-- The debug port has left: HLP releases its claims and sets every debug slot to OFF (R59, R427). -/
def State.debugGone (s : State) : State :=
  (s.releaseAgent Ag.debug).each ((List.range 270).filter fun d => s.vote d Ag.debug ≠ 0) fun d s => s.castVote d Ag.debug 0

/-- The debug port is locked or unlocked (R495): a change is latched and logged. -/
def State.setDebug (s : State) (c : Nat) (unlock : Bool) : State :=
  if s.flag (Pg.mailbox 2) Scp.DEBUG_OPEN = unlock then s
  else
    let s := ((s.scWr Scp.DEBUG_OPEN (bit unlock)).irq (Pg.mailbox 2) 18).log (Pg.mailbox 2) 0x26 Sev.info (chanAgent c) (bit unlock)
    s.doIf (!unlock) fun s => s.debugGone

/-- DEBUG_LOCK (R495). -/
def execDebugLock (ch : Fin 3) (s : State) : Host.Outcome State Fault Refusal :=
  .next (s.plainCmd 2 ch 0x0045 fun s => s.setDebug ch false)

/-! ### Envelopes (R484 to R488) -/

/-- MAC of an envelope with n arguments: the first 128 bits of HMAC-SHA-256 over words 0 to 4 + n (Table 16.2). -/
def envelopeMac (key : List Nat) (ws : List Nat) (n : Nat) : List Nat :=
  (hmacSha256 key ((ws.take (5 + n)).flatMap leBytes)).take 16

/-- The first check of Table 16.4 that an envelope on channel c fails; n is the argument count of Table 16.3. -/
def State.envelopeWhy (s : State) (c n : Nat) (ws : List Nat) : Option Nat :=
  let w1 := ws.getD 1 0
  let slot := bitsOf w1 0 3
  if s.scRd Scp.SCP_STATE = 2 then some 1
  else if s.scRd Scp.SCP_STATE = 3 then some 2
  else if c = 2 && !s.flag (Pg.mailbox 2) Scp.DEBUG_OPEN then some 3
  else if lengthOf ws ≠ 8 + bitsOf w1 8 8 || bitsOf w1 8 8 ≠ n then some 4
  else if s.scRd Scp.VALID slot = 0 || bitOf (s.scRd Scp.USE slot) 0 = 0 then some 5
  else if envelopeMac (s.keyBytes slot) ws n ≠ ((ws.drop (5 + n)).take 4).flatMap leBytes then some 6
  else if ws.getD 2 0 ≠ s.scRd Scp.NONCE_LO || ws.getD 3 0 ≠ s.scRd Scp.NONCE_HI then some 7
  else if ws.getD 4 0 ≤ s.scRd Scp.CTR_LAST then some 8
  else none

/-- An envelope fails (R485, R488, Table 16.5). -/
def State.envelopeFail (s : State) (c op why : Nat) : State :=
  let pg := Pg.mailbox 2
  let s := ((s.count pg Scp.AUTH_FAIL_CNT).scWr Scp.LAST_WHY why).scWr Scp.LAST_OPCODE op
  let s := (s.irq pg 16).log pg 0x21 Sev.info (chanAgent c) (why + op * 2 ^ 4)
  let run := min 16 (s.scRd Scp.FAIL_RUN + 1)
  let s := s.scWr Scp.FAIL_RUN run
  s.doIf (run = 16 && s.scRd Scp.SCP_STATE = 1) fun s =>
    ((s.scWr Scp.SCP_STATE 3).irq pg 17).log pg 0x22 Sev.degraded (chanAgent c) (s.scRd Scp.AUTH_FAIL_CNT)

/-- A verified command is refused by its processor (Table 16.5, R497). -/
def State.envelopeRefused (s : State) (p c op : Nat) : State :=
  (s.count (Pg.mailbox 2) Scp.REFUSE_CNT).log (Pg.mailbox p) 0x20 Sev.info (chanAgent c) op

/-- Serve envelope opcode `op` with n arguments on channel c of processor p (R25, R485, R487). `f` acts on the envelope's
words and is none where Table 16.3 refuses the command; `refused` is what the refusal does beside its report. -/
def State.envelopeCmd (s : State) (p c op n : Nat) (f : State → List Nat → Option State) (refused : State → State := id) :
    State :=
  match s.running p c with
  | none => s
  | some ws =>
    if opcodeOf ws ≠ op then s
    else match s.envelopeWhy c n ws with
      | some why => (s.envelopeFail c op why).mailReply p c Res.authFailed
      | none =>
        let s := (s.scWr Scp.CTR_LAST (ws.getD 4 0)).scWr Scp.FAIL_RUN 0
        match f s ws with
        | some s => s.mailReply p c Res.ok
        | none => ((refused s).envelopeRefused p c op).mailReply p c Res.refused

/-- Argument word k of an envelope. -/
def argOf (ws : List Nat) (k : Nat) : Nat := ws.getD (5 + k) 0

/-- LOCKOUT_END (R488): the second is over. -/
def execLockoutEnd (s : State) : Host.Outcome State Fault Refusal :=
  .next (if s.scRd Scp.SCP_STATE = 3 then s.scWr Scp.SCP_STATE 1 else s)

/-! ### Protected operations of CFP and HLP (Table 16.3) -/

/-- RFENCE_SET (R207, R489). -/
def State.fenceCmd (s : State) (ws : List Nat) : Option State :=
  if s.streamOpen then none else some (s.setFence (argOf ws 0) (bitsOf (argOf ws 1) 0 8) (bitsOf (argOf ws 1) 8 8))

def execRfenceSet (ch : Fin 3) (s : State) : Host.Outcome State Fault Refusal :=
  .next (s.envelopeCmd 0 ch 0x8001 2 fun s ws => s.fenceCmd ws)

/-- FORCE_LEVEL (R428). -/
def State.forceCmd (s : State) (ws : List Nat) : Option State :=
  let d := bitsOf (argOf ws 0) 0 9
  if 270 ≤ d then none else some (s.forceLevel d (bitsOf (argOf ws 0) 9 2))

def execForceLevel (ch : Fin 3) (s : State) : Host.Outcome State Fault Refusal :=
  .next (s.envelopeCmd 1 ch 0x8020 1 fun s ws => s.forceCmd ws)

/-- THERM_LIMITS (R450). -/
def State.limitsCmd (s : State) (ws : List Nat) : Option State :=
  if s.limitsOk (argOf ws 0) (argOf ws 1) then some (s.setLimits (argOf ws 0) (argOf ws 1)) else none

def execThermLimits (ch : Fin 3) (s : State) : Host.Outcome State Fault Refusal :=
  .next (s.envelopeCmd 1 ch 0x8021 2 fun s ws => s.limitsCmd ws)

/-- SENSOR_MASK (R450). -/
def State.maskCmd (s : State) (ws : List Nat) : Option State :=
  let p := bitsOf (argOf ws 0) 0 8
  let on : Bool := bitOf (argOf ws 0) 8 = 1
  if s.maskOk p on then some (s.thWr Thr.MASK (bit on) p).windows else none

def execSensorMask (ch : Fin 3) (s : State) : Host.Outcome State Fault Refusal :=
  .next (s.envelopeCmd 1 ch 0x8022 1 fun s ws => s.maskCmd ws)

/-- POWER_LIMIT (R450). -/
def State.powerCmd (s : State) (ws : List Nat) : Option State :=
  let w := bitsOf (argOf ws 0) 0 16
  if 100 ≤ w ∧ w ≤ 650 then some (s.pwWr Pwr.P_LIMIT w) else none

def execPowerLimit (ch : Fin 3) (s : State) : Host.Outcome State Fault Refusal :=
  .next (s.envelopeCmd 1 ch 0x8023 1 fun s ws => s.powerCmd ws)

/-- STATE and LINK of entry e before anything was recorded of it (Table 02.5). -/
def freshEntry (e : Nat) : Nat × Nat := (if (27 ≤ e ∧ e ≤ 30) ∨ (typeOf e = 0x30 ∧ (e - 164) % 13 = 12) then St.spare else St.usable, 0xFFFF)

/-- Entries whose STATE and LINK have changed and are not in eFuse. -/
def State.uncommitted (s : State) : List Nat :=
  (List.range 354).filter fun e => s.wb e Wbe.COMMITTED = 0 && (s.blk e, s.wb e Wbe.LINK) ≠ freshEntry e

/-- Entries es with their STATE and LINK go into eFuse, and read COMMITTED (R46, R457). -/
def State.fuse (s : State) (es : List Nat) : State :=
  let fused := es.foldl (fun (m : List (Nat × (Nat × Nat))) e =>
    mset (0, 0xFFFF) m e (s.blk e, s.wb e Wbe.LINK)) s.sec.fused
  let s := s.setSec { s.sec with fused := fused }
  (s.wbUpdate [] fun s => s.each es fun e s => s.setWb e Wbe.COMMITTED 1).wkWr Wk.EFUSE_FREE
    (s.wkRd Wk.EFUSE_FREE - es.length)

/-- SPARE_COMMIT (R457): one record for each repair record and each changed entry not in eFuse yet. -/
def State.commitCmd (s : State) : Option State :=
  let es := s.uncommitted
  let n := (s.repairs.filter fun r => !r.committed).length + es.length
  if s.thRd Thr.FUSE_WIN = 0 ∨ s.wkRd Wk.EFUSE_FREE < n then none
  else
    let done (r : Repair) : Repair := { r with committed := true }
    let s : State := { s with repairs := s.repairs.map done }
    let s := s.fuse es
    some ((s.wkWr Wk.EFUSE_FREE (s.wkRd Wk.EFUSE_FREE - (n - es.length))).logHw Pg.walker 0x28 Sev.info n)

/-- A SPARE_COMMIT for which the store has too few free records is logged (R457). -/
def State.commitShort (s : State) : State :=
  let n := (s.repairs.filter fun r => !r.committed).length + s.uncommitted.length
  if s.thRd Thr.FUSE_WIN = 1 ∧ s.wkRd Wk.EFUSE_FREE < n then s.logHw Pg.walker 0x29 Sev.info n else s

/-- SPARE_COMMIT (R457). -/
def execSpareCommit (ch : Fin 3) (s : State) : Host.Outcome State Fault Refusal :=
  .next (s.envelopeCmd 1 ch 0x8030 0 (fun s _ => s.commitCmd) State.commitShort)

/-- RETIRE (R458): entries that are RETIRED already stay as they are (Table 02.6). The retirement is recorded in eFuse (R46);
while FUSE_WIN is 0 or the store has too few free records it is not, and stays uncommitted, since Table 16.3 gives neither as
a refusal of RETIRE (DESIGN CHOICE, log entry 147). -/
def State.retireCmd (s : State) (ws : List Nat) : Option State :=
  let e := bitsOf (argOf ws 0) 0 16
  if 354 ≤ e ∨ s.blk e = St.retired then none
  else
    let es := (retireSet e).filter fun x => s.blk x ≠ St.retired
    let s := s.retireEntry e 0
    some (s.doIf (s.thRd Thr.FUSE_WIN = 1 && decide (es.length ≤ s.wkRd Wk.EFUSE_FREE)) fun s => s.fuse es)

def execRetire (ch : Fin 3) (s : State) : Host.Outcome State Fault Refusal :=
  .next (s.envelopeCmd 1 ch 0x8031 1 fun s ws => s.retireCmd ws)

/-! ### Protected operations of SCP (Table 16.3) -/

/-- KEY_CHANGED (Table 16.6). -/
def State.keyChanged (s : State) (c slot : Nat) (revoked : Bool) : State :=
  (s.irq (Pg.mailbox 2) 20).log (Pg.mailbox 2) 0x24 Sev.info (chanAgent c) (slot + bit revoked * 2 ^ 3)

/-- KEY_LOAD (R489): the new key is wrapped under the envelope's key. -/
def State.keyLoadCmd (s : State) (c : Nat) (ws : List Nat) : Option State :=
  let w := argOf ws 0
  let slot := bitsOf w 0 3
  let persist : Bool := bitOf w 8 = 1
  let fused : Bool := slot ≤ 3
  if slot = 0 || persist != fused || (fused && s.scRd Scp.VALID slot = 1) || (persist && s.thRd Thr.FUSE_WIN = 0)
      || s.streamOpen then none
  else
    let kek := s.keyBytes (bitsOf (ws.getD 1 0) 0 3)
    (keyUnwrap kek (((ws.drop 6).take 10).flatMap leBytes)).map fun key =>
      let s := { s with keys := mset 0 s.keys slot (beNat key) }
      ((s.scWr Scp.USE (bitsOf w 4 3) slot).scWr Scp.VALID 1 slot).keyChanged c slot false

def execKeyLoad (ch : Fin 3) (s : State) : Host.Outcome State Fault Refusal :=
  .next (s.envelopeCmd 2 ch 0x8040 11 fun s ws => s.keyLoadCmd ch ws)

/-- KEY_REVOKE (R489). -/
def State.keyRevokeCmd (s : State) (c : Nat) (ws : List Nat) : Option State :=
  let slot := bitsOf (argOf ws 0) 0 3
  if slot ≤ 3 || s.streamOpen then none
  else
    let s := { s with keys := mset 0 s.keys slot 0 }
    some (((s.scWr Scp.USE 0 slot).scWr Scp.VALID 0 slot).keyChanged c slot true)

def execKeyRevoke (ch : Fin 3) (s : State) : Host.Outcome State Fault Refusal :=
  .next (s.envelopeCmd 2 ch 0x8041 1 fun s ws => s.keyRevokeCmd ch ws)

/-- Bytes 0 to n − 1 of the patch buffer (R490). -/
def State.patchBytes (s : State) (n : Nat) : List Nat :=
  ((List.range (ceilDiv n 4)).flatMap fun k => leBytes (mget 0 s.sec.patchBuf k)).take n

/-- PATCH (R490): the hash holds, the patch is copied into the processor's store, and the processor restarts; SCP itself
once it has sent its response. -/
def State.patchCmd (s : State) (c : Nat) (ws : List Nat) : Option State :=
  let p := bitsOf (argOf ws 0) 0 2
  let n := argOf ws 1
  let hash := sha256 (s.patchBytes n)
  if n < 4 || 32768 < n || hash ≠ ((ws.drop 7).take 8).flatMap leBytes then none
  else
    let words := ceilDiv n 4
    let store := (List.range words).foldl (fun m k => mset 0 m (8192 * p + k) (mget 0 s.sec.patchBuf k))
      (mclear s.sec.patches (8192 * p) 8192)
    let s := s.setSec { s.sec with patches := store, patchLen := mset 0 s.sec.patchLen p n,
                                   patchHash := mset 0 s.sec.patchHash p (beNat hash) }
    let s := s.log (Pg.mailbox 2) 0x25 Sev.info (chanAgent c) (p + words * 2 ^ 2)
    some (if p = 2 then s.setSec { s.sec with restartAfter := some c } else s.procRestart p)

def execPatch (ch : Fin 3) (s : State) : Host.Outcome State Fault Refusal :=
  .next (s.envelopeCmd 2 ch 0x8042 10 fun s ws => s.patchCmd ch ws)

/-- EFUSE_POLICY (R491): bits that are blown stay blown. -/
def State.policyCmd (s : State) (c : Nat) (ws : List Nat) : Option State :=
  let bits := bitsOf (argOf ws 0) 0 4
  if s.thRd Thr.FUSE_WIN = 0 then none
  else some ((s.scWr Scp.POLICY (s.scRd Scp.POLICY ||| bits)).log (Pg.mailbox 2) 0x27 Sev.info (chanAgent c) bits)

def execEfusePolicy (ch : Fin 3) (s : State) : Host.Outcome State Fault Refusal :=
  .next (s.envelopeCmd 2 ch 0x8043 1 fun s ws => s.policyCmd ch ws)

/-- DEBUG_UNLOCK (R495). -/
def State.unlockCmd (s : State) (c : Nat) : Option State :=
  if bitOf (s.scRd Scp.POLICY) 2 = 1 || c = 2 then none else some (s.setDebug c true)

def execDebugUnlock (ch : Fin 3) (s : State) : Host.Outcome State Fault Refusal :=
  .next (s.envelopeCmd 2 ch 0x8044 0 fun s _ => s.unlockCmd ch)

end Sys2Proof.Machine
end

