-- ==== Sys2Proof/Machine/Power.lean ====
section
/-! DEFINITION. Machine/Power.lean: the entry and wake sequences and what each block does in them (§14.2), and the voters
that leave (R427). -/

namespace Sys2Proof.Machine

/-! ### Going down (R430) -/

/-- The isolation clamps of domain d are set (E2): what each block then shows (R148, R341, R353, R400, R408). -/
def State.clampsSet (s : State) (d : Nat) : State :=
  if d < 40 then s.wr (Pg.region d) Hdr.READY 0
  else if d < 80 then
    let lo := bmPortKey (d - 40) 0 0 0
    { s with bmOut := mclear s.bmOut lo 2048, bmNext := mclear s.bmNext lo 2048, rbOut := mclear s.rbOut (d - 40) 1 }
  else if 236 ≤ d ∧ d < 248 then s.txLook (d - 236)
  else if 248 ≤ d ∧ d < 260 then s.rxLook (d - 248)
  else if 260 ≤ d ∧ d < 268 then s.wr (Pg.ddr (d - 260)) Ddr.SELF_REFRESH 1
  else s

/-- A region at OFF: its latches, flip-flops and restore latches are lost, its packer's queue without a count (R279). -/
def State.regionOff (s : State) (i : Nat) : State :=
  let g := s.rg i
  let s := s.clearRegion i
  let s := { s with portIn := mclear s.portIn (320 * i) 320, portOut := mclear s.portOut (320 * i) 320 }
  let s := { s with latch := mclear s.latch (latchKey (1 - g.active) i 0 0 0) slotCount
                    restore := mclear s.restore (ffKey i 0 0) clusterCount }
  (s.setRg i { pendLayer := g.pendLayer }).setPk i {}

/-- A slab at OFF: every array is lost; they read 0 once it has woken (R341). -/
def State.slabOff (s : State) (i : Nat) : State :=
  let fi := Fin.ofNat 40 i
  let s := { s with rb := mclear s.rb (rbKey i 0) (2 ^ 23), bm := mclear s.bm (bmKey i 0 0) (1024 * 4096)
                    sbank := mclear s.sbank (sbKey i 0 0 0 0) (9 * 64 * 320 * 2) }
  ((s.setHot (.regionBuffer fi) []).setHome (homeKey (.slab fi)) {})

/-- A configuration plane at OFF: its copy is lost and its region's contexts become INVALID with cause 4 (R167). -/
def State.planeOff (s : State) (i : Nat) : State :=
  let s := s.each (List.range 8) fun c s => s.ctxLost i c
  let s := { s with cfg := mclear s.cfg (cfgKey i 0 0 0 0) (8 * slotCount) }
  s.setWk { s.wk with tiles := mclear s.wk.tiles (tileKey i 0 0) (10 * 2 ^ 19) }

/-- The claims on the resources of domain d end (R58): an engine's FIFOs, a receive group's offset samplers. -/
def State.domainReleases (s : State) (d : Nat) : State :=
  let mine : List Nat :=
    if 120 ≤ d ∧ d < 224 then (List.range 4).map fun f => Reg.fifo (4 * (d - 120) + f)
    else if 248 ≤ d ∧ d < 260 then (List.range 9).map fun l => Reg.sampler (9 * (d - 248) + l)
    else []
  s.each (mine.filter fun idx => s.claimed idx) fun idx s => s.releaseResource idx

/-- The PCIe link is lost (R427, R511, R59): nothing happens while it is down. -/
def State.linkLost (s : State) : State :=
  let speed := s.peRd Pcie.LINK_SPEED
  if speed = 0 then s
  else
    let s := (s.peWr Pcie.LINK_SPEED 0).peWr Pcie.LINK_WIDTH 0
    let s := (s.irq Pg.pcie 17).logHw Pg.pcie 0x20 Sev.degraded speed
    (s.ringsLost.releaseAgent Ag.host).vdpLook

/-- DDR4 channel c has reached OFF: its memory, its training and what it holds are lost (R353). -/
def State.ddrOff (s : State) (c : Nat) : State :=
  let fc := Fin.ofNat 8 c
  let s := { s with ddr := mclear s.ddr (ddrKey c 0) (2 ^ 34) }
  (((s.wr (Pg.ddr c) Ddr.TRAINED 0).setCh c {}).setHot (.ddr fc) []).setHome (homeKey (.ddr fc)) {}

/-- Domain d has reached OFF: its contents are lost (Table 14.2). -/
def State.wentOff (s : State) (d : Nat) : State :=
  let s := s.domainReleases d
  if d < 40 then s.regionOff d
  else if d < 80 then s.slabOff (d - 40)
  else if d < 120 then s.planeOff (d - 80)
  else if d < 224 then
    let t := d - 120
    let s := { s with dm := mclear s.dm (dmKey t 0 0) 65536, im := mclear s.im (imKey t 0) 2048 }
    s.setTe t { moving := (s.te t).moving, intact := (s.te t).intact }
  else if d < 236 then s.shOff (d - 224)
  else if d < 248 then s.setTxg (d - 236) {}
  else if d < 260 then s.setRxg (d - 248) {}
  else if d < 268 then
    s.ddrOff (d - 260)
  else if d = 268 then s.linkLost.setUsr { s.usr with reqs := [], done := none }
  else s.setMesh { homes := s.mesh.homes }

/-- The entry sequence of domain d is over. -/
def State.entryDone (s : State) (d : Nat) : State :=
  let m := s.dom d
  let s := s.setDom d { m with level := m.goal, entry := 0, failing := false }
  (s.doIf (m.goal = 0) fun s => s.wentOff d).follow d

/-- ENTRY_STEP_READY (R430): E1 ends with the close of the gate (R122). -/
def execEntryStepReady (d : Fin 270) (s : State) : Host.Outcome State Fault Refusal :=
  .next (
    let m := s.dom d
    match m.entry with
    | 0 => s
    | 1 => s.closeGate (entryOfDomain d)
    | 2 => (s.setDom d { m with entry := 3 }).clampsSet d
    | 3 => s.setDom d { m with entry := 4 }
    | _ => s.entryDone d)

/-! ### Coming up (R431) -/

/-- Fields of domain d's pages that a wake from OFF does not take back to their cold-start value: those eFuse or self-test
give (R8), and on a region's page those that describe the contexts layer C keeps and name
the one to stage (R187; log entry 54). -/
def keptFields (d : Nat) : List (Nat × Row × Nat) :=
  if d < 40 then
    let pg := Pg.region d
    [(pg, Rgn.MAP0, 0), (pg, Rgn.MAP1, 0), (pg, Rgn.REMAP_PEND, 0), (pg, Rgn.PEND_COL, 0), (pg, Rgn.CW_DEAD_CNT, 0),
      (pg, Rgn.LIVE_CTX, 0)] ++
      (List.range 8).flatMap (fun c => [Rgn.CSTATE, Rgn.RESTORE, Rgn.INV_CAUSE, Rgn.GEN, Rgn.VALID_TURN].map fun r => (pg, r, c))
  else if d < 80 then [Slab.RB_SPARES, Slab.BM_SPARES, Slab.SB_SPARES].map fun r => (Pg.slab (d - 40), r, 0)
  else if 120 ≤ d ∧ d < 224 then [Te.DM_SPARES, Te.IM_SPARES].map fun r => (Pg.engine (d - 120), r, 0)
  else if 224 ≤ d ∧ d < 236 then [(Pg.shallot (d - 224), Shl.SPARES_FREE, 0)]
  else if 260 ≤ d ∧ d < 268 then [(Pg.ddr (d - 260), Ddr.SPARE_FREE, 0)]
  else if d = 269 then [Net.SPARES_FREE, Net.DEAD_WIRES].map fun r => (Pg.network, r, 0)
  else []

/-- The pages of domain d after a wake from OFF (R8); LOCK is closed (R53). -/
def State.pagesReset (s : State) (d : Nat) : State :=
  let kept := (keptFields d).map fun f => (f, s.rd f.1 f.2.1 f.2.2)
  let s := s.each (entriesOfDomain d) fun e s => (s.resetPage (pageOf e)).wr (pageOf e) Hdr.LOCK_OPEN 0
  (s.each kept fun f s => s.wr f.1.1 f.1.2.1 f.2 f.1.2.2).doIf (236 ≤ d && d < 248) fun s => s.parkReset (d - 236)

/-- CLK_OK (R431): the tree's PLL reads READY when it is enabled and its reference runs. -/
def State.clkOk (s : State) (d : Nat) : Bool :=
  match (treeOf (entryOfDomain d)).bind s.treePll with
  | none => true
  | some p => !(s.flag (Pg.pll p) Hdr.EN && s.flag (Pg.pll p) Pll.REF_OK) || s.pllReady p

/-- The logic step of a region that wakes from OFF (R187): its context goes live with its flip-flops at INIT, or the wake
stops there. -/
def State.regionLogic (s : State) (i : Nat) : State :=
  let c := s.liveCtx i
  if s.ctxValid i c then s.wakeRegion i c
  else (s.wr (Pg.region i) Hdr.READY 0).logHw (Pg.region i) 0x32 Sev.degraded (c + s.rgRd i Rgn.INV_CAUSE c * 2 ^ 3)

/-- The clamps are released and the owner's logic step runs (W4). -/
def State.logicStep (s : State) (d : Nat) (fromOff : Bool) : State :=
  if d < 40 then if fromOff then s.regionLogic d else s.wr (Pg.region d) Hdr.READY 1
  else if 120 ≤ d ∧ d < 224 then s.doIf fromOff fun s => s.teWipe (d - 120)
  else if 260 ≤ d ∧ d < 268 then
    ((s.wr (Pg.ddr (d - 260)) Ddr.SELF_REFRESH 0).setDebt (d - 260) 0 0).setDebt (d - 260) 1 0
  else s

/-- The plane that a waking region stages from has come up. -/
def State.planeReady (s : State) (d : Nat) (fromOff : Bool) : Bool :=
  !(d < 40 && fromOff && s.ctxValid d (s.liveCtx d)) || s.isOn (En.plane d)

/-- The wake of domain d has completed (R431). -/
def State.wakeDone (s : State) (d : Nat) : State :=
  let m := s.dom d
  let level := if m.goal ≤ 1 then 3 else m.goal
  let s := (s.logicStep d m.fromOff).setDom d { m with wake := 0, level := level }
  let s := (s.gateTo (entryOfDomain d) level).doIf (248 ≤ d && d < 260) fun s => s.rxLook (d - 248)
  ((s.count Pg.power Pwr.CNT_WAKE).irq Pg.power 16).follow d

/-- WAKE_STEP_READY (R431, Table 14.4): the ready signal of the running step is seen. -/
def execWakeStepReady (d : Fin 270) (s : State) : Host.Outcome State Fault Refusal :=
  .next (
    let m := s.dom d
    let slab : Bool := 40 ≤ d.val && d.val < 80 && m.fromOff
    match m.wake with
    | 0 => s
    | 1 => (s.doIf m.fromOff fun s => s.pagesReset d).setDom d { m with wake := 2 }
    | 2 =>
      if s.clkOk d then
        (s.doIf slab fun s => s.wr (Pg.slab (d.val - 40)) Slab.INIT_BUSY 1).setDom d { m with wake := 3 }
      else s
    | 3 => (s.doIf slab fun s => s.wr (Pg.slab (d.val - 40)) Slab.INIT_BUSY 0).setDom d { m with wake := 4 }
    | _ => if s.planeReady d m.fromOff then s.wakeDone d else s)

/-- A wake fails (R432): the entry sequence to OFF runs, and an engine counts as failed (R257). -/
def State.wakeFails (s : State) (d : Nat) : State :=
  let m := s.dom d
  let e := entryOfDomain d
  let s := s.setDom d { m with wake := 0, entry := 1, goal := 0, failing := true, failed := true }
  let s := s.setGate e { s.gate e with closing := true, toLevel := 0 }
  let s := ((s.pwWr Pwr.WAKE_FAIL 1 d).pwWr Pwr.LAST_FAIL_DOM d).pwWr Pwr.LAST_FAIL_STEP m.wake
  let s := ((s.count Pg.power Pwr.CNT_WAKE_FAIL).irq Pg.power 17).logHw Pg.power 0x20 Sev.degraded (d + m.wake * 2 ^ 9)
  let s := s.doIf (120 ≤ d && d < 224) fun s => s.teFail (d - 120)
  if d < 40 then s.hlpVotes d else s

/-- WAKE_FAIL (R432): the ready signal was not seen within 4 × its limit. -/
def execWakeFail (d : Fin 270) (s : State) : Host.Outcome State Fault Refusal :=
  .next (if (s.dom d).wake = 0 then s else s.wakeFails d)

/-! ### Voters that leave (R427) -/

/-- PCIE_LINK_DOWN (R427, R511). -/
def execPcieLinkDown (s : State) : Host.Outcome State Fault Refusal := .next s.linkLost

/-- PCIE_LINK_UP (R508): the link trains once the PCIe PLL is READY and PERST_N is high. -/
def execPcieLinkUp (speed : BitVec 4) (width : BitVec 5) (s : State) : Host.Outcome State Fault Refusal :=
  .next (
    if s.peRd Pcie.LINK_SPEED ≠ 0 || speed.toNat = 0 || 5 < speed.toNat || 16 < width.toNat || s.usr.perst ||
        !s.pllReady 2 || !s.isOn En.pcie then s
    else
      let first := s.usr.perstSince
      let s := (s.peWr Pcie.LINK_SPEED speed.toNat).peWr Pcie.LINK_WIDTH width.toNat
      ((s.setUsr { s.usr with perstSince := false }).irq Pg.pcie 16).vdpLook first)

/-- DEBUG_DETACH (R427, R59). -/
def execDebugDetach (s : State) : Host.Outcome State Fault Refusal := .next s.debugGone

end Sys2Proof.Machine
end

