-- ==== Sys2Proof/Machine/Startup.lean ====
section
/-! DEFINITION. Machine/Startup.lean: cold start, the phases of Table 07.8 up to the start (R46, R99, R105, R190, R218, R468),
PERST_N (R504) and live removal (R513, R514). -/

namespace Sys2Proof.Machine

/-! ### Cold start -/

/-- SCP at cold start (R483): the nonce is two words from its TRNG, or TRNG_FAIL. -/
def State.scpStart (s : State) (trngOk : Bool) : State :=
  let pg := Pg.mailbox 2
  if trngOk then
    let (lo, s) := s.draw
    let (hi, s) := s.draw
    (((s.scWr Scp.NONCE_LO lo).scWr Scp.NONCE_HI hi).scWr Scp.CTR_LAST 0).scWr Scp.SCP_STATE 1
  else ((s.scWr Scp.SCP_STATE 2).irq pg 19).log pg 0x23 Sev.fatal Ag.scp 0

/-- COLD_START_RELEASE (R502): the straps are sampled (R190), the start delay begins (R105) and SCP starts. -/
def execColdStartRelease (cfgMode : BitVec 3) (devId : BitVec 6) (loadState : Bool) (csd : BitVec 4) (trngOk : Bool)
    (s : State) : Host.Outcome State Fault Refusal :=
  .next (
    if s.ldRd Ld.PHASE ≠ 0 then s
    else
      let s := { s with cycles := 0, usr := { s.usr with perst := false } }
      let s := (s.wr 0 Wbh.CFG_MODE cfgMode.toNat).wr 0 Wbh.DEV_ID devId.toNat
      let s := ((s.wr 0 Wbh.LOADSTATE (bit loadState)).wr 0 Wbh.CSD csd.toNat).ldWr Ld.PHASE 1
      let s := if 3 ≤ cfgMode.toNat then s.logHw Pg.loader 0x28 Sev.info cfgMode.toNat else s
      s.scpStart trngOk)

/-- What eFuse carries over a cold start: the policy and key slots 1 to 3 (R482, R491), and the repair store with its count
of free records (R457). -/
def State.carryFuses (s old : State) : State :=
  let s := (s.scWr Scp.POLICY (old.scRd Scp.POLICY)).wkWr Wk.EFUSE_FREE (old.wkRd Wk.EFUSE_FREE)
  let s := s.each [1, 2, 3] fun k s =>
    ({ s with keys := mset 0 s.keys k (mget 0 old.keys k) }.scWr Scp.USE (old.scRd Scp.USE k) k).scWr Scp.VALID
      (old.scRd Scp.VALID k) k
  { s with repairs := old.repairs.filter fun r => r.committed
           sec := { s.sec with fused := old.sec.fused } }

/-- BROWN_OUT (R503): phase RESET and a cold start; every memory is lost. What is outside the device stays: TMG_CK, PERST_N,
QUIESCE_N and host memory. -/
def execBrownOut (s : State) : Host.Outcome State Fault Refusal :=
  .next (
    let r := State.reset
    let r := { r with pending := s.pending, fresh := s.fresh, tp := { r.tp with ck := s.tp.ck } }
    let r := { r with usr := { r.usr with hostMem := s.usr.hostMem, quiet := s.usr.quiet, perst := s.usr.perst } }
    r.carryFuses s)

/-- START_DELAY_END (R105): the management and PCIe PLLs begin to lock, and the timing port may leave NO_CLOCK. -/
def execStartDelayEnd (s : State) : Host.Outcome State Fault Refusal :=
  .next (
    if s.ldRd Ld.PHASE ≠ 1 then s
    else
      let s := { s with ck := { s.ck with delayOver := true } }.ldWr Ld.PHASE 2
      let s := s.each (List.range 20) fun p s => s.pllLook p
      s.doIf (s.tp.ck && s.tpState = 0) fun s => s.tpWr Tp.STATE 1)

/-- PLL_READY (R109): it also ends phase PLL (R105), and lets the deferred SRC writes apply (R198). -/
def execPllReady (p : Fin 20) (s : State) : Host.Outcome State Fault Refusal :=
  .next (
    let s := (s.pllReadyNow p).applySrc
    if s.ldRd Ld.PHASE = 2 ∧ s.pllReady 1 ∧ s.pllReady 2 then
      (s.ldWr Ld.PHASE 3).each (List.range 40) fun i s => s.hlpVotes i
    else s)

/-! ### The Waybook at cold start (R46) -/

/-- Stores whose rows entry e records. -/
def storesOf (e : Nat) : List Store :=
  let k := instOf e
  match typeOf e with
  | 0x21 => [.regionBuffer (Fin.ofNat 40 k), .blockMem (Fin.ofNat 40 k), .stateBank (Fin.ofNat 40 k)]
  | 0x30 => [.engineData (Fin.ofNat 104 k), .engineInstr (Fin.ofNat 104 k)]
  | 0x42 => [.ddr (Fin.ofNat 8 k)]
  | _ => []

/-- The fields that follow from one committed repair record. -/
def State.fusedRepair (s : State) (r : Repair) : State :=
  let s := s.countRepair r.entry
  let k := instOf r.entry
  let less (s : State) (pg : Nat) (f : Row) : State := if r.spare ≠ 0xFFFF then s.wr pg f (s.rd pg f - 1) else s
  match r.kind with
  | 1 =>
    let col := r.place % 128
    let m0 := s.rgRd k Rgn.MAP0
    let both (s : State) (f : Row) (v : Nat) : State := (s.rgWr k f v).rgWr (k + 20) f v
    if r.dead then if col = 64 ∧ m0 = 0x7F then both s Rgn.MAP0 64 else s
    else both (both s Rgn.MAP0 (min col m0)) Rgn.MAP1 (if m0 = 0x7F then 0x7F else max col m0)
  | 3 => s.each [k, k + 20] fun i s => s.rgWr i Rgn.CW_DEAD_CNT (s.rgRd i Rgn.CW_DEAD_CNT + 1)
  | 5 => if bitOf r.place 18 = 0 then less s (Pg.shallot k) Shl.SPARES_FREE else s
  | 6 => (less s Pg.network Net.SPARES_FREE).doIf r.dead fun s => s.count Pg.network Net.DEAD_WIRES
  | 7 =>
    let p := r.place % 16
    if bitOf r.place 4 = 0 then s.rxWr k Rx.FAIL_MASK (s.rxRd k Rx.FAIL_MASK ||| 2 ^ p)
    else s.parkReset k
  | _ => s.each (storesOf r.entry) fun st s => s.showSpares st

/-- HLP enters what the eFuse repair store holds. -/
def State.fusedWaybook (s : State) : State :=
  let s := s.each s.repairs fun r s => s.fusedRepair r
  let s := s.doIf (!s.sec.fused.isEmpty) fun s => s.wbUpdate [] fun s => s.each s.sec.fused fun f s =>
    ((s.setWb f.1 Wbe.STATE f.2.1).setWb f.1 Wbe.LINK f.2.2).setWb f.1 Wbe.COMMITTED 1
  s.each ((List.range 270).filter fun d => s.allRetired d) fun d s => s.follow d

/-- A fault of a part of a unit that self-test finds: its spare comes in before the unit runs. -/
def State.startupFault (s : State) (f : StartupFault) : State :=
  match f with
  | .column pair layer col =>
    let used : Bool := col < 64 || decide ((col = 64 ∧ s.rgRd pair Rgn.MAP0 ≠ 0x7F) ∨ (col = 65 ∧ s.rgRd pair Rgn.MAP1 ≠ 0x7F))
    if !used then s.sliceFailed 0 (En.region pair) (col + layer * 2 ^ 7)
    else if s.columnsFree pair ≠ 0 then (s.remapStart ⟨pair, col, layer, false, 0⟩).applyMap pair
    else
      let s := s.addRepair ⟨En.region pair, 1, false, true, 0xFFFF, col + layer * 2 ^ 7⟩
      (s.degrade (En.region pair) 0x21).degrade (En.region (pair + 20)) 0x21
  | .via pair layer group x r signal => (s.viaFail pair layer group x r signal).applyMap pair
  | .row store row => (s.moveRow store row).rowSpared store row
  | .pattern k n => s.patternStuck k 0 n.toNat
  | .wire link wire => s.wireFail link.toNat wire.toNat
  | .txLane g lane => s.txLaneFail g lane
  | .rxLane g lane => s.rxLaneFail g lane
  | .point p => s.broken p false

/-- The engine that the spare of engine t's row stands in for, if any. -/
def State.rowShift (s : State) (t : Nat) : Option Nat :=
  let q := En.engine (13 * (t / 13) + 12)
  let l := s.wb q Wbe.LINK
  if s.blk q ≠ St.retired ∧ En.engine (13 * (t / 13)) ≤ l ∧ l < q then some (l - 164) else none

/-- The logical engine that engine t hosts at cold start: its own, or that of the engine before it behind a shift. -/
def State.startLogical (s : State) (t : Nat) : Nat :=
  if !s.usable (En.engine t) then 0xFFFF
  else match s.rowShift t with
    | some p => 12 * (t / 13) + t % 13 - bit (p < t)
    | none => if t % 13 = 12 then 0xFFFF else 12 * (t / 13) + t % 13

/-- HLP shifts engine row k to its spare when an engine of it is RETIRED, and every engine of a shifted row starts as after
a wake from OFF (R46, R258). -/
def State.rowStart (s : State) (k : Nat) : State :=
  let row := (List.range 13).map (13 * k + ·)
  let q := En.engine (13 * k + 12)
  let s :=
    match row.find? fun t => s.blk (En.engine t) = St.retired with
    | some p =>
      if s.blk q = St.spare then
        (s.wbUpdate [⟨q, St.inUse, En.engine p, 0x27⟩] fun s => s.setWb (En.engine p) Wbe.LINK q).irq Pg.walker 23
      else s
    | none => s
  let s := s.each row fun t s => s.setLogical t (s.startLogical t)
  let shifted := row.any fun t => (s.rowShift t).isSome
  s.each (row.filter fun t => shifted && s.usable (En.engine t)) fun t s => s.teWipe t

/-- Spare PLL q takes the settings of PLL p, and takes its trees once it has locked (R114). -/
def State.pllStandIn (s : State) (p q : Nat) : State :=
  let s := (s.wr (Pg.pll q) Pll.MIRROR p).wr (Pg.pll q) Pll.REF_SEL (s.rd (Pg.pll p) Pll.REF_SEL)
  let s := (s.wr (Pg.pll q) Pll.MULT (s.rd (Pg.pll p) Pll.MULT)).wr (Pg.pll q) Hdr.EN 1
  { s with ck := { s.ck with retargeted := s.ck.retargeted ++ [(q, p)] } }.pllLook q

/-- A RETIRED PLL has its spare configured, or gets one (R46). -/
def State.pllStart (s : State) (p : Nat) : State :=
  if s.blk (En.pll p) ≠ St.retired then s
  else
    let l := s.wb (En.pll p) Wbe.LINK
    let spares := (List.range 4).map (16 + ·)
    let free := (spares.find? fun q => s.spareFree q && s.rd (Pg.pll q) Pll.MIRROR = p).or (spares.find? fun q => s.spareFree q)
    match spares.find? fun q => l = En.pll q && s.usable (En.pll q), free with
    | some q, _ => s.pllStandIn p q
    | none, some q =>
      let s := (s.wbUpdate [⟨En.pll q, St.inUse, En.pll p, 0x21⟩] fun s => s.setWb (En.pll p) Wbe.LINK (En.pll q)).irq
        Pg.walker 23
      s.pllStandIn p q
    | none, none => s

/-- HLP builds the Waybook from the eFuse repair store and from self-test (R46). -/
def State.buildWaybook (s : State) (failed : List (Fin 354)) (faults : List StartupFault) : State :=
  let s := s.each faults fun f s => s.startupFault f
  let gone := (List.range 354).filter fun e => failed.any (fun f => (retireSet f).contains e) && s.blk e != St.retired
  let s := s.doIf (!gone.isEmpty) fun s => s.wbRetire (gone.map fun e => ⟨e, St.retired, 0xFFFF, 0x26⟩)
  (s.each (List.range 8) fun k s => s.rowStart k).each (List.range 16) fun p s => s.pllStart p

/-- The build of the Waybook is no update of one (log entry 53): GEN, the log, and the interrupts and counts of the pages
stay as they were in `old`. -/
def State.unnoticed (s old : State) : State :=
  let keep (m : List (Nat × Nat)) (pg : Nat) : List (Nat × Nat) :=
    let at_ (r : Row) := fieldKey pg { r with lo := 0 } 0
    mcopy old.regs (mcopy old.regs m (at_ (irqBit 0)) (at_ (irqBit 0)) 32) (at_ Hdr.COUNT) (at_ Hdr.COUNT) 32
  let pages := Pg.log :: Pg.walker :: (List.range 354).map pageOf
  { s with regs := pages.foldl keep s.regs, logQ := old.logQ, lastLogs := old.lastLogs }.wr 0 Wbh.GEN (old.rd 0 Wbh.GEN)

/-- Phase SELFTEST is over: phase LOAD begins, unless QUIESCE_N is low (R513). -/
def State.toLoad (s : State) : State :=
  if s.usr.quiet then s.setUsr { s.usr with held := true } else (s.ldWr Ld.PHASE 4).ldWr Ld.READY 1

/-- SELFTEST_END (R468): entries that failed as a whole, and faults of parts. -/
def execSelftestEnd (failed : List (Fin 354)) (faults : List StartupFault) (s : State) : Host.Outcome State Fault Refusal :=
  .next (
    if s.ldRd Ld.PHASE ≠ 3 || s.usr.held then s
    else
      let s := (s.fusedWaybook.buildWaybook failed faults).unnoticed s
      let s := if (List.range 40).any fun i => s.usable (En.region i) then s else s.ldWr Ld.CFG_ERR 1
      s.toLoad)

/-! ### The start (R99, R101) -/

/-- Insert a write by address, before those of the same address that came later. -/
def insertWrite (w : Nat × Nat) : List (Nat × Nat) → List (Nat × Nat)
  | [] => [w]
  | v :: vs => if w.1 ≤ v.1 then w :: v :: vs else v :: insertWrite w vs

/-- Deferred milestone arms and profile requests apply at the start turn boundary, in ascending address order (R198). -/
def State.lateWrites (s : State) : State :=
  let s := s.each (s.ld.late.foldr insertWrite []) fun w s => s.pageWrite Ag.cfp w.1 4 w.2 true
  let s := s.each s.ld.profiles fun p s => s.profileTake p.1
  s.setLd { s.ld with late := [], profiles := [] }

/-- START (R99): the first turn boundary after a sample that read high. -/
def execStart (s : State) : Host.Outcome State Fault Refusal :=
  .next (
    if !s.tp.sampled.any (· < s.time64) || !s.timed || s.bucket ≠ 0 || s.tp.started || s.flag Pg.pcie Pcie.QUIESCED then s
    else
      let s := (s.setTp { s.tp with started := true, startAt := s.time64 }).tpWr Tp.START_TURN s.turn
      let s := (s.irq Pg.timing 23).logHw Pg.timing 0x26 Sev.info s.turn
      let s := s.doIf s.tp.relocked fun s => (s.tpWr Tp.START_LATE 1).logHw Pg.timing 0x27 Sev.degraded s.turn
      let s := s.handover.lateWrites
      s.ldWr Ld.PHASE 7)

/-- GLOBAL_RESET_RELEASE (R99, R214): one bucket after the start turn boundary; that is bucket 1, unless a turn has one
bucket alone (R79). -/
def execGlobalResetRelease (s : State) : Host.Outcome State Fault Refusal :=
  .next (
    if !s.tp.globalReset || !s.tp.started || !s.timed || decide (s.time64 ≤ s.tp.startAt) || s.flag Pg.pcie Pcie.QUIESCED then s
    else (s.setTp { s.tp with globalReset := false }).vdpLook)

/-! ### PERST_N (R504) -/

/-- PERST_FALL (R504): the endpoint, the switch and the port shells reset; every other unit runs on. -/
def execPerstFall (s : State) : Host.Outcome State Fault Refusal :=
  .next (
    if s.ldRd Ld.PHASE = 0 || s.usr.perst then s
    else
      let s := ((s.peWr Pcie.PERST_SEEN 1).irq Pg.pcie 18).logHw Pg.pcie 0x21 Sev.info 0
      let s := s.linkLost
      s.setUsr { s.usr with perst := true, perstSince := true, reqs := [], done := none, msix := [] })

/-- PERST_RISE (R504): the link may train again. -/
def execPerstRise (s : State) : Host.Outcome State Fault Refusal := .next (s.setUsr { s.usr with perst := false })

/-! ### Live removal (R513, R514) -/

/-- QUIESCE (R513): QUIESCE_N has been low for 1 µs. Before cold-start release only the pin is noted. -/
def execQuiesce (s : State) : Host.Outcome State Fault Refusal :=
  .next (
    let s := s.setUsr { s.usr with quiet := true }
    if s.ldRd Ld.PHASE = 0 || s.flag Pg.pcie Pcie.QUIESCED then s
    else
      s.simultaneous fun s =>
        let s := (s.peWr Pcie.QUIESCED 1).irq Pg.pcie 19
        let s := (s.logHw Pg.pcie 0x22 Sev.degraded 0).cancelStream Abort.host
        (s.each (List.range 12) fun g s => s.txLook g).vdpLook)

/-- QUIESCE_N has risen with QUIESCED held (R514): self-refresh ends, the device is unconfigured, and a start-up that waited
goes on to phase LOAD. -/
def State.quiesceLeave (s : State) : State :=
  let s := s.each ((List.range 8).filter fun c => s.isOn (En.ddr c)) fun c s => s.wr (Pg.ddr c) Ddr.SELF_REFRESH 0
  let s := if s.usr.held || 4 ≤ s.ldRd Ld.PHASE then s.unconfigure.ldWr Ld.READY 1 else s
  let s := s.setUsr { s.usr with held := false, quiet := false, rose := false }
  let s := (s.peWr Pcie.QUIESCED 0).peWr Pcie.QUIESCE_DONE 0
  s.logHw Pg.pcie 0x22 Sev.degraded 1

/-- QUIESCE_DONE (R513): DDR4 is in self-refresh, global reset is asserted and CFG_DONE and CFG_ERR_N are released. -/
def execQuiesceDone (s : State) : Host.Outcome State Fault Refusal :=
  .next (
    if !s.flag Pg.pcie Pcie.QUIESCED || s.flag Pg.pcie Pcie.QUIESCE_DONE then s
    else
      let s := s.each ((List.range 8).filter fun c => s.isOn (En.ddr c)) fun c s => s.wr (Pg.ddr c) Ddr.SELF_REFRESH 1
      let s := s.setTp { s.tp with globalReset := true, released := true }
      let s := s.each (List.range 40) fun i s => s.resetFfs i
      let s := (s.ldWr Ld.CFG_ERR 0).peWr Pcie.QUIESCE_DONE 1
      if s.usr.rose then s.quiesceLeave else s)

/-- QUIESCE_RELEASE (R514): QUIESCE_N rises; a sequence that runs completes first. -/
def execQuiesceRelease (s : State) : Host.Outcome State Fault Refusal :=
  .next (
    if !s.flag Pg.pcie Pcie.QUIESCED then
      let s := s.doIf s.usr.held fun s => (s.ldWr Ld.PHASE 4).ldWr Ld.READY 1
      s.setUsr { s.usr with quiet := false, held := false }
    else if s.flag Pg.pcie Pcie.QUIESCE_DONE then s.quiesceLeave
    else s.setUsr { s.usr with rose := true })

end Sys2Proof.Machine
end

