-- ==== Sys2Proof/Machine/Dispatch.lean ====
section
/-! DEFINITION. Machine/Dispatch.lean: one arm per command, each a call of its meaning. -/

namespace Sys2Proof.Machine

/-- The effect of a command on everything but the queue. -/
def exec (i : Instr) (s : State) : Host.Outcome State Fault Refusal :=
  match i with
  -- pages, the Waybook and mailboxes
  | .registerWrite ag addr size v => Sys2Proof.Machine.execRegisterWrite ag addr size v s
  | .rcRead ag addr => Sys2Proof.Machine.execRcRead ag addr s
  | .lowWordRead ag addr => Sys2Proof.Machine.execLowWordRead ag addr s
  | .irqStatWrite ag page v => Sys2Proof.Machine.execIrqStatWrite ag page v s
  | .keyWrite ag page v => Sys2Proof.Machine.execKeyWrite ag page v s
  | .pageClaim ag page v => Sys2Proof.Machine.execPageClaim ag page v s
  | .pageRelease ag page v => Sys2Proof.Machine.execPageRelease ag page v s
  | .voteWrite ag page v => Sys2Proof.Machine.execVoteWrite ag page v s
  | .srst ag page => Sys2Proof.Machine.execSrst ag page s
  | .profileRequest ag page p => Sys2Proof.Machine.execProfileRequest ag page p s
  | .profileChange entry => Sys2Proof.Machine.execProfileChange entry s
  | .ownerWordRelease ag idx v => Sys2Proof.Machine.execOwnerWordRelease ag idx v s
  | .mailboxResponse proc ch => Sys2Proof.Machine.execMailboxResponse proc ch s
  | .mailboxTimeout proc ch => Sys2Proof.Machine.execMailboxTimeout proc ch s
  | .badOpcode proc ch => Sys2Proof.Machine.execBadOpcode proc ch s
  | .logEntryWrite => Sys2Proof.Machine.execLogEntryWrite s
  | .logRdWrite ag v => Sys2Proof.Machine.execLogRdWrite ag v s
  | .watchdogExpiry proc => Sys2Proof.Machine.execWatchdogExpiry proc s
  -- start-up
  | .coldStartRelease cfgMode devId loadState csd trngOk => Sys2Proof.Machine.execColdStartRelease cfgMode devId loadState csd trngOk s
  | .brownOut => Sys2Proof.Machine.execBrownOut s
  | .perstFall => Sys2Proof.Machine.execPerstFall s
  | .perstRise => Sys2Proof.Machine.execPerstRise s
  | .startDelayEnd => Sys2Proof.Machine.execStartDelayEnd s
  | .selftestEnd failed faults => Sys2Proof.Machine.execSelftestEnd failed faults s
  -- timing
  | .tmgCkStart => Sys2Proof.Machine.execTmgCkStart s
  | .tmgCkStop => Sys2Proof.Machine.execTmgCkStop s
  | .timingWord w => Sys2Proof.Machine.execTimingWord w s
  | .holdoverTimeout => Sys2Proof.Machine.execHoldoverTimeout s
  | .bucketBoundary => Sys2Proof.Machine.execBucketBoundary s
  | .cmdNop tm arg => Sys2Proof.Machine.execCmdNop tm arg s
  | .turnLo tm arg => Sys2Proof.Machine.execTurnLo tm arg s
  | .turnHi tm arg => Sys2Proof.Machine.execTurnHi tm arg s
  | .laybyCancel tm arg => Sys2Proof.Machine.execLaybyCancel tm arg s
  | .userCommand tm cmd arg => Sys2Proof.Machine.execUserCommand tm cmd arg s
  | .turnLoad ag => Sys2Proof.Machine.execTurnLoad ag s
  | .turnLoaded => Sys2Proof.Machine.execTurnLoaded s
  | .turnLenWrite ag v => Sys2Proof.Machine.execTurnLenWrite ag v s
  | .laybyWrite ag v => Sys2Proof.Machine.execLaybyWrite ag v s
  | .laybyApply => Sys2Proof.Machine.execLaybyApply s
  | .cfgDoneRelease => Sys2Proof.Machine.execCfgDoneRelease s
  | .cfgDoneSample othersLow => Sys2Proof.Machine.execCfgDoneSample othersLow s
  | .start => Sys2Proof.Machine.execStart s
  | .globalResetRelease => Sys2Proof.Machine.execGlobalResetRelease s
  -- milestones
  | .milestoneArm ag e w0 => Sys2Proof.Machine.execMilestoneArm ag e w0 s
  | .milestoneDisarm ag e w0 => Sys2Proof.Machine.execMilestoneDisarm ag e w0 s
  | .milestoneEvaluate => Sys2Proof.Machine.execMilestoneEvaluate s
  | .milestoneNone e => Sys2Proof.Machine.execMilestoneNone e s
  | .milestoneStage e => Sys2Proof.Machine.execMilestoneStage e s
  | .milestoneSwitch e => Sys2Proof.Machine.execMilestoneSwitch e s
  | .milestoneCapture e => Sys2Proof.Machine.execMilestoneCapture e s
  | .milestoneTeStart e => Sys2Proof.Machine.execMilestoneTeStart e s
  | .milestoneTeHalt e => Sys2Proof.Machine.execMilestoneTeHalt e s
  | .milestoneRefresh e => Sys2Proof.Machine.execMilestoneRefresh e s
  | .milestonePulse e => Sys2Proof.Machine.execMilestonePulse e s
  | .pulseEnd pin => Sys2Proof.Machine.execPulseEnd pin s
  | .milestoneFabric e => Sys2Proof.Machine.execMilestoneFabric e s
  | .milestoneVote e => Sys2Proof.Machine.execMilestoneVote e s
  | .timerEnable ag t w0 => Sys2Proof.Machine.execTimerEnable ag t w0 s
  | .timerDisable ag t w0 => Sys2Proof.Machine.execTimerDisable ag t w0 s
  | .timerRestart ag t => Sys2Proof.Machine.execTimerRestart ag t s
  | .timerExpiry t => Sys2Proof.Machine.execTimerExpiry t s
  -- clocks
  | .pllEnable ag p en => Sys2Proof.Machine.execPllEnable ag p en s
  | .pllSettingWrite ag p refSel mult => Sys2Proof.Machine.execPllSettingWrite ag p refSel mult s
  | .mirrorWrite ag p m => Sys2Proof.Machine.execMirrorWrite ag p m s
  | .pllReady p => Sys2Proof.Machine.execPllReady p s
  | .pllLossOfLock p => Sys2Proof.Machine.execPllLossOfLock p s
  | .referenceLoss p => Sys2Proof.Machine.execReferenceLoss p s
  | .timingPllRelockStart => Sys2Proof.Machine.execTimingPllRelockStart s
  | .treeOpen t => Sys2Proof.Machine.execTreeOpen t s
  | .clockSwitchRequest ag t src div => Sys2Proof.Machine.execClockSwitchRequest ag t src div s
  | .clockSwitchDone t gap => Sys2Proof.Machine.execClockSwitchDone t gap s
  | .oldStopped t gap => Sys2Proof.Machine.execOldStopped t gap s
  | .dividerWrite ag t div => Sys2Proof.Machine.execDividerWrite ag t div s
  | .dividerApply t => Sys2Proof.Machine.execDividerApply t s
  | .gateRequest ag t enables => Sys2Proof.Machine.execGateRequest ag t enables s
  | .gateClose e => Sys2Proof.Machine.execGateClose e s
  | .gateTimeout e => Sys2Proof.Machine.execGateTimeout e s
  | .fcStart ag f w0 => Sys2Proof.Machine.execFcStart ag f w0 s
  | .fcWindowEnd f edges => Sys2Proof.Machine.execFcWindowEnd f edges s
  -- fabric
  | .cwConflict pair x r idx => Sys2Proof.Machine.execCwConflict pair x r idx s
  | .restageDone pair x r => Sys2Proof.Machine.execRestageDone pair x r s
  | .bmPortAccess region x k portA portB => Sys2Proof.Machine.execBmPortAccess region x k portA portB s
  | .mgtPortAccess region addr wr wdata => Sys2Proof.Machine.execMgtPortAccess region addr wr wdata s
  | .fabricVoteStrobe region domain level => Sys2Proof.Machine.execFabricVoteStrobe region domain level s
  | .attachmentWrite ag region ctx n v => Sys2Proof.Machine.execAttachmentWrite ag region ctx n v s
  | .remapApply pair edge => Sys2Proof.Machine.execRemapApply pair edge s
  | .captureRequest ag region => Sys2Proof.Machine.execCaptureRequest ag region s
  | .capture region edge => Sys2Proof.Machine.execCapture region edge s
  -- contexts
  | .stageRequest ag region ctx => Sys2Proof.Machine.execStageRequest ag region ctx s
  | .switchRequest ag region ctx => Sys2Proof.Machine.execSwitchRequest ag region ctx s
  | .fabricStageStrobe region ctx => Sys2Proof.Machine.execFabricStageStrobe region ctx s
  | .fabricSwitchStrobe region ctx => Sys2Proof.Machine.execFabricSwitchStrobe region ctx s
  | .stageApply region => Sys2Proof.Machine.execStageApply region s
  | .stageDone region => Sys2Proof.Machine.execStageDone region s
  | .switchApply region edge => Sys2Proof.Machine.execSwitchApply region edge s
  -- loader
  | .syncWord port => Sys2Proof.Machine.execSyncWord port s
  | .streamNop payload => Sys2Proof.Machine.execStreamNop payload s
  | .image flags member imageId zero => Sys2Proof.Machine.execImage flags member imageId zero s
  | .devsel mask => Sys2Proof.Machine.execDevsel mask s
  | .far a => Sys2Proof.Machine.execFar a s
  | .frames fs => Sys2Proof.Machine.execFrames fs s
  | .frame f => Sys2Proof.Machine.execFrame f s
  | .heldFrameWrite => Sys2Proof.Machine.execHeldFrameWrite s
  | .repeatFrames n => Sys2Proof.Machine.execRepeatFrames n s
  | .zeroFrames n => Sys2Proof.Machine.execZeroFrames n s
  | .wreg pairs => Sys2Proof.Machine.execWreg pairs s
  | .bulk addr words => Sys2Proof.Machine.execBulk addr words s
  | .rfence lo hi ctx => Sys2Proof.Machine.execRfence lo hi ctx s
  | .encBegin slot iv0 iv1 iv2 len cipher => Sys2Proof.Machine.execEncBegin slot iv0 iv1 iv2 len cipher s
  | .encTag t0 t1 t2 t3 => Sys2Proof.Machine.execEncTag t0 t1 t2 t3 s
  | .hmac slot mac => Sys2Proof.Machine.execHmac slot mac s
  | .close => Sys2Proof.Machine.execClose s
  | .startPacket ctx => Sys2Proof.Machine.execStartPacket ctx s
  | .desync => Sys2Proof.Machine.execDesync s
  | .stallTimeout => Sys2Proof.Machine.execStallTimeout s
  | .tempHoldTimeout => Sys2Proof.Machine.execTempHoldTimeout s
  | .loaderWindowWrite addr bytes => Sys2Proof.Machine.execLoaderWindowWrite addr bytes s
  | .serialWord w => Sys2Proof.Machine.execSerialWord w s
  | .sselRise partialWord => Sys2Proof.Machine.execSselRise partialWord s
  | .parallelWord w => Sys2Proof.Machine.execParallelWord w s
  | .memorySpaceEnable => Sys2Proof.Machine.execMemorySpaceEnable s
  | .imageLate => Sys2Proof.Machine.execImageLate s
  | .loadComplete => Sys2Proof.Machine.execLoadComplete s
  | .readback ag => Sys2Proof.Machine.execReadback ag s
  | .readbackDone => Sys2Proof.Machine.execReadbackDone s
  | .loadStatus ch => Sys2Proof.Machine.execLoadStatus ch s
  | .abortStream ch => Sys2Proof.Machine.execAbortStream ch s
  | .unconfigure ch => Sys2Proof.Machine.execUnconfigure ch s
  -- engine
  | .startGo ag te pc => Sys2Proof.Machine.execStartGo ag te pc s
  | .haltGo ag te => Sys2Proof.Machine.execHaltGo ag te s
  | .teStartApply te => Sys2Proof.Machine.execTeStartApply te s
  | .teHaltApply te => Sys2Proof.Machine.execTeHaltApply te s
  | .teNop te => Sys2Proof.Machine.execTeNop te s
  | .teHalt te => Sys2Proof.Machine.execTeHalt te s
  | .teWait te => Sys2Proof.Machine.execTeWait te s
  | .waitEnd te => Sys2Proof.Machine.execWaitEnd te s
  | .teLoop te => Sys2Proof.Machine.execTeLoop te s
  | .teJmp te => Sys2Proof.Machine.execTeJmp te s
  | .teBrz te => Sys2Proof.Machine.execTeBrz te s
  | .teBrnz te => Sys2Proof.Machine.execTeBrnz te s
  | .teSli te => Sys2Proof.Machine.execTeSli te s
  | .teSadd te => Sys2Proof.Machine.execTeSadd te s
  | .teSetag te => Sys2Proof.Machine.execTeSetag te s
  | .teSetagr te => Sys2Proof.Machine.execTeSetagr te s
  | .teGetag te => Sys2Proof.Machine.execTeGetag te s
  | .tePushctl te => Sys2Proof.Machine.execTePushctl te s
  | .teRtag te => Sys2Proof.Machine.execTeRtag te s
  | .teRtt te => Sys2Proof.Machine.execTeRtt te s
  | .teTrap te => Sys2Proof.Machine.execTeTrap te s
  | .teMac te => Sys2Proof.Machine.execTeMac te s
  | .teMsu te => Sys2Proof.Machine.execTeMsu te s
  | .teMul te => Sys2Proof.Machine.execTeMul te s
  | .teClra te => Sys2Proof.Machine.execTeClra te s
  | .teLda te => Sys2Proof.Machine.execTeLda te s
  | .teSta te => Sys2Proof.Machine.execTeSta te s
  | .teAddv te => Sys2Proof.Machine.execTeAddv te s
  | .teSubv te => Sys2Proof.Machine.execTeSubv te s
  | .teMaxv te => Sys2Proof.Machine.execTeMaxv te s
  | .teMinv te => Sys2Proof.Machine.execTeMinv te s
  | .teAbsv te => Sys2Proof.Machine.execTeAbsv te s
  | .teMov te => Sys2Proof.Machine.execTeMov te s
  | .teExpa te => Sys2Proof.Machine.execTeExpa te s
  | .teNorma te => Sys2Proof.Machine.execTeNorma te s
  | .teBfpa te => Sys2Proof.Machine.execTeBfpa te s
  | .teClrp te => Sys2Proof.Machine.execTeClrp te s
  | .illegalInstruction te => Sys2Proof.Machine.execIllegalInstruction te s
  | .fifoWrite region lte f data wr last poison => Sys2Proof.Machine.execFifoWrite region lte f data wr last poison s
  | .fifoRead region lte f => Sys2Proof.Machine.execFifoRead region lte f s
  | .fifoFlush ag te mask => Sys2Proof.Machine.execFifoFlush ag te mask s
  | .fifoStallTimeout te => Sys2Proof.Machine.execFifoStallTimeout te s
  | .engineMaintenanceSlot te => Sys2Proof.Machine.execEngineMaintenanceSlot te s
  | .forcedSlot te => Sys2Proof.Machine.execForcedSlot te s
  | .dataWindowAccess ag te row lane wr v => Sys2Proof.Machine.execDataWindowAccess ag te row lane wr v s
  | .instructionWindowWrite ag te word high v => Sys2Proof.Machine.execInstructionWindowWrite ag te word high v s
  | .engineMove te intact => Sys2Proof.Machine.execEngineMove te intact s
  | .engineMoved te => Sys2Proof.Machine.execEngineMoved te s
  | .imemScrubRead te => Sys2Proof.Machine.execImemScrubRead te s
  -- packer
  | .descriptorWrite region d wmask => Sys2Proof.Machine.execDescriptorWrite region d wmask s
  | .packStart region => Sys2Proof.Machine.execPackStart region s
  | .trailerFormed region => Sys2Proof.Machine.execTrailerFormed region s
  | .eventSend region => Sys2Proof.Machine.execEventSend region s
  -- shallot
  | .hitWrite k port hits => Sys2Proof.Machine.execHitWrite k port hits s
  | .setClose k => Sys2Proof.Machine.execSetClose k s
  | .majority k => Sys2Proof.Machine.execMajority k s
  | .roadWindow k port edges => Sys2Proof.Machine.execRoadWindow k port edges s
  | .patternWindowWrite ag k off size8 v => Sys2Proof.Machine.execPatternWindowWrite ag k off size8 v s
  | .verifyGo ag k bank => Sys2Proof.Machine.execVerifyGo ag k bank s
  | .verifyDone k => Sys2Proof.Machine.execVerifyDone k s
  | .commitGo ag k bank => Sys2Proof.Machine.execCommitGo ag k bank s
  | .fillStart k => Sys2Proof.Machine.execFillStart k s
  | .fillDone k => Sys2Proof.Machine.execFillDone k s
  | .patternScrub k slice => Sys2Proof.Machine.execPatternScrub k slice s
  | .lostPatternRestore k => Sys2Proof.Machine.execLostPatternRestore k s
  -- memory
  | .rbAccess region addr we re wmask wdata => Sys2Proof.Machine.execRbAccess region addr we re wmask wdata s
  | .rowSpareDone store unit => Sys2Proof.Machine.execRowSpareDone store unit s
  | .menderWalk plane tile => Sys2Proof.Machine.execMenderWalk plane tile s
  | .slabScrub region arr => Sys2Proof.Machine.execSlabScrub region arr s
  | .slabForcedSlot region => Sys2Proof.Machine.execSlabForcedSlot region s
  | .scrubLate region arr => Sys2Proof.Machine.execScrubLate region arr s
  | .ddrTrainingStart c => Sys2Proof.Machine.execDdrTrainingStart c s
  | .ddrTrainingDone c failLane => Sys2Proof.Machine.execDdrTrainingDone c failLane s
  | .refreshTick c rank => Sys2Proof.Machine.execRefreshTick c rank s
  | .refIssue c rank pendingReq => Sys2Proof.Machine.execRefIssue c rank pendingReq s
  | .patrolRead c => Sys2Proof.Machine.execPatrolRead c s
  | .patrolLate c => Sys2Proof.Machine.execPatrolLate c s
  | .ringEventWrite c r => Sys2Proof.Machine.execRingEventWrite c r s
  | .evrTimeout c r => Sys2Proof.Machine.execEvrTimeout c r s
  | .evrEnable ag c r v => Sys2Proof.Machine.execEvrEnable ag c r v s
  -- network
  | .netRead vc h => Sys2Proof.Machine.execNetRead vc h s
  | .netReadShared vc h => Sys2Proof.Machine.execNetReadShared vc h s
  | .netRelease vc h => Sys2Proof.Machine.execNetRelease vc h s
  | .netWrite vc h flits => Sys2Proof.Machine.execNetWrite vc h flits s
  | .netReadData vc h flits => Sys2Proof.Machine.execNetReadData vc h flits s
  | .netEvent vc h flits => Sys2Proof.Machine.execNetEvent vc h flits s
  | .writeDone vc h => Sys2Proof.Machine.execWriteDone vc h s
  | .readFail vc h => Sys2Proof.Machine.execReadFail vc h s
  | .releaseDone vc h => Sys2Proof.Machine.execReleaseDone vc h s
  | .inv vc h => Sys2Proof.Machine.execInv vc h s
  | .invAck vc h => Sys2Proof.Machine.execInvAck vc h s
  | .snpTimeout unit line => Sys2Proof.Machine.execSnpTimeout unit line s
  | .hopErr x y out net => Sys2Proof.Machine.execHopErr x y out net s
  | .linkTest x y out net badWire => Sys2Proof.Machine.execLinkTest x y out net badWire s
  | .slotWindowWrite ag off v => Sys2Proof.Machine.execSlotWindowWrite ag off v s
  | .tblCommit ag => Sys2Proof.Machine.execTblCommit ag s
  | .slotTableSwitch => Sys2Proof.Machine.execSlotTableSwitch s
  | .netPortFlit region net vc head tail poison flit => Sys2Proof.Machine.execNetPortFlit region net vc head tail poison flit s
  | .netCreditReturn region net vc toFabric => Sys2Proof.Machine.execNetCreditReturn region net vc toFabric s
  | .reqTimeout region tag => Sys2Proof.Machine.execReqTimeout region tag s
  -- lanes
  | .halfSourceWrite ag g h v => Sys2Proof.Machine.execHalfSourceWrite ag g h v s
  | .txCellWrite region port data mark poison => Sys2Proof.Machine.execTxCellWrite region port data mark poison s
  | .cellSend g lane => Sys2Proof.Machine.execCellSend g lane s
  | .txIdleEnd g => Sys2Proof.Machine.execTxIdleEnd g s
  | .rateCheck g inBand => Sys2Proof.Machine.execRateCheck g inBand s
  | .cdrLock g lane => Sys2Proof.Machine.execCdrLock g lane s
  | .cellReceive g lane bits => Sys2Proof.Machine.execCellReceive g lane bits s
  | .cellRelease g h edges => Sys2Proof.Machine.execCellRelease g h edges s
  | .destSlotWrite ag g h v => Sys2Proof.Machine.execDestSlotWrite ag g h v s
  | .parkMove g => Sys2Proof.Machine.execParkMove g s
  | .parkGo ag g next => Sys2Proof.Machine.execParkGo ag g next s
  | .laneErrorCheck g lane => Sys2Proof.Machine.execLaneErrorCheck g lane s
  | .eyeScanStart ag g v => Sys2Proof.Machine.execEyeScanStart ag g v s
  | .eyeScanSlice g bits errs => Sys2Proof.Machine.execEyeScanSlice g bits errs s
  -- power
  | .entryStepReady d => Sys2Proof.Machine.execEntryStepReady d s
  | .wakeStepReady d => Sys2Proof.Machine.execWakeStepReady d s
  | .wakeFail d => Sys2Proof.Machine.execWakeFail d s
  | .powerMeasure readings always => Sys2Proof.Machine.execPowerMeasure readings always s
  | .pcapShed => Sys2Proof.Machine.execPcapShed s
  | .pcapLift => Sys2Proof.Machine.execPcapLift s
  | .tempConversion readings => Sys2Proof.Machine.execTempConversion readings s
  | .modelEvaluation => Sys2Proof.Machine.execModelEvaluation s
  | .zoneEvaluate z => Sys2Proof.Machine.execZoneEvaluate z s
  | .pcieLinkDown => Sys2Proof.Machine.execPcieLinkDown s
  | .pcieLinkUp speed width => Sys2Proof.Machine.execPcieLinkUp speed width s
  | .debugDetach => Sys2Proof.Machine.execDebugDetach s
  | .forceLevel ch => Sys2Proof.Machine.execForceLevel ch s
  | .thermLimits ch => Sys2Proof.Machine.execThermLimits ch s
  | .sensorMask ch => Sys2Proof.Machine.execSensorMask ch s
  | .powerLimit ch => Sys2Proof.Machine.execPowerLimit ch s
  -- resilience
  | .selftestSlice kind entry foreground => Sys2Proof.Machine.execSelftestSlice kind entry foreground s
  | .sliceDone kind entry fail detail => Sys2Proof.Machine.execSliceDone kind entry fail detail s
  | .wearStep m => Sys2Proof.Machine.execWearStep m s
  | .viaFail pair layer group x r signal => Sys2Proof.Machine.execViaFail pair layer group x r signal s
  | .latchCompare region staged r => Sys2Proof.Machine.execLatchCompare region staged r s
  | .arrayWalkRead region => Sys2Proof.Machine.execArrayWalkRead region s
  | .spareCommit ch => Sys2Proof.Machine.execSpareCommit ch s
  | .retire ch => Sys2Proof.Machine.execRetire ch s
  | .hotWordExpiry store unit => Sys2Proof.Machine.execHotWordExpiry store unit s
  | .walkerRestartDone => Sys2Proof.Machine.execWalkerRestartDone s
  -- security
  | .rfenceSet ch => Sys2Proof.Machine.execRfenceSet ch s
  | .lockoutEnd => Sys2Proof.Machine.execLockoutEnd s
  | .keyLoad ch => Sys2Proof.Machine.execKeyLoad ch s
  | .keyRevoke ch => Sys2Proof.Machine.execKeyRevoke ch s
  | .patch ch => Sys2Proof.Machine.execPatch ch s
  | .efusePolicy ch => Sys2Proof.Machine.execEfusePolicy ch s
  | .debugUnlock ch => Sys2Proof.Machine.execDebugUnlock ch s
  | .debugLock ch => Sys2Proof.Machine.execDebugLock ch s
  -- hostbus
  | .userWindowAccess region off wr len bytes => Sys2Proof.Machine.execUserWindowAccess region off wr len bytes s
  | .userTimeout region tag => Sys2Proof.Machine.execUserTimeout region tag s
  | .hostRingWrite r => Sys2Proof.Machine.execHostRingWrite r s
  | .ringTimeout r => Sys2Proof.Machine.execRingTimeout r s
  | .quiesce => Sys2Proof.Machine.execQuiesce s
  | .quiesceDone => Sys2Proof.Machine.execQuiesceDone s
  | .quiesceRelease => Sys2Proof.Machine.execQuiesceRelease s
  | .pinEnable ag pin v => Sys2Proof.Machine.execPinEnable ag pin v s
  | .vioMismatch b => Sys2Proof.Machine.execVioMismatch b s
  | .vioMatch b => Sys2Proof.Machine.execVioMatch b s
  | .bucketKhzUpdate khz => Sys2Proof.Machine.execBucketKhzUpdate khz s

end Sys2Proof.Machine
end

