-- ==== Sys2Proof/WellFormed.lean ====
section
/-! DEFINITION. WellFormed.lean: which commands can come from outside. The widths of most operands are in their types; what
is left are lengths of lists, sizes of accesses and operands that stand for a choice of the sender. A command that is not
well-formed still has a meaning, but no board and no unit can send it. -/

namespace Sys2Proof

/-- A frame is 640 words beside its CRC (Table 07.2). -/
def FrameWords.wf (f : FrameWords) : Bool := f.data.length = 640

/-- The lengths and choices an operand can have: access sizes (R6), commands of the user range (Table 03.3), frames and
packets (Table 07.2), the loader window (R192), hits of one write (R298), tiles (R330), hot-word tables (R327), flits of a
packet (R362), error counts (R416), readings of one conversion or measurement (R435, R437) and user accesses (R510). -/
def Instr.wf : Instr → Bool
  | .registerWrite _ _ size _ => size = 1 || size = 2 || size = 4 || size = 8
  | .rcRead _ _ => true
  | .lowWordRead _ _ => true
  | .irqStatWrite _ _ _ => true
  | .keyWrite _ _ _ => true
  | .pageClaim _ _ _ => true
  | .pageRelease _ _ _ => true
  | .voteWrite _ _ _ => true
  | .srst _ _ => true
  | .profileRequest _ _ _ => true
  | .profileChange _ => true
  | .ownerWordRelease _ _ _ => true
  | .mailboxResponse _ _ => true
  | .mailboxTimeout _ _ => true
  | .badOpcode _ _ => true
  | .logEntryWrite => true
  | .logRdWrite _ _ => true
  | .watchdogExpiry _ => true
  | .coldStartRelease _ _ _ _ _ => true
  | .brownOut => true
  | .perstFall => true
  | .perstRise => true
  | .startDelayEnd => true
  | .selftestEnd failed faults => decide failed.Nodup && decide faults.Nodup
  | .tmgCkStart => true
  | .tmgCkStop => true
  | .timingWord _ => true
  | .holdoverTimeout => true
  | .bucketBoundary => true
  | .cmdNop _ _ => true
  | .turnLo _ _ => true
  | .turnHi _ _ => true
  | .laybyCancel _ _ => true
  | .userCommand _ cmd _ => decide (0x40 ≤ cmd.toNat)
  | .turnLoad _ => true
  | .turnLoaded => true
  | .turnLenWrite _ _ => true
  | .laybyWrite _ _ => true
  | .laybyApply => true
  | .cfgDoneRelease => true
  | .cfgDoneSample _ => true
  | .start => true
  | .globalResetRelease => true
  | .milestoneArm _ _ _ => true
  | .milestoneDisarm _ _ _ => true
  | .milestoneEvaluate => true
  | .milestoneNone _ => true
  | .milestoneStage _ => true
  | .milestoneSwitch _ => true
  | .milestoneCapture _ => true
  | .milestoneTeStart _ => true
  | .milestoneTeHalt _ => true
  | .milestoneRefresh _ => true
  | .milestonePulse _ => true
  | .pulseEnd _ => true
  | .milestoneFabric _ => true
  | .milestoneVote _ => true
  | .timerEnable _ _ _ => true
  | .timerDisable _ _ _ => true
  | .timerRestart _ _ => true
  | .timerExpiry _ => true
  | .pllEnable _ _ _ => true
  | .pllSettingWrite _ _ _ _ => true
  | .mirrorWrite _ _ _ => true
  | .pllReady _ => true
  | .pllLossOfLock _ => true
  | .referenceLoss _ => true
  | .timingPllRelockStart => true
  | .treeOpen _ => true
  | .clockSwitchRequest _ _ _ _ => true
  | .clockSwitchDone _ _ => true
  | .oldStopped _ _ => true
  | .dividerWrite _ _ _ => true
  | .dividerApply _ => true
  | .gateRequest _ _ _ => true
  | .gateClose _ => true
  | .gateTimeout _ => true
  | .fcStart _ _ _ => true
  | .fcWindowEnd _ _ => true
  | .cwConflict _ _ _ _ => true
  | .restageDone _ _ _ => true
  | .bmPortAccess _ _ _ _ _ => true
  | .mgtPortAccess _ _ _ _ => true
  | .fabricVoteStrobe _ _ _ => true
  | .attachmentWrite _ _ _ _ _ => true
  | .remapApply _ _ => true
  | .captureRequest _ _ => true
  | .capture _ _ => true
  | .stageRequest _ _ _ => true
  | .switchRequest _ _ _ => true
  | .fabricStageStrobe _ _ => true
  | .fabricSwitchStrobe _ _ => true
  | .stageApply _ => true
  | .stageDone _ => true
  | .switchApply _ _ => true
  | .syncWord _ => true
  | .streamNop _ => true
  | .image _ _ _ _ => true
  | .devsel _ => true
  | .far _ => true
  | .frames fs => !fs.isEmpty && fs.all FrameWords.wf
  | .frame f => f.wf
  | .heldFrameWrite => true
  | .repeatFrames _ => true
  | .zeroFrames _ => true
  | .wreg pairs => !pairs.isEmpty
  | .bulk _ words => !words.isEmpty
  | .rfence _ _ _ => true
  | .encBegin _ _ _ _ len cipher => decide (cipher.length ≤ len.toNat)
  | .encTag _ _ _ _ => true
  | .hmac _ _ => true
  | .close => true
  | .startPacket _ => true
  | .desync => true
  | .stallTimeout => true
  | .tempHoldTimeout => true
  | .loaderWindowWrite addr bytes => !bytes.isEmpty && decide (0x08000000 ≤ addr.toNat) && decide (addr.toNat + bytes.length ≤ 0x08100000)
  | .serialWord _ => true
  | .sselRise _ => true
  | .parallelWord _ => true
  | .memorySpaceEnable => true
  | .imageLate => true
  | .loadComplete => true
  | .readback _ => true
  | .readbackDone => true
  | .loadStatus _ => true
  | .abortStream _ => true
  | .unconfigure _ => true
  | .startGo _ _ _ => true
  | .haltGo _ _ => true
  | .teStartApply _ => true
  | .teHaltApply _ => true
  | .teNop _ => true
  | .teHalt _ => true
  | .teWait _ => true
  | .waitEnd _ => true
  | .teLoop _ => true
  | .teJmp _ => true
  | .teBrz _ => true
  | .teBrnz _ => true
  | .teSli _ => true
  | .teSadd _ => true
  | .teSetag _ => true
  | .teSetagr _ => true
  | .teGetag _ => true
  | .tePushctl _ => true
  | .teRtag _ => true
  | .teRtt _ => true
  | .teTrap _ => true
  | .teMac _ => true
  | .teMsu _ => true
  | .teMul _ => true
  | .teClra _ => true
  | .teLda _ => true
  | .teSta _ => true
  | .teAddv _ => true
  | .teSubv _ => true
  | .teMaxv _ => true
  | .teMinv _ => true
  | .teAbsv _ => true
  | .teMov _ => true
  | .teExpa _ => true
  | .teNorma _ => true
  | .teBfpa _ => true
  | .teClrp _ => true
  | .illegalInstruction _ => true
  | .fifoWrite _ _ _ _ _ _ _ => true
  | .fifoRead _ _ _ => true
  | .fifoFlush _ _ _ => true
  | .fifoStallTimeout _ => true
  | .engineMaintenanceSlot _ => true
  | .forcedSlot _ => true
  | .dataWindowAccess _ _ _ _ _ _ => true
  | .instructionWindowWrite _ _ _ _ _ => true
  | .engineMove _ _ => true
  | .engineMoved _ => true
  | .imemScrubRead _ => true
  | .descriptorWrite _ _ _ => true
  | .packStart _ => true
  | .trailerFormed _ => true
  | .eventSend _ => true
  | .hitWrite _ _ hits => decide (hits.length ≤ 4)
  | .setClose _ => true
  | .majority _ => true
  | .roadWindow _ _ _ => true
  | .patternWindowWrite _ _ _ _ _ => true
  | .verifyGo _ _ _ => true
  | .verifyDone _ => true
  | .commitGo _ _ _ => true
  | .fillStart _ => true
  | .fillDone _ => true
  | .patternScrub _ _ => true
  | .lostPatternRestore _ => true
  | .rbAccess _ _ _ _ _ _ => true
  | .rowSpareDone _ _ => true
  | .menderWalk _ tile => decide (tile < 3276800)
  | .slabScrub _ _ => true
  | .slabForcedSlot _ => true
  | .scrubLate _ _ => true
  | .ddrTrainingStart _ => true
  | .ddrTrainingDone _ _ => true
  | .refreshTick _ _ => true
  | .refIssue _ _ _ => true
  | .patrolRead _ => true
  | .patrolLate _ => true
  | .ringEventWrite _ _ => true
  | .evrTimeout _ _ => true
  | .evrEnable _ _ _ _ => true
  | .netRead _ _ => true
  | .netReadShared _ _ => true
  | .netRelease _ _ => true
  | .netWrite _ _ flits => decide (1 ≤ flits.length) && decide (flits.length ≤ 16)
  | .netReadData _ _ flits => decide (1 ≤ flits.length) && decide (flits.length ≤ 16)
  | .netEvent _ _ flits => decide (1 ≤ flits.length) && decide (flits.length ≤ 1025)
  | .writeDone _ _ => true
  | .readFail _ _ => true
  | .releaseDone _ _ => true
  | .inv _ _ => true
  | .invAck _ _ => true
  | .snpTimeout _ _ => true
  | .hopErr _ _ _ _ => true
  | .linkTest _ _ _ _ _ => true
  | .slotWindowWrite _ _ _ => true
  | .tblCommit _ => true
  | .slotTableSwitch => true
  | .netPortFlit _ _ _ _ _ _ _ => true
  | .netCreditReturn _ _ _ _ => true
  | .reqTimeout _ _ => true
  | .halfSourceWrite _ _ _ _ => true
  | .txCellWrite _ _ _ _ _ => true
  | .cellSend _ _ => true
  | .txIdleEnd _ => true
  | .rateCheck _ _ => true
  | .cdrLock _ _ => true
  | .cellReceive _ _ _ => true
  | .cellRelease _ _ _ => true
  | .destSlotWrite _ _ _ _ => true
  | .parkMove _ => true
  | .parkGo _ _ _ => true
  | .laneErrorCheck _ _ => true
  | .eyeScanStart _ _ _ => true
  | .eyeScanSlice _ bits errs => decide (errs ≤ bits)
  | .entryStepReady _ => true
  | .wakeStepReady _ => true
  | .wakeFail _ => true
  | .powerMeasure readings _ => decide (readings.map Prod.fst).Nodup
  | .pcapShed => true
  | .pcapLift => true
  | .tempConversion readings => decide (readings.map TempReading.point).Nodup
  | .modelEvaluation => true
  | .zoneEvaluate _ => true
  | .pcieLinkDown => true
  | .pcieLinkUp _ _ => true
  | .debugDetach => true
  | .forceLevel _ => true
  | .thermLimits _ => true
  | .sensorMask _ => true
  | .powerLimit _ => true
  | .selftestSlice _ _ _ => true
  | .sliceDone _ _ _ _ => true
  | .wearStep _ => true
  | .viaFail _ _ _ _ _ _ => true
  | .latchCompare _ _ _ => true
  | .arrayWalkRead _ => true
  | .spareCommit _ => true
  | .retire _ => true
  | .hotWordExpiry _ unit => decide (unit < 16)
  | .walkerRestartDone => true
  | .rfenceSet _ => true
  | .lockoutEnd => true
  | .keyLoad _ => true
  | .keyRevoke _ => true
  | .patch _ => true
  | .efusePolicy _ => true
  | .debugUnlock _ => true
  | .debugLock _ => true
  | .userWindowAccess _ _ wr len bytes => decide (1 ≤ len) && decide (len ≤ 4096) && (!wr || bytes.length = len)
  | .userTimeout _ _ => true
  | .hostRingWrite _ => true
  | .ringTimeout _ => true
  | .quiesce => true
  | .quiesceDone => true
  | .quiesceRelease => true
  | .pinEnable _ _ _ => true
  | .vioMismatch _ => true
  | .vioMatch _ => true
  | .bucketKhzUpdate _ => true

end Sys2Proof
end

