-- ==== Sys2Proof/Laws/PerInstr.lean ====
section
/-! SUPPORT. Laws/PerInstr.lean: which commands have operands that their types do not bound, one lemma per command. -/

namespace Sys2Proof.Laws.Operands

/-- The commands with a check of their own in WellFormed.lean: lists, access sizes and choices of the sender. -/
def bounded : Instr → Bool
  | .registerWrite _ _ _ _ => true
  | .selftestEnd _ _ => true
  | .userCommand _ _ _ => true
  | .frames _ => true
  | .frame _ => true
  | .wreg _ => true
  | .bulk _ _ => true
  | .encBegin _ _ _ _ _ _ => true
  | .loaderWindowWrite _ _ => true
  | .hitWrite _ _ _ => true
  | .menderWalk _ _ => true
  | .netWrite _ _ _ => true
  | .netReadData _ _ _ => true
  | .netEvent _ _ _ => true
  | .eyeScanSlice _ _ _ => true
  | .powerMeasure _ _ => true
  | .tempConversion _ => true
  | .hotWordExpiry _ _ => true
  | .userWindowAccess _ _ _ _ _ => true
  | _ => false

/-- A command without a check of its own is well-formed whatever its operands are: its types hold their bounds. -/
def Statement (i : Instr) : Prop := bounded i = false → i.wf = true

theorem registerWrite x0 x1 x2 x3 : Statement (.registerWrite x0 x1 x2 x3) := nofun
theorem rcRead x0 x1 : Statement (.rcRead x0 x1) := fun _ => rfl
theorem lowWordRead x0 x1 : Statement (.lowWordRead x0 x1) := fun _ => rfl
theorem irqStatWrite x0 x1 x2 : Statement (.irqStatWrite x0 x1 x2) := fun _ => rfl
theorem keyWrite x0 x1 x2 : Statement (.keyWrite x0 x1 x2) := fun _ => rfl
theorem pageClaim x0 x1 x2 : Statement (.pageClaim x0 x1 x2) := fun _ => rfl
theorem pageRelease x0 x1 x2 : Statement (.pageRelease x0 x1 x2) := fun _ => rfl
theorem voteWrite x0 x1 x2 : Statement (.voteWrite x0 x1 x2) := fun _ => rfl
theorem srst x0 x1 : Statement (.srst x0 x1) := fun _ => rfl
theorem profileRequest x0 x1 x2 : Statement (.profileRequest x0 x1 x2) := fun _ => rfl
theorem profileChange x0 : Statement (.profileChange x0) := fun _ => rfl
theorem ownerWordRelease x0 x1 x2 : Statement (.ownerWordRelease x0 x1 x2) := fun _ => rfl
theorem mailboxResponse x0 x1 : Statement (.mailboxResponse x0 x1) := fun _ => rfl
theorem mailboxTimeout x0 x1 : Statement (.mailboxTimeout x0 x1) := fun _ => rfl
theorem badOpcode x0 x1 : Statement (.badOpcode x0 x1) := fun _ => rfl
theorem logEntryWrite : Statement (.logEntryWrite) := fun _ => rfl
theorem logRdWrite x0 x1 : Statement (.logRdWrite x0 x1) := fun _ => rfl
theorem watchdogExpiry x0 : Statement (.watchdogExpiry x0) := fun _ => rfl
theorem coldStartRelease x0 x1 x2 x3 x4 : Statement (.coldStartRelease x0 x1 x2 x3 x4) := fun _ => rfl
theorem brownOut : Statement (.brownOut) := fun _ => rfl
theorem perstFall : Statement (.perstFall) := fun _ => rfl
theorem perstRise : Statement (.perstRise) := fun _ => rfl
theorem startDelayEnd : Statement (.startDelayEnd) := fun _ => rfl
theorem selftestEnd x0 x1 : Statement (.selftestEnd x0 x1) := nofun
theorem tmgCkStart : Statement (.tmgCkStart) := fun _ => rfl
theorem tmgCkStop : Statement (.tmgCkStop) := fun _ => rfl
theorem timingWord x0 : Statement (.timingWord x0) := fun _ => rfl
theorem holdoverTimeout : Statement (.holdoverTimeout) := fun _ => rfl
theorem bucketBoundary : Statement (.bucketBoundary) := fun _ => rfl
theorem cmdNop x0 x1 : Statement (.cmdNop x0 x1) := fun _ => rfl
theorem turnLo x0 x1 : Statement (.turnLo x0 x1) := fun _ => rfl
theorem turnHi x0 x1 : Statement (.turnHi x0 x1) := fun _ => rfl
theorem laybyCancel x0 x1 : Statement (.laybyCancel x0 x1) := fun _ => rfl
theorem userCommand x0 x1 x2 : Statement (.userCommand x0 x1 x2) := nofun
theorem turnLoad x0 : Statement (.turnLoad x0) := fun _ => rfl
theorem turnLoaded : Statement (.turnLoaded) := fun _ => rfl
theorem turnLenWrite x0 x1 : Statement (.turnLenWrite x0 x1) := fun _ => rfl
theorem laybyWrite x0 x1 : Statement (.laybyWrite x0 x1) := fun _ => rfl
theorem laybyApply : Statement (.laybyApply) := fun _ => rfl
theorem cfgDoneRelease : Statement (.cfgDoneRelease) := fun _ => rfl
theorem cfgDoneSample x0 : Statement (.cfgDoneSample x0) := fun _ => rfl
theorem start : Statement (.start) := fun _ => rfl
theorem globalResetRelease : Statement (.globalResetRelease) := fun _ => rfl
theorem milestoneArm x0 x1 x2 : Statement (.milestoneArm x0 x1 x2) := fun _ => rfl
theorem milestoneDisarm x0 x1 x2 : Statement (.milestoneDisarm x0 x1 x2) := fun _ => rfl
theorem milestoneEvaluate : Statement (.milestoneEvaluate) := fun _ => rfl
theorem milestoneNone x0 : Statement (.milestoneNone x0) := fun _ => rfl
theorem milestoneStage x0 : Statement (.milestoneStage x0) := fun _ => rfl
theorem milestoneSwitch x0 : Statement (.milestoneSwitch x0) := fun _ => rfl
theorem milestoneCapture x0 : Statement (.milestoneCapture x0) := fun _ => rfl
theorem milestoneTeStart x0 : Statement (.milestoneTeStart x0) := fun _ => rfl
theorem milestoneTeHalt x0 : Statement (.milestoneTeHalt x0) := fun _ => rfl
theorem milestoneRefresh x0 : Statement (.milestoneRefresh x0) := fun _ => rfl
theorem milestonePulse x0 : Statement (.milestonePulse x0) := fun _ => rfl
theorem pulseEnd x0 : Statement (.pulseEnd x0) := fun _ => rfl
theorem milestoneFabric x0 : Statement (.milestoneFabric x0) := fun _ => rfl
theorem milestoneVote x0 : Statement (.milestoneVote x0) := fun _ => rfl
theorem timerEnable x0 x1 x2 : Statement (.timerEnable x0 x1 x2) := fun _ => rfl
theorem timerDisable x0 x1 x2 : Statement (.timerDisable x0 x1 x2) := fun _ => rfl
theorem timerRestart x0 x1 : Statement (.timerRestart x0 x1) := fun _ => rfl
theorem timerExpiry x0 : Statement (.timerExpiry x0) := fun _ => rfl
theorem pllEnable x0 x1 x2 : Statement (.pllEnable x0 x1 x2) := fun _ => rfl
theorem pllSettingWrite x0 x1 x2 x3 : Statement (.pllSettingWrite x0 x1 x2 x3) := fun _ => rfl
theorem mirrorWrite x0 x1 x2 : Statement (.mirrorWrite x0 x1 x2) := fun _ => rfl
theorem pllReady x0 : Statement (.pllReady x0) := fun _ => rfl
theorem pllLossOfLock x0 : Statement (.pllLossOfLock x0) := fun _ => rfl
theorem referenceLoss x0 : Statement (.referenceLoss x0) := fun _ => rfl
theorem timingPllRelockStart : Statement (.timingPllRelockStart) := fun _ => rfl
theorem treeOpen x0 : Statement (.treeOpen x0) := fun _ => rfl
theorem clockSwitchRequest x0 x1 x2 x3 : Statement (.clockSwitchRequest x0 x1 x2 x3) := fun _ => rfl
theorem clockSwitchDone x0 x1 : Statement (.clockSwitchDone x0 x1) := fun _ => rfl
theorem oldStopped x0 x1 : Statement (.oldStopped x0 x1) := fun _ => rfl
theorem dividerWrite x0 x1 x2 : Statement (.dividerWrite x0 x1 x2) := fun _ => rfl
theorem dividerApply x0 : Statement (.dividerApply x0) := fun _ => rfl
theorem gateRequest x0 x1 x2 : Statement (.gateRequest x0 x1 x2) := fun _ => rfl
theorem gateClose x0 : Statement (.gateClose x0) := fun _ => rfl
theorem gateTimeout x0 : Statement (.gateTimeout x0) := fun _ => rfl
theorem fcStart x0 x1 x2 : Statement (.fcStart x0 x1 x2) := fun _ => rfl
theorem fcWindowEnd x0 x1 : Statement (.fcWindowEnd x0 x1) := fun _ => rfl
theorem cwConflict x0 x1 x2 x3 : Statement (.cwConflict x0 x1 x2 x3) := fun _ => rfl
theorem restageDone x0 x1 x2 : Statement (.restageDone x0 x1 x2) := fun _ => rfl
theorem bmPortAccess x0 x1 x2 x3 x4 : Statement (.bmPortAccess x0 x1 x2 x3 x4) := fun _ => rfl
theorem mgtPortAccess x0 x1 x2 x3 : Statement (.mgtPortAccess x0 x1 x2 x3) := fun _ => rfl
theorem fabricVoteStrobe x0 x1 x2 : Statement (.fabricVoteStrobe x0 x1 x2) := fun _ => rfl
theorem attachmentWrite x0 x1 x2 x3 x4 : Statement (.attachmentWrite x0 x1 x2 x3 x4) := fun _ => rfl
theorem remapApply x0 x1 : Statement (.remapApply x0 x1) := fun _ => rfl
theorem captureRequest x0 x1 : Statement (.captureRequest x0 x1) := fun _ => rfl
theorem capture x0 x1 : Statement (.capture x0 x1) := fun _ => rfl
theorem stageRequest x0 x1 x2 : Statement (.stageRequest x0 x1 x2) := fun _ => rfl
theorem switchRequest x0 x1 x2 : Statement (.switchRequest x0 x1 x2) := fun _ => rfl
theorem fabricStageStrobe x0 x1 : Statement (.fabricStageStrobe x0 x1) := fun _ => rfl
theorem fabricSwitchStrobe x0 x1 : Statement (.fabricSwitchStrobe x0 x1) := fun _ => rfl
theorem stageApply x0 : Statement (.stageApply x0) := fun _ => rfl
theorem stageDone x0 : Statement (.stageDone x0) := fun _ => rfl
theorem switchApply x0 x1 : Statement (.switchApply x0 x1) := fun _ => rfl
theorem syncWord x0 : Statement (.syncWord x0) := fun _ => rfl
theorem streamNop x0 : Statement (.streamNop x0) := fun _ => rfl
theorem image x0 x1 x2 x3 : Statement (.image x0 x1 x2 x3) := fun _ => rfl
theorem devsel x0 : Statement (.devsel x0) := fun _ => rfl
theorem far x0 : Statement (.far x0) := fun _ => rfl
theorem frames x0 : Statement (.frames x0) := nofun
theorem frame x0 : Statement (.frame x0) := nofun
theorem heldFrameWrite : Statement (.heldFrameWrite) := fun _ => rfl
theorem repeatFrames x0 : Statement (.repeatFrames x0) := fun _ => rfl
theorem zeroFrames x0 : Statement (.zeroFrames x0) := fun _ => rfl
theorem wreg x0 : Statement (.wreg x0) := nofun
theorem bulk x0 x1 : Statement (.bulk x0 x1) := nofun
theorem rfence x0 x1 x2 : Statement (.rfence x0 x1 x2) := fun _ => rfl
theorem encBegin x0 x1 x2 x3 x4 x5 : Statement (.encBegin x0 x1 x2 x3 x4 x5) := nofun
theorem encTag x0 x1 x2 x3 : Statement (.encTag x0 x1 x2 x3) := fun _ => rfl
theorem hmac x0 x1 : Statement (.hmac x0 x1) := fun _ => rfl
theorem close : Statement (.close) := fun _ => rfl
theorem startPacket x0 : Statement (.startPacket x0) := fun _ => rfl
theorem desync : Statement (.desync) := fun _ => rfl
theorem stallTimeout : Statement (.stallTimeout) := fun _ => rfl
theorem tempHoldTimeout : Statement (.tempHoldTimeout) := fun _ => rfl
theorem loaderWindowWrite x0 x1 : Statement (.loaderWindowWrite x0 x1) := nofun
theorem serialWord x0 : Statement (.serialWord x0) := fun _ => rfl
theorem sselRise x0 : Statement (.sselRise x0) := fun _ => rfl
theorem parallelWord x0 : Statement (.parallelWord x0) := fun _ => rfl
theorem memorySpaceEnable : Statement (.memorySpaceEnable) := fun _ => rfl
theorem imageLate : Statement (.imageLate) := fun _ => rfl
theorem loadComplete : Statement (.loadComplete) := fun _ => rfl
theorem readback x0 : Statement (.readback x0) := fun _ => rfl
theorem readbackDone : Statement (.readbackDone) := fun _ => rfl
theorem loadStatus x0 : Statement (.loadStatus x0) := fun _ => rfl
theorem abortStream x0 : Statement (.abortStream x0) := fun _ => rfl
theorem unconfigure x0 : Statement (.unconfigure x0) := fun _ => rfl
theorem startGo x0 x1 x2 : Statement (.startGo x0 x1 x2) := fun _ => rfl
theorem haltGo x0 x1 : Statement (.haltGo x0 x1) := fun _ => rfl
theorem teStartApply x0 : Statement (.teStartApply x0) := fun _ => rfl
theorem teHaltApply x0 : Statement (.teHaltApply x0) := fun _ => rfl
theorem teNop x0 : Statement (.teNop x0) := fun _ => rfl
theorem teHalt x0 : Statement (.teHalt x0) := fun _ => rfl
theorem teWait x0 : Statement (.teWait x0) := fun _ => rfl
theorem waitEnd x0 : Statement (.waitEnd x0) := fun _ => rfl
theorem teLoop x0 : Statement (.teLoop x0) := fun _ => rfl
theorem teJmp x0 : Statement (.teJmp x0) := fun _ => rfl
theorem teBrz x0 : Statement (.teBrz x0) := fun _ => rfl
theorem teBrnz x0 : Statement (.teBrnz x0) := fun _ => rfl
theorem teSli x0 : Statement (.teSli x0) := fun _ => rfl
theorem teSadd x0 : Statement (.teSadd x0) := fun _ => rfl
theorem teSetag x0 : Statement (.teSetag x0) := fun _ => rfl
theorem teSetagr x0 : Statement (.teSetagr x0) := fun _ => rfl
theorem teGetag x0 : Statement (.teGetag x0) := fun _ => rfl
theorem tePushctl x0 : Statement (.tePushctl x0) := fun _ => rfl
theorem teRtag x0 : Statement (.teRtag x0) := fun _ => rfl
theorem teRtt x0 : Statement (.teRtt x0) := fun _ => rfl
theorem teTrap x0 : Statement (.teTrap x0) := fun _ => rfl
theorem teMac x0 : Statement (.teMac x0) := fun _ => rfl
theorem teMsu x0 : Statement (.teMsu x0) := fun _ => rfl
theorem teMul x0 : Statement (.teMul x0) := fun _ => rfl
theorem teClra x0 : Statement (.teClra x0) := fun _ => rfl
theorem teLda x0 : Statement (.teLda x0) := fun _ => rfl
theorem teSta x0 : Statement (.teSta x0) := fun _ => rfl
theorem teAddv x0 : Statement (.teAddv x0) := fun _ => rfl
theorem teSubv x0 : Statement (.teSubv x0) := fun _ => rfl
theorem teMaxv x0 : Statement (.teMaxv x0) := fun _ => rfl
theorem teMinv x0 : Statement (.teMinv x0) := fun _ => rfl
theorem teAbsv x0 : Statement (.teAbsv x0) := fun _ => rfl
theorem teMov x0 : Statement (.teMov x0) := fun _ => rfl
theorem teExpa x0 : Statement (.teExpa x0) := fun _ => rfl
theorem teNorma x0 : Statement (.teNorma x0) := fun _ => rfl
theorem teBfpa x0 : Statement (.teBfpa x0) := fun _ => rfl
theorem teClrp x0 : Statement (.teClrp x0) := fun _ => rfl
theorem illegalInstruction x0 : Statement (.illegalInstruction x0) := fun _ => rfl
theorem fifoWrite x0 x1 x2 x3 x4 x5 x6 : Statement (.fifoWrite x0 x1 x2 x3 x4 x5 x6) := fun _ => rfl
theorem fifoRead x0 x1 x2 : Statement (.fifoRead x0 x1 x2) := fun _ => rfl
theorem fifoFlush x0 x1 x2 : Statement (.fifoFlush x0 x1 x2) := fun _ => rfl
theorem fifoStallTimeout x0 : Statement (.fifoStallTimeout x0) := fun _ => rfl
theorem engineMaintenanceSlot x0 : Statement (.engineMaintenanceSlot x0) := fun _ => rfl
theorem forcedSlot x0 : Statement (.forcedSlot x0) := fun _ => rfl
theorem dataWindowAccess x0 x1 x2 x3 x4 x5 : Statement (.dataWindowAccess x0 x1 x2 x3 x4 x5) := fun _ => rfl
theorem instructionWindowWrite x0 x1 x2 x3 x4 : Statement (.instructionWindowWrite x0 x1 x2 x3 x4) := fun _ => rfl
theorem engineMove x0 x1 : Statement (.engineMove x0 x1) := fun _ => rfl
theorem engineMoved x0 : Statement (.engineMoved x0) := fun _ => rfl
theorem imemScrubRead x0 : Statement (.imemScrubRead x0) := fun _ => rfl
theorem descriptorWrite x0 x1 x2 : Statement (.descriptorWrite x0 x1 x2) := fun _ => rfl
theorem packStart x0 : Statement (.packStart x0) := fun _ => rfl
theorem trailerFormed x0 : Statement (.trailerFormed x0) := fun _ => rfl
theorem eventSend x0 : Statement (.eventSend x0) := fun _ => rfl
theorem hitWrite x0 x1 x2 : Statement (.hitWrite x0 x1 x2) := nofun
theorem setClose x0 : Statement (.setClose x0) := fun _ => rfl
theorem majority x0 : Statement (.majority x0) := fun _ => rfl
theorem roadWindow x0 x1 x2 : Statement (.roadWindow x0 x1 x2) := fun _ => rfl
theorem patternWindowWrite x0 x1 x2 x3 x4 : Statement (.patternWindowWrite x0 x1 x2 x3 x4) := fun _ => rfl
theorem verifyGo x0 x1 x2 : Statement (.verifyGo x0 x1 x2) := fun _ => rfl
theorem verifyDone x0 : Statement (.verifyDone x0) := fun _ => rfl
theorem commitGo x0 x1 x2 : Statement (.commitGo x0 x1 x2) := fun _ => rfl
theorem fillStart x0 : Statement (.fillStart x0) := fun _ => rfl
theorem fillDone x0 : Statement (.fillDone x0) := fun _ => rfl
theorem patternScrub x0 x1 : Statement (.patternScrub x0 x1) := fun _ => rfl
theorem lostPatternRestore x0 : Statement (.lostPatternRestore x0) := fun _ => rfl
theorem rbAccess x0 x1 x2 x3 x4 x5 : Statement (.rbAccess x0 x1 x2 x3 x4 x5) := fun _ => rfl
theorem rowSpareDone x0 x1 : Statement (.rowSpareDone x0 x1) := fun _ => rfl
theorem menderWalk x0 x1 : Statement (.menderWalk x0 x1) := nofun
theorem slabScrub x0 x1 : Statement (.slabScrub x0 x1) := fun _ => rfl
theorem slabForcedSlot x0 : Statement (.slabForcedSlot x0) := fun _ => rfl
theorem scrubLate x0 x1 : Statement (.scrubLate x0 x1) := fun _ => rfl
theorem ddrTrainingStart x0 : Statement (.ddrTrainingStart x0) := fun _ => rfl
theorem ddrTrainingDone x0 x1 : Statement (.ddrTrainingDone x0 x1) := fun _ => rfl
theorem refreshTick x0 x1 : Statement (.refreshTick x0 x1) := fun _ => rfl
theorem refIssue x0 x1 x2 : Statement (.refIssue x0 x1 x2) := fun _ => rfl
theorem patrolRead x0 : Statement (.patrolRead x0) := fun _ => rfl
theorem patrolLate x0 : Statement (.patrolLate x0) := fun _ => rfl
theorem ringEventWrite x0 x1 : Statement (.ringEventWrite x0 x1) := fun _ => rfl
theorem evrTimeout x0 x1 : Statement (.evrTimeout x0 x1) := fun _ => rfl
theorem evrEnable x0 x1 x2 x3 : Statement (.evrEnable x0 x1 x2 x3) := fun _ => rfl
theorem netRead x0 x1 : Statement (.netRead x0 x1) := fun _ => rfl
theorem netReadShared x0 x1 : Statement (.netReadShared x0 x1) := fun _ => rfl
theorem netRelease x0 x1 : Statement (.netRelease x0 x1) := fun _ => rfl
theorem netWrite x0 x1 x2 : Statement (.netWrite x0 x1 x2) := nofun
theorem netReadData x0 x1 x2 : Statement (.netReadData x0 x1 x2) := nofun
theorem netEvent x0 x1 x2 : Statement (.netEvent x0 x1 x2) := nofun
theorem writeDone x0 x1 : Statement (.writeDone x0 x1) := fun _ => rfl
theorem readFail x0 x1 : Statement (.readFail x0 x1) := fun _ => rfl
theorem releaseDone x0 x1 : Statement (.releaseDone x0 x1) := fun _ => rfl
theorem inv x0 x1 : Statement (.inv x0 x1) := fun _ => rfl
theorem invAck x0 x1 : Statement (.invAck x0 x1) := fun _ => rfl
theorem snpTimeout x0 x1 : Statement (.snpTimeout x0 x1) := fun _ => rfl
theorem hopErr x0 x1 x2 x3 : Statement (.hopErr x0 x1 x2 x3) := fun _ => rfl
theorem linkTest x0 x1 x2 x3 x4 : Statement (.linkTest x0 x1 x2 x3 x4) := fun _ => rfl
theorem slotWindowWrite x0 x1 x2 : Statement (.slotWindowWrite x0 x1 x2) := fun _ => rfl
theorem tblCommit x0 : Statement (.tblCommit x0) := fun _ => rfl
theorem slotTableSwitch : Statement (.slotTableSwitch) := fun _ => rfl
theorem netPortFlit x0 x1 x2 x3 x4 x5 x6 : Statement (.netPortFlit x0 x1 x2 x3 x4 x5 x6) := fun _ => rfl
theorem netCreditReturn x0 x1 x2 x3 : Statement (.netCreditReturn x0 x1 x2 x3) := fun _ => rfl
theorem reqTimeout x0 x1 : Statement (.reqTimeout x0 x1) := fun _ => rfl
theorem halfSourceWrite x0 x1 x2 x3 : Statement (.halfSourceWrite x0 x1 x2 x3) := fun _ => rfl
theorem txCellWrite x0 x1 x2 x3 x4 : Statement (.txCellWrite x0 x1 x2 x3 x4) := fun _ => rfl
theorem cellSend x0 x1 : Statement (.cellSend x0 x1) := fun _ => rfl
theorem txIdleEnd x0 : Statement (.txIdleEnd x0) := fun _ => rfl
theorem rateCheck x0 x1 : Statement (.rateCheck x0 x1) := fun _ => rfl
theorem cdrLock x0 x1 : Statement (.cdrLock x0 x1) := fun _ => rfl
theorem cellReceive x0 x1 x2 : Statement (.cellReceive x0 x1 x2) := fun _ => rfl
theorem cellRelease x0 x1 x2 : Statement (.cellRelease x0 x1 x2) := fun _ => rfl
theorem destSlotWrite x0 x1 x2 x3 : Statement (.destSlotWrite x0 x1 x2 x3) := fun _ => rfl
theorem parkMove x0 : Statement (.parkMove x0) := fun _ => rfl
theorem parkGo x0 x1 x2 : Statement (.parkGo x0 x1 x2) := fun _ => rfl
theorem laneErrorCheck x0 x1 : Statement (.laneErrorCheck x0 x1) := fun _ => rfl
theorem eyeScanStart x0 x1 x2 : Statement (.eyeScanStart x0 x1 x2) := fun _ => rfl
theorem eyeScanSlice x0 x1 x2 : Statement (.eyeScanSlice x0 x1 x2) := nofun
theorem entryStepReady x0 : Statement (.entryStepReady x0) := fun _ => rfl
theorem wakeStepReady x0 : Statement (.wakeStepReady x0) := fun _ => rfl
theorem wakeFail x0 : Statement (.wakeFail x0) := fun _ => rfl
theorem powerMeasure x0 x1 : Statement (.powerMeasure x0 x1) := nofun
theorem pcapShed : Statement (.pcapShed) := fun _ => rfl
theorem pcapLift : Statement (.pcapLift) := fun _ => rfl
theorem tempConversion x0 : Statement (.tempConversion x0) := nofun
theorem modelEvaluation : Statement (.modelEvaluation) := fun _ => rfl
theorem zoneEvaluate x0 : Statement (.zoneEvaluate x0) := fun _ => rfl
theorem pcieLinkDown : Statement (.pcieLinkDown) := fun _ => rfl
theorem pcieLinkUp x0 x1 : Statement (.pcieLinkUp x0 x1) := fun _ => rfl
theorem debugDetach : Statement (.debugDetach) := fun _ => rfl
theorem forceLevel x0 : Statement (.forceLevel x0) := fun _ => rfl
theorem thermLimits x0 : Statement (.thermLimits x0) := fun _ => rfl
theorem sensorMask x0 : Statement (.sensorMask x0) := fun _ => rfl
theorem powerLimit x0 : Statement (.powerLimit x0) := fun _ => rfl
theorem selftestSlice x0 x1 x2 : Statement (.selftestSlice x0 x1 x2) := fun _ => rfl
theorem sliceDone x0 x1 x2 x3 : Statement (.sliceDone x0 x1 x2 x3) := fun _ => rfl
theorem wearStep x0 : Statement (.wearStep x0) := fun _ => rfl
theorem viaFail x0 x1 x2 x3 x4 x5 : Statement (.viaFail x0 x1 x2 x3 x4 x5) := fun _ => rfl
theorem latchCompare x0 x1 x2 : Statement (.latchCompare x0 x1 x2) := fun _ => rfl
theorem arrayWalkRead x0 : Statement (.arrayWalkRead x0) := fun _ => rfl
theorem spareCommit x0 : Statement (.spareCommit x0) := fun _ => rfl
theorem retire x0 : Statement (.retire x0) := fun _ => rfl
theorem hotWordExpiry x0 x1 : Statement (.hotWordExpiry x0 x1) := nofun
theorem walkerRestartDone : Statement (.walkerRestartDone) := fun _ => rfl
theorem rfenceSet x0 : Statement (.rfenceSet x0) := fun _ => rfl
theorem lockoutEnd : Statement (.lockoutEnd) := fun _ => rfl
theorem keyLoad x0 : Statement (.keyLoad x0) := fun _ => rfl
theorem keyRevoke x0 : Statement (.keyRevoke x0) := fun _ => rfl
theorem patch x0 : Statement (.patch x0) := fun _ => rfl
theorem efusePolicy x0 : Statement (.efusePolicy x0) := fun _ => rfl
theorem debugUnlock x0 : Statement (.debugUnlock x0) := fun _ => rfl
theorem debugLock x0 : Statement (.debugLock x0) := fun _ => rfl
theorem userWindowAccess x0 x1 x2 x3 x4 : Statement (.userWindowAccess x0 x1 x2 x3 x4) := nofun
theorem userTimeout x0 x1 : Statement (.userTimeout x0 x1) := fun _ => rfl
theorem hostRingWrite x0 : Statement (.hostRingWrite x0) := fun _ => rfl
theorem ringTimeout x0 : Statement (.ringTimeout x0) := fun _ => rfl
theorem quiesce : Statement (.quiesce) := fun _ => rfl
theorem quiesceDone : Statement (.quiesceDone) := fun _ => rfl
theorem quiesceRelease : Statement (.quiesceRelease) := fun _ => rfl
theorem pinEnable x0 x1 x2 : Statement (.pinEnable x0 x1 x2) := fun _ => rfl
theorem vioMismatch x0 : Statement (.vioMismatch x0) := fun _ => rfl
theorem vioMatch x0 : Statement (.vioMatch x0) := fun _ => rfl
theorem bucketKhzUpdate x0 : Statement (.bucketKhzUpdate x0) := fun _ => rfl

end Sys2Proof.Laws.Operands
end

