-- ==== Sys2Proof/Safety.lean ====
section
/-! DEFINITION. Safety.lean: what a run of the block must keep, in the words the statements use. -/

namespace Sys2Proof.Machine

/-- What no command but those that handle keys, and no command at all, may touch: the keys, and the queue. -/
def State.ground (s : State) : List Instr × List (Nat × Nat) := (s.pending, s.keys)

/-- Keys stand in the slots of Table 16.1 that can be written: slots 1 to 7, in canonical form. Slot 0 was fused at
manufacture and is written by nobody (R482). -/
def State.keysOk (s : State) : Bool := mwf 0 s.keys && s.keys.all fun e => decide (1 ≤ e.1) && decide (e.1 ≤ 7)

/-- The sparse memories that chapters 06, 10 and 11 read by range stand in canonical form: addresses strictly rising, and no
entry equal to what an unlisted address reads as. -/
def State.canonical (s : State) : Bool :=
  mwf {} s.cfg && mwf 0 s.ff && mwf 0 s.restore && mwf {} s.rb && mwf 0 s.arows

/-- Nothing of s runs by itself in the cycle to come: no microsecond is full, no PLL waits for its reference, no fabric access
waits, no region's clock moves a live context, and no bank of pins is the fabric's. -/
abbrev State.atRest (s : State) : Prop :=
  (s.cycles + 1) % 500 ≠ 0 ∧
    (∀ p, p < 20 → s.pllRuns p = true → s.refHere p = true → s.flag (Pg.pll p) Pll.REF_OK = true) ∧
    (∀ g ∈ s.rgs, g.2.mgtWait = none ∧ (g.2.live && s.regionRuns g.1) = false) ∧
    ∀ b, b < 8 → s.flag (Pg.gio b) Gio.FAB_EN = false

/-- Command i gives a next state when s is the state it meets, and P holds of that next state. -/
def Does (i : Instr) (s : State) (P : State → Prop) : Prop := ∃ t, exec i s = .next t ∧ P t

/-- An access of agent ag to page pg reaches the page and is answered OK (R5, Table 02.3). -/
abbrev State.grants (s : State) (ag : Agent) (pg : Nat) : Prop := s.reaches ag = true ∧ s.response ag pg = .ok

/-! ### What a command leaves as it is -/

/-- Everything of s but its register fields, the answer of the last access, and the log's queue with the times of the
events in it. -/
def State.body (s : State) : State := { s with regs := [], bus := {}, logQ := [], lastLogs := [] }

/-- No register field changes from s to t but those listed, each by page, row and instance. -/
def State.onlyFields (s t : State) (fs : List (Nat × Row × Nat)) : Prop :=
  ∀ k, k ∉ fs.map (fun f => fieldKey f.1 f.2.1 f.2.2) → mget 0 t.regs k = mget 0 s.regs k

/-- No register field changes from s to t but on the pages listed: a page holds 4096 bytes of eight bits. -/
def State.onlyPages (s t : State) (ps : List Nat) : Prop := ∀ k, k / 32768 ∉ ps → mget 0 t.regs k = mget 0 s.regs k

/-- The fields that an entry of the log for page pg may change: the page's COUNT and ERR, and, where the queue is full,
LOG_LOST and LOSS (R65, Table 02.13). -/
def logFields (pg : Nat) : List (Nat × Row × Nat) :=
  [(pg, Hdr.COUNT, 0), (pg, irqBit 0, 0), (Pg.log, Log.LOG_LOST, 0), (Pg.log, irqBit 17, 0)]

/-- Unless the queue of the log is full, an entry stands in it that s did not hold: its page, code, severity, agent and
DETAIL (R65, Table 02.11). -/
def State.enters (s t : State) (pg code sev agent detail : Nat) : Prop :=
  s.logQ.length < 32 → ∃ r, r ∈ t.logQ.drop s.logQ.length ∧ r.page = pg ∧ r.code = code ∧ r.sev = sev ∧ r.agent = agent ∧
    r.detail = detail

/-! ### What the commands of several families share -/

/-- The state that an access meets once it is answered OK. -/
def State.served (s : State) : State := { s with bus := { resp := .ok, data := 0 } }

/-- Entry e fires in this bucket with action a as the firing f, has not acted yet, and no lower entry has its target (R88,
R90, R91). -/
abbrev State.firesWith (s : State) (e a : Nat) (f : Firing) : Prop :=
  s.firingOf e a = some f ∧ ∀ g ∈ s.ms.firing, g.entry < e → f.sameTarget g = false

/-- From s to t entry e has fired with cause why (R87, R89): ST reads FIRED, WHY the cause, its FIRED bit is set, the
firing is counted, and it does not act again. -/
def State.firedAs (s t : State) (e why : Nat) : Prop :=
  t.me e MsE.ST = 2 ∧ t.me e MsE.WHY = why ∧ bitOf (t.rd Pg.bitmaps Ms.FIRED (e / 32)) (e % 32) = 1 ∧
    t.rd Pg.milestones Ms.MS_CNT_FIRED = satAdd 32 (s.rd Pg.milestones Ms.MS_CNT_FIRED) 1 % 2 ^ 32 ∧
    t.ms.acted = e :: s.ms.acted

/-- From s to t entry e has fired and its action failed or lost with cause why (R89, R91): its FAILED bit is set, the
failure is counted and latched, and logged where the queue has room for it and for an entry of the target. -/
def State.failsAs (s t : State) (e why : Nat) : Prop :=
  s.firedAs t e why ∧ bitOf (t.rd Pg.bitmaps Ms.FAILED (e / 32)) (e % 32) = 1 ∧ t.flag Pg.milestones (irqBit 18) = true ∧
    (let r := if why = Why.conflict then Ms.MS_CNT_CONFLICT else Ms.MS_CNT_FAIL
     t.rd Pg.milestones r = satAdd r.width (s.rd Pg.milestones r) 1 % 2 ^ r.width) ∧
    (s.logQ.length < 31 → s.enters t Pg.milestones 0x22 Sev.degraded Ag.milestone (e + why * 2 ^ 8))

/-- From s to t region i begins to stage context c (R169): the staging runs, its context is shown, and the other set of
latches holds the words of the context as layer C delivers them; the set in use and the flip-flops stay. -/
def State.beginsStaging (s t : State) (i c src : Nat) : Prop :=
  (t.rg i).staging = some ⟨c, src, 0⟩ ∧ t.rgRd i Rgn.STG_CTX = c ∧ t.rgRd i Rgn.STG_VALID = 0 ∧ t.rgRd i Rgn.STAGING = 1 ∧
    (t.rg i).stgEdge = some (s.markEdge 0) ∧ (t.rg i).active = (s.rg i).active ∧ t.liveCtx i = s.liveCtx i ∧ t.ff = s.ff ∧
    (mwf {} s.cfg = true → ∀ x m r, x < 64 → m < 16 → r < 320 →
      mget 0 t.latch (latchKey (1 - (s.rg i).active) i x m r) = (wordDecode (mget {} s.cfg (cfgKey i c x m r))).2)

/-- From s to t region i switches to context c at edge `edge` (R174): the sets of latches change places, the switch is
stamped and told, and the restore latches take the flip-flops as they were (Table 06.2). -/
def State.switchesTo (s t : State) (i c edge : Nat) : Prop :=
  t.liveCtx i = c ∧ (t.rg i).active = 1 - (s.rg i).active ∧ t.latch = s.latch ∧
    t.rgRd i Rgn.STG_CTX = s.liveCtx i % 8 ∧ t.rgRd i Rgn.SW_SEQ = (s.rgRd i Rgn.SW_SEQ + 1) % 2 ^ 32 ∧
    t.rgRd i Rgn.LAST_SW_TURN = s.turn % 2 ^ 32 ∧ t.rgRd i Rgn.LAST_SW_BUCKET = s.bucket % 2 ^ 16 ∧
    t.rgRd i Rgn.LAST_SW_EDGE = edge % 2 ^ 16 ∧ t.flag (Pg.region i) (irqBit 24) = true ∧
    (t.rg i).swEdge = some (s.markEdge edge) ∧ (t.rg i).settling = true ∧
    (mwf 0 s.ff = true → ∀ x r, x < 64 → r < 320 →
      mget 0 t.restore (ffKey i x r) = mget 0 s.ff (ffKey i x r))

/-- From s to t every flip-flop of region i takes the INIT bit of its cell's record in the latches in use (R144, Table 05.2):
cell c of a cluster has minor c / 2, and there bit 20 or 52. -/
def State.takesInit (s t : State) (i : Nat) : Prop :=
  mwf 0 s.latch = true → ∀ x r c, x < 64 → r < 320 → c < 16 → bitOf (mget 0 t.ff (ffKey i x r)) c =
    bitOf (mget 0 s.latch (latchKey (s.rg i).active i x (c / 2) r)) (20 + 32 * (c % 2))

/-- From s to t the flip-flops of region i are captured at edge `edge` of the present bucket (R157, R158): bank 8 takes
every cluster but one that hosts a block port, the flip-flops stay, and the capture is stamped and told. -/
def State.takesCapture (s t : State) (i edge : Nat) : Prop :=
  t.rgRd i Rgn.CAP_SEQ = (s.rgRd i Rgn.CAP_SEQ + 1) % 2 ^ 16 ∧ t.rgRd i Rgn.CAP_TURN = s.turn % 2 ^ 32 ∧
    t.rgRd i Rgn.CAP_BUCKET = s.bucket % 2 ^ 16 ∧ t.rgRd i Rgn.CAP_EDGE = edge % 2 ^ 16 ∧
    t.rgRd i Rgn.CAP_DONE = 1 ∧ t.flag (Pg.region i) (irqBit 18) = true ∧ t.ff = s.ff ∧ t.latch = s.latch ∧
    (mwf 0 s.ff = true → ∀ x r b, x < 64 → r < 320 → b < 2 → s.bmHost i x r = false →
      mget 0 t.sbank (sbKey i 8 x r b) = byteEncode (bitsOf (mget 0 s.ff (ffKey i x r)) (8 * b) 8))

/-! ### Streams (chapter 07) -/

/-- A stream is open, stands between two packets outside any encrypted section, holds no frame, and its order is o. -/
abbrev State.between (s : State) (o : Nat) : Prop :=
  s.streamOpen = true ∧ s.ld.jobs = [] ∧ s.ld.left = 0 ∧ s.ld.enc = none ∧ s.ld.order = o

/-- No sync word stands among the words behind a held frame, nor in the slave port's FIFO: once the open stream is over, the
loader discards them all (R193). -/
abbrev State.noSyncBehind (s : State) : Prop := 0xB3C45A96 ∉ s.ld.buf ∧ 0xB3C45A96 ∉ s.ld.fifo

/-- No words wait behind a held frame, nor in the slave port's FIFO. -/
abbrev State.nothingBehind (s : State) : Prop := s.ld.buf = [] ∧ s.ld.fifo = []

/-- From s to t a stream opens on port src (R193). -/
def State.opensStream (s t : State) (src : Nat) : Prop :=
  t.between 0 ∧ t.ldRd Ld.SRC = src ∧ t.ldRd Ld.CFG_ERR = 0 ∧ t.flag Pg.loader (irqBit 16) = true ∧ t.ld.written = [] ∧
    t.ld.wreg = [] ∧ t.cfg = s.cfg

/-- From s to t the open stream, full or not, aborts with reason why (R206): the stream is over, the abort is recorded and
counted, and every context that it was writing is INVALID. -/
def State.abortsWith (s t : State) (why : Nat) (full : Bool) : Prop :=
  t.streamOpen = false ∧ t.ldRd Ld.SRC = 0 ∧ t.ldRd Ld.ABORTED = 1 ∧ t.ldRd Ld.WHY = why ∧
    t.ldRd Ld.ABORT_FULL = bit full ∧ t.ldRd Ld.ABORT_SRC = s.ldRd Ld.SRC % 4 ∧
    t.ldRd Ld.CNT_ABORT = satAdd 16 (s.ldRd Ld.CNT_ABORT) 1 % 2 ^ 16 ∧ t.flag Pg.loader (irqBit 19) = true ∧
    (full = true → t.ldRd Ld.CFG_ERR = 1) ∧ t.ld.jobs = [] ∧ t.ld.wreg = [] ∧ t.cfg = s.cfg ∧
    ∀ w ∈ s.ld.written, w.1 < 40 → w.2 < 8 → s.ctxState w.1 w.2 = 1 ∨ s.ctxState w.1 w.2 = 2 → t.ctxState w.1 w.2 = 3

/-- From s to t a frame of 640 words is written at address far (R199, R200, R203): the slots of a configuration frame in
layer C, and no other, the bytes of a bank frame, or those of half a block; the frame is counted and FAR advances. -/
def State.writesFrame (s t : State) (far : Nat) (data : List Nat) : Prop :=
  let f := farOf far
  (f.minor ≤ 15 → t.ctxState f.region f.ctx = 1 ∧ (f.region, f.ctx) ∈ t.ld.written ∧
    (∀ r, r < 320 → mget {} t.cfg (cfgKey f.region f.ctx f.x f.minor r) =
      cleanWord (data.getD (2 * r) 0 + data.getD (2 * r + 1) 0 * 2 ^ 32)) ∧
    ∀ k, (∀ r, r < 320 → k ≠ cfgKey f.region f.ctx f.x f.minor r) → mget {} t.cfg k = mget {} s.cfg k) ∧
  (f.minor = 17 → t.ctxState f.region f.ctx = 1 ∧ t.cfg = s.cfg ∧ ∀ r, r < 320 →
    mget 0 t.sbank (sbKey f.region f.ctx f.x r 0) = byteEncode (data.getD (2 * r) 0 % 256) ∧
    mget 0 t.sbank (sbKey f.region f.ctx f.x r 1) = byteEncode (bitsOf (data.getD (2 * r) 0) 8 8)) ∧
  (18 ≤ f.minor → t.cfg = s.cfg ∧ ∀ k, k < 2048 →
    mget 0 t.bm (bmKey f.region (16 * f.x + f.block) (2048 * f.half + k)) =
      byteEncode (bitsOf (data.getD (k / 4) 0) (8 * (k % 4)) 8)) ∧
  t.ld.far = farNext far ∧ t.ldRd Ld.CNT_FRAMES = (s.ldRd Ld.CNT_FRAMES + 1) % 2 ^ 32 ∧ t.ld.jobs = []

/-! ### Mailbox commands (§02.7) -/

/-- Command m of opcode op and LENGTH n runs on channel c of processor p and has no response yet. -/
abbrev State.serving (s : State) (p c op n : Nat) (m : MailCmd) : Prop :=
  (s.chan (chanKey p c)).run = some m ∧ m.resp = none ∧ opcodeOf m.words = op ∧ lengthOf m.words = n

/-- In t processor p has the response of command m on channel c: its result and words. -/
def State.answered (t : State) (p c : Nat) (m : MailCmd) (result : Nat) (ws : List Nat) : Prop :=
  (t.chan (chanKey p c)).run = some { m with resp := some (respHead result ws.length m.tag :: ws) }

/-! ### Trigger engines (chapter 08) -/

/-- The instructions of Table 08.5, each with its opcode. -/
def teCommands : List ((Fin 104 → Instr) × Nat) :=
  [(.teNop, 0x00), (.teHalt, 0x01), (.teWait, 0x02), (.teLoop, 0x03), (.teJmp, 0x04), (.teBrz, 0x05), (.teBrnz, 0x06),
   (.teSli, 0x07), (.teSadd, 0x08), (.teSetag, 0x09), (.teSetagr, 0x0A), (.teGetag, 0x0B), (.tePushctl, 0x0C),
   (.teRtag, 0x0D), (.teRtt, 0x0E), (.teTrap, 0x0F), (.teMac, 0x10), (.teMsu, 0x11), (.teMul, 0x12), (.teClra, 0x13),
   (.teLda, 0x14), (.teSta, 0x15)] ++
  [(.teAddv, 0x16), (.teSubv, 0x17), (.teMaxv, 0x18), (.teMinv, 0x19), (.teAbsv, 0x1A), (.teMov, 0x1B), (.teExpa, 0x1C),
   (.teNorma, 0x1D), (.teBfpa, 0x1E), (.teClrp, 0x1F)]

/-- Engine e issues the instruction i at its PC: the word reads without an error, is legal, and stalls on no FIFO. -/
abbrev State.issues (s : State) (e i : Nat) : Prop :=
  s.teIssues e = true ∧ wordDecode (mget {} s.im (imKey e (s.teRd e Te.PC))) = (.clean, i) ∧
    teLegal (s.teRd e Te.PC) i = true ∧ s.teStall e i = none

/-- From s to t an instruction of engine e issues: one cycle and the stalls before it are counted, however many they are
(log entry 30), and the engine runs. -/
def State.clocked (s t : State) (e : Nat) : Prop :=
  t.estate e = Es.running ∧ (t.te e).wait = .none ∧ ∃ n, t.teRd e Te.CYCLES = (s.teRd e Te.CYCLES + n + 1) % 2 ^ 32 ∧
    t.teRd e Te.STALLS = (s.teRd e Te.STALLS + n) % 2 ^ 32

/-- From s to t engine e goes on after the instruction at PC: at the next address, or at the first of a loop body that is
not over (R245). -/
def State.goesOn (s t : State) (e : Nat) : Prop :=
  s.clocked t e ∧ t.teRd e Te.PC = (loopNext (s.teRd e Te.PC) (s.te e).loops).1 % 2 ^ 11 ∧
    (t.te e).loops = (loopNext (s.teRd e Te.PC) (s.te e).loops).2

/-- From s to t no register field changes but those listed of engine e's page and the four that every instruction counts
or moves, no other engine changes, and nothing outside the engines. -/
def State.teOnly (s t : State) (e : Nat) (fs : List (Row × Nat)) : Prop :=
  s.onlyFields t ((fs ++ [(Te.PC, 0), (Te.CYCLES, 0), (Te.STALLS, 0), (Te.ESTATE, 0)]).map
    fun (f : Row × Nat) => (Pg.engine e, f.1, f.2)) ∧
  t.body = ({ s with tes := t.tes, fresh := t.fresh } : State).body ∧ t.logQ = s.logQ ∧ ∀ j, j ≠ e → t.te j = s.te j

/-- From s to t engine e traps with a cause (R256): CAUSE, EPC and the trap count, and the handler if one may run. -/
def State.traps (s t : State) (e cause : Nat) : Prop :=
  t.teRd e Te.CAUSE = cause ∧ t.teRd e Te.EPC = s.teRd e Te.PC % 2 ^ 11 ∧ t.flag (Pg.engine e) (irqBit 17) = true ∧
    t.teRd e Te.TRAP_CNT = satAdd 16 (s.teRd e Te.TRAP_CNT) 1 % 2 ^ 16 ∧
    (s.teRd e Te.TVEC_EN = 1 → s.teRd e Te.IN_HANDLER = 0 → t.estate e = Es.running ∧ t.teRd e Te.IN_HANDLER = 1 ∧
      t.teRd e Te.PC = s.teRd e Te.TVEC % 2 ^ 11) ∧
    (s.teRd e Te.TVEC_EN = 0 ∨ s.teRd e Te.IN_HANDLER = 1 → t.estate e = Es.trapped)

/-- Source selector sel of engine e reads the lanes vs, and no memory word needs a correction (R238, R243). -/
abbrev State.reads (s : State) (e sel : Nat) (vs : List Lane) : Prop :=
  vs.length = 32 ∧ (sel < 8 → vs = s.vreg e sel) ∧
    (8 ≤ sel → sel < 12 → ∀ j, j < 32 → ∃ d n,
      laneDecode (mget 0 s.dm (dmKey e (s.agAddr e (sel - 8)) j)) = (.clean, d, n) ∧
        vs[j]? = some (signedOf 18 d, false)) ∧
    (12 ≤ sel → sel < 14 → ∃ w ws, ((s.te e).fifo (sel - 12)).words = w :: ws ∧ vs = wordLanes w) ∧
    (14 ≤ sel → vs = List.replicate 32 (0, false))

/-- Engine e issues the vector instruction i, whose sources read the lanes vs and whose generators step to us (R241). -/
abbrev State.vector (s : State) (e i : Nat) (vs : List (List Lane)) (us : List (Nat × Nat)) : Prop :=
  s.issues e i ∧ vs.length = (teSources i).length ∧ (∀ p ∈ (teSources i).zip vs, s.reads e p.1.1 p.2) ∧
    s.agUpdates e (teSources i ++ (teDest i).toList.map fun d => (d, Iw.ud i)) = some us

/-- No lane of the sources carries poison. -/
abbrev unpoisoned (vs : List (List Lane)) : Prop := ∀ v ∈ vs, ∀ l ∈ v, l.2 = false

/-- From s to t engine e has run the vector instruction i: it goes on, the generators hold their next IDX, and each input
FIFO it read has lost its head. -/
def State.stepped (s t : State) (e i : Nat) (us : List (Nat × Nat)) : Prop :=
  s.goesOn t e ∧ (∀ u ∈ us, t.teRd e Te.AG_IDX u.1 = u.2 % 2 ^ 11) ∧
    (∀ g, g < 4 → g ∉ us.map (·.1) → t.teRd e Te.AG_IDX g = s.teRd e Te.AG_IDX g) ∧
    (∀ f, f < 2 → ((t.te e).fifo f).words =
      if (teSources i).any (fun x => x.1 = 12 + f) then ((s.te e).fifo f).words.drop 1 else ((s.te e).fifo f).words) ∧
    t.logQ = s.logQ ∧ t.body = ({ s with tes := t.tes, fresh := t.fresh, dm := t.dm } : State).body ∧
    ∀ j, j ≠ e → t.te j = s.te j

/-- From s to t the destination selector d, whose row is `row`, holds the lanes vs (R243, R248), and no other destination
has changed. -/
def State.stores (s t : State) (e d row : Nat) (vs : List Lane) : Prop :=
  (∀ v, v < 8 → t.vreg e v = if v = d then vs.map (fun x => (signedOf 18 (fieldOf 18 x.1), x.2)) else s.vreg e v) ∧
  (∀ k, (8 ≤ d ∧ d < 12 → ∀ j, j < 32 → k ≠ dmKey e row j) → mget 0 t.dm k = mget 0 s.dm k) ∧
  (8 ≤ d → d < 12 → ∀ j, j < 32 → mget 0 t.dm (dmKey e row j) = laneWord (vs.getD j (0, false))) ∧
  (∀ f, f < 2 → ((t.te e).fifo (2 + f)).words = ((s.te e).fifo (2 + f)).words ++
    if d = 12 + f then
      let c := (mget none (s.te e).ctl f).getD 72
      let w : FWord := ⟨(packLanes vs).1, c % 128, decide (c / 128 = 1), (packLanes vs).2⟩
      if outCount (s.fifoLane e (2 + f)) w = 0 then [] else [w]
    else [])

/-- From s to t accumulator bank k of engine e takes the values zs, each clamped to 48 bits; what was clamped is told
(R230). -/
def State.accumulates (s t : State) (e k : Nat) (zs : List Int) : Prop :=
  t.accs e k = zs.map (clampTo 48) ∧ t.accs e (1 - k) = s.accs e (1 - k) ∧ t.dm = s.dm ∧
    (∀ v, v < 8 → t.vreg e v = s.vreg e v) ∧
    (if zs.any (fun z => clampTo 48 z ≠ z) then t.teRd e Te.ACC_SAT = 1 ∧ t.flag (Pg.engine e) (irqBit 18) = true ∧
        t.teRd e Te.ACC_SAT_CNT = satAdd 16 (s.teRd e Te.ACC_SAT_CNT) 1 % 2 ^ 16
      else t.teRd e Te.ACC_SAT = s.teRd e Te.ACC_SAT ∧ t.teRd e Te.ACC_SAT_CNT = s.teRd e Te.ACC_SAT_CNT)

/-! ### Packers and shallots (chapters 09 and 10) -/

/-- From s to t packer i drops event evno for reason why (R277). -/
def State.dropsEvent (s t : State) (i why evno : Nat) : Prop :=
  t.pkRd i Pk.EV_DROP = 1 ∧ t.pkRd i Pk.DROP_CNT = satAdd 16 (s.pkRd i Pk.DROP_CNT) 1 % 2 ^ 16 ∧
    t.flag (Pg.packer i) (irqBit 16) = true ∧ t.pkRd i Pk.LAST_WHY = why ∧
    t.pkRd i Pk.LAST_EVNO_LO = evno % 2 ^ 32 ∧ t.pkRd i Pk.LAST_EVNO_HI = evno / 2 ^ 32 % 2 ^ 16

/-- The first n source words of the descriptor d of packer i read as ws, none needing a correction (R264). -/
abbrev State.sourceReads (s : State) (i d n : Nat) (ws : List Nat) : Prop :=
  ws.length = n ∧ ∀ j, j < n →
    wordDecode (mget {} s.rb (rbKey i (s.sourceWord i (Dc.src d) j))) = (.clean, ws.getD j 0)

/-- Pattern n of a bank of shallot k has the row v: its golden words need no correction, and no spare shortage holds its
row (R287, R313). -/
def State.record (s : State) (k bank n v : Nat) : Prop :=
  s.rowIsDead k n = false ∧ ∃ a b c, wordDecode (mget {} s.gold (goldKey k bank n 0)) = (.clean, a) ∧
    wordDecode (mget {} s.gold (goldKey k bank n 1)) = (.clean, b) ∧
    wordDecode (mget {} s.gold (goldKey k bank n 2)) = (.clean, c) ∧
    v = a + b * 2 ^ 64 + c % 2 ^ 33 * 2 ^ 128

/-! ### The network (chapter 12) -/

/-- OP and packet of a command that is a packet (Table 12.2). -/
def packetOf : Instr → Option (Nat × Packet)
  | .netRead vc h => some (0, ⟨Nw.req, vc, h.toNat, []⟩)
  | .netReadShared vc h => some (1, ⟨Nw.req, vc, h.toNat, []⟩)
  | .netRelease vc h => some (2, ⟨Nw.req, vc, h.toNat, []⟩)
  | .netWrite vc h fs => some (0, ⟨Nw.dat, vc, h.toNat, flitsOf fs⟩)
  | .netReadData vc h fs => some (1, ⟨Nw.dat, vc, h.toNat, flitsOf fs⟩)
  | .netEvent vc h fs => some (2, ⟨Nw.dat, vc, h.toNat, flitsOf fs⟩)
  | .writeDone vc h => some (0, ⟨Nw.rsp, vc, h.toNat, []⟩)
  | .readFail vc h => some (1, ⟨Nw.rsp, vc, h.toNat, []⟩)
  | .releaseDone vc h => some (2, ⟨Nw.rsp, vc, h.toNat, []⟩)
  | .inv vc h => some (0, ⟨Nw.snp, vc, h.toNat, []⟩)
  | .invAck vc h => some (1, ⟨Nw.snp, vc, h.toNat, []⟩)
  | _ => none

/-- A packet like p, on whatever VC, is on its way. -/
def State.flying (s : State) (p : Packet) : Option Worm := s.mesh.flight.find? (Worm.carries p)

/-- A packet of the flow of p, which comes from src, is on its way: p may not overtake it (R366). -/
def State.flowBusy (s : State) (src : Place) (p : Packet) : Bool := s.mesh.flight.any (sameFlow src p)

/-- Packet p of a command reaches its destination as q and finds the state u: it was on its way and the first of its flow,
or it is offered now, finds no packet of its flow before it, and crosses (log entry 40). -/
abbrev State.lands (s u : State) (op : Nat) (p q : Packet) : Prop :=
  Hd.op p.h = op ∧ s.netRuns = true ∧
    ((∃ w, s.flying p = some w ∧ s.mesh.flight.find? (sameFlow w.src w.p) = some w ∧ q = w.p ∧
        u = { s with mesh := { s.mesh with flight := s.mesh.flight.erase w } }) ∨
      (s.flying p = none ∧ s.injectWhy p = .sent ∧ q = s.onFlow p ∧ s.flowBusy (sourceOf p.h) q = false ∧ u = s))

/-- In t packet p stands at the port of src, behind the packets that were on their way in s (R382). -/
def State.offers (s t : State) (p : Packet) (src : Place) : Prop :=
  t.mesh.flight = s.mesh.flight ++ [⟨s.mesh.offered, src, p, List.replicate (p.flits.length + 1) ⟨0, s.mesh.edge + 1⟩⟩]

/-- From s to t a unit sends packet p, and nothing else happens; one that is refused at injection is counted (R369). -/
def State.sends (s t : State) (p : Packet) : Prop :=
  (s.injectWhy p = .sent → s.offers t (s.onFlow p) (sourceOf p.h) ∧ t = { s with mesh := { s.mesh with
    flight := t.mesh.flight, offered := s.mesh.offered + 1 } }) ∧ (s.injectWhy p ≠ .sent → t.body = s.body)

/-- From s to t the destination of header h sends the RSP with OP op and CODE code (R364). -/
def State.responds (s t : State) (h op code : Nat) : Prop :=
  s.sends t ⟨Nw.rsp, 1, headerOf op (sourceOf h) (destOf h) (Hd.tag h) + code * 2 ^ 36, []⟩

/-- From s to t the destination of header h sends its lines as READ_DATA (R362). -/
def State.dataSent (s t : State) (h : Nat) (fs : List Flit) (shared : Bool) : Prop :=
  s.sends t ⟨Nw.dat, 1, datHeader 1 (sourceOf h) (destOf h) (Hd.tag h) fs.length shared 0 0, fs⟩

/-- From s to t the NET port of region i takes the flits for the fabric (R382, R384). -/
def State.delivers (s t : State) (i : Nat) (fs : List PortFlit) : Prop :=
  t.np i = portShow (s.np i) fs ∧ (∀ j, j ≠ i → t.np j = s.np j) ∧ t.mesh.flight = s.mesh.flight ∧
    t.body = ({ s with mesh := t.mesh } : State).body

/-- Every data word agrees with its check bits (R378). -/
abbrev goodFlits (fs : List Flit) : Prop :=
  ∀ f ∈ fs, ∀ j, j < 8 → (e2eDecode (bitsOf f.d (64 * j) 64) (bitsOf f.chk (8 * j) 8)).1 = .clean

/-- The words of a flit, with its POISON. -/
def flitWords (f : Flit) : List Nat × Bool := ((List.range 8).map fun j => bitsOf f.d (64 * j) 64, f.poison)

/-- Word w of memory endpoint k: of a slab, or of a DDR4 channel. -/
def State.word (s : State) (k w : Nat) : EWord :=
  if k < 100 then mget {} s.rb (rbKey k w) else mget {} s.ddr (ddrKey (k - 100) w)

/-- Region i's fabric sends packet p through its NET port, whatever source its header names (R375, R383). -/
def State.portSends (u t : State) (i : Nat) (p : Packet) : Prop :=
  let src := regionPlace i 1
  (u.injectWhy p src = .sent → u.offers t (u.onFlow p src) src) ∧
    (u.injectWhy p src = .noRoute → (t.np i).pulse = some .refused ∧ t.mesh.flight = u.mesh.flight) ∧
    (u.injectWhy p src = .noSlot → (t.np i).pulse = some .noSlot ∧ t.mesh.flight = u.mesh.flight)

/-! ### Envelopes (§16.2) -/

/-- An envelope command of Table 16.3, with its processor, its opcode and its argument count. -/
def isEnvelope (i : Fin 3 → Instr) (p op n : Nat) : Prop :=
  (i, p, op, n) ∈ [(.rfenceSet, 0, 0x8001, 2), (.forceLevel, 1, 0x8020, 1), (.thermLimits, 1, 0x8021, 2),
   (.sensorMask, 1, 0x8022, 1),
   (.powerLimit, 1, 0x8023, 1), (.spareCommit, 1, 0x8030, 0), (.retire, 1, 0x8031, 1), (.keyLoad, 2, 0x8040, 11),
   (.keyRevoke, 2, 0x8041, 1), (.patch, 2, 0x8042, 10), (.efusePolicy, 2, 0x8043, 1), (.debugUnlock, 2, 0x8044, 0)]

/-- The checks of Table 16.4 in their order, on an envelope ws of n arguments that came on channel c: true where the check
fails. -/
def State.failedChecks (s : State) (c n : Nat) (ws : List Nat) : List Bool :=
  let given := bitsOf (ws.getD 1 0) 8 8
  let slot := bitsOf (ws.getD 1 0) 0 3
  let mac := (hmacSha256 (s.keyBytes slot) ((ws.take (5 + n)).flatMap leBytes)).take 16
  [s.scRd Scp.SCP_STATE = 2, s.scRd Scp.SCP_STATE = 3, c = 2 && !s.flag (Pg.mailbox 2) Scp.DEBUG_OPEN,
   lengthOf ws ≠ 8 + given || given ≠ n, s.scRd Scp.VALID slot = 0 || bitOf (s.scRd Scp.USE slot) 0 = 0,
   mac ≠ ((ws.drop (5 + n)).take 4).flatMap leBytes,
   ws.getD 2 0 ≠ s.scRd Scp.NONCE_LO || ws.getD 3 0 ≠ s.scRd Scp.NONCE_HI, ws.getD 4 0 ≤ s.scRd Scp.CTR_LAST]

/-- Envelope m of opcode op and n arguments runs on channel c of processor p, has no response yet, and passes every check. -/
abbrev State.verified (s : State) (p c op n : Nat) (m : MailCmd) : Prop :=
  (s.chan (chanKey p c)).run = some m ∧ m.resp = none ∧ opcodeOf m.words = op ∧
    ∀ b ∈ s.failedChecks c n m.words, b = false

/-- From s to t the verified envelope m takes effect: it is answered OK, its counter is the last one seen and the run of
failures is over (R487, R488). -/
def State.accepts (t : State) (p c : Nat) (m : MailCmd) : Prop :=
  t.answered p c m Res.ok [] ∧ t.scRd Scp.CTR_LAST = m.words.getD 4 0 % 2 ^ 32 ∧ t.scRd Scp.FAIL_RUN = 0

/-- From s to t the verified envelope m is refused by its processor (R487, Table 16.5): answered REFUSED, counted, logged. -/
def State.refuses (s t : State) (p c op : Nat) (m : MailCmd) : Prop :=
  t.answered p c m Res.refused [] ∧ t.scRd Scp.CTR_LAST = m.words.getD 4 0 % 2 ^ 32 ∧ t.scRd Scp.FAIL_RUN = 0 ∧
    t.scRd Scp.REFUSE_CNT = satAdd 16 (s.scRd Scp.REFUSE_CNT) 1 ∧ s.enters t (Pg.mailbox p) 0x20 Sev.info (chanAgent c) op

end Sys2Proof.Machine
end

