-- ==== Sys2Proof/Certificates/Slice0/Obligations.lean ====
section
/-! DEFINITION. Certificates/Slice0/Obligations.lean: the statements for the provers, chapter by chapter. Each docstring
names the rules of the manual it formalises, or says where the model chose. -/

open Sys2Proof Sys2Proof.Machine

/-! ### The queue, reset, and what no command touches -/

/-- For every command c and state s, a step of s with c at the front of its queue is exec of c on s with the queue's rest.
On an empty queue a step is one management-clock cycle, the model's choice of log entry 4: it gives a next state, the cycle
count rises by one and the queue stays empty. While nothing runs by itself (Safety.atRest) and no packet is on its way, only
the network's own edge count and slot move beside the cycle count, and without the network nothing else. -/
def Obligations.stepRunsFrontCommand : Prop :=
  (∀ (c : Instr) (cs : List Instr) (s : State), step { s with pending := c :: cs } = exec c { s with pending := cs }) ∧
  (∀ s : State, s.pending = [] → ∃ t, step s = .next t ∧ t.cycles = s.cycles + 1 ∧ t.pending = [] ∧ t.keys = s.keys) ∧
  (∀ s : State, s.pending = [] → s.atRest → s.netRuns = false → step s = .next { s with cycles := s.cycles + 1 }) ∧
  (∀ s : State, s.pending = [] → s.atRest → s.netRuns = true → s.mesh.flight = [] →
    step s = .next { s with
      cycles := s.cycles + 1
      mesh := { s.mesh with edge := s.mesh.edge + 1, slot := if s.mesh.slot + 1 < s.netK then s.mesh.slot + 1 else 0 } })

/-- After reset no command waits, nothing is queued for the log, the keys stand in canonical form in the slots that can
hold one, the sparse memories are in canonical form, and the pages show what their tables print for a cold start: MAGIC,
VERSION and ENTRY_COUNT of the Waybook (Table 02.4), STATE NO_CLOCK of the timing port, PHASE 0 of the loader, SCP_STATE
INIT, and the spares of the Waybook: the four spare PLLs and the engine at position 12 of each row. -/
def Obligations.resetState : Prop :=
  State.reset.pending = [] ∧ State.reset.logQ = [] ∧ State.reset.keysOk = true ∧ State.reset.canonical = true ∧
  State.reset.rd 0 Wbh.MAGIC = 0x57415942 ∧ State.reset.rd 0 Wbh.VERSION = 0x0100 ∧
  State.reset.rd 0 Wbh.ENTRY_COUNT = 354 ∧ State.reset.tpState = 0 ∧ State.reset.rd Pg.loader Ld.PHASE = 0 ∧
  State.reset.rd (Pg.mailbox 2) Scp.SCP_STATE = 0 ∧
  (∀ p : Fin 20, State.reset.blk (En.pll p) = if 16 ≤ p.val then St.spare else St.usable) ∧
  (∀ t : Fin 104, State.reset.blk (En.engine t) = if t.val % 13 = 12 then St.spare else St.usable)

/-- No step leaves a key where none may stand: keys keep their canonical form in slots 1 to 7, so that slot 0 is written
by nobody (R482), and a step takes commands from the queue but puts none into it. -/
def Obligations.stepKeepsKeysAndQueue : Prop :=
  ∀ s t : State, s.keysOk = true → step s = .next t → t.keysOk = true ∧ t.pending = s.pending.tail

/-- Every step keeps the canonical form of the sparse memories: of layer C, the flip-flops and restore latches, the region
buffers and the active pattern rows. -/
def Obligations.stepKeepsCanonicalForm : Prop :=
  ∀ s t : State, s.canonical = true → step s = .next t → t.canonical = true

/-- Every command is answered with a next state, for every operand and every state: none faults and none is refused. The
queue is not its concern, and only KEY_LOAD, KEY_REVOKE and BROWN_OUT touch a key. -/
def Obligations.everyCommandCompletes : Prop :=
  ∀ (c : Instr) (s : State), ∃ t, exec c s = .next t ∧ t.pending = s.pending ∧
    (t.keys = s.keys ∨ c = .brownOut ∨ ∃ ch, c = .keyLoad ch ∨ c = .keyRevoke ch)

/-! ### The page space (chapters 00 and 02) -/

/-- REGISTER_WRITE, RC_READ and LOW_WORD_READ. A register write by an agent that reaches the page space: one that is not
a naturally aligned 32-bit access completes without effect (R6), one to a reserved page has none (R9), and one to IRQ_EN
of a page with the common header gives it the written value and changes nothing else (R10, R518). A read that is not a
naturally aligned 32-bit access returns 0 and has no effect (R6). A read of an aligned register returns the value latched for
it, where one is, else the live one (where it shows the level of an undriven pin, with a free value n), and leaves every RC
field of the register 0 and every other field as it is (R10, R12); a read of the low word of a 64-bit quantity latches the
high word, which the next read returns (R7). A clean word of the parameter area reads as R47 lays it out, and a word outside
every parameter block as 0. -/
def Obligations.registerAccess : Prop :=
  (∀ (ag : Agent) (a : Word) (n : Nat) (v : Word) (s : State), s.reaches ag = true → windowOf a.toNat = none →
    ((n ≠ 4 ∨ a.toNat % 4 ≠ 0) ∨ entryOfPage (a.toNat / 4096) = none) →
    Does (.registerWrite ag a n v) s fun t => t = { s with bus := { resp := .ok, data := 0 } }) ∧
  (∀ (ag : Agent) (pg : BitVec 16) (a v : Word) (s : State), s.reaches ag = true → a.toNat = pg.toNat * 4096 + 0x014 →
    hasHeader pg.toNat = true → Does (.registerWrite ag a 4 v) s fun t =>
      t.rd pg.toNat Hdr.IRQ_EN = v.toNat ∧ t.body = s.body ∧ t.logQ = s.logQ ∧
        s.onlyFields t [(pg.toNat, Hdr.IRQ_EN, 0)]) ∧
  (∀ (ag : Agent) (a : Word) (n : Nat) (c : Instr) (s : State), c = .rcRead ag ⟨a, n⟩ ∨ c = .lowWordRead ag ⟨a, n⟩ →
    s.reaches ag = true → (∀ w, windowOf a.toNat = some w → s.response ag w.page = .ok) → n ≠ 4 ∨ a.toNat % 4 ≠ 0 →
    Does c s fun t => t = { s with bus := { resp := .ok, data := 0 } }) ∧
  (∀ (ag : Agent) (pg : BitVec 16) (off : BitVec 12) (a : Word) (s : State), s.grants ag pg.toNat →
    a.toNat = pg.toNat * 4096 + off.toNat → off.toNat % 4 = 0 → windowOf a.toNat = none → paramPage pg.toNat = false →
    Does (.rcRead ag ⟨a, 4⟩) s fun t =>
      (∃ n, t.bus = { resp := .ok, data := (mget none s.shadow a.toNat).getD (s.wordAt pg.toNat off.toNat n) }) ∧
      (∀ f ∈ fieldsAt pg.toNat off.toNat, f.1.acc = .rc → t.rd (basePage pg.toNat) f.1 f.2 = 0) ∧
      s.onlyFields t (((fieldsAt pg.toNat off.toNat).filter fun f => f.1.acc = .rc).map fun f =>
        (basePage pg.toNat, f.1, f.2)) ∧ mget none t.shadow a.toNat = none ∧
      t.logQ = s.logQ ∧ t.body = ({ s with shadow := t.shadow, fresh := t.fresh } : State).body) ∧
  (∀ (ag : Agent) (pg : BitVec 16) (off : BitVec 12) (a b : Word) (s : State), s.grants ag pg.toNat →
    a.toNat = pg.toNat * 4096 + off.toNat → b.toNat = a.toNat + 4 → windowOf a.toNat = none →
    lowWord pg.toNat off.toNat = true → mget none s.shadow a.toNat = none →
    Does (.lowWordRead ag ⟨a, 4⟩) s fun t => t.bus.data = s.wordAt pg.toNat off.toNat 0 ∧ t.logQ = s.logQ ∧
      ∀ u, u.shadow = t.shadow → u.grants ag pg.toNat →
        Does (.lowWordRead ag ⟨b, 4⟩) u fun w => w.bus.data = s.wordAt pg.toNat (off.toNat + 4) 0) ∧
  (∀ (ag : Agent) (a : Word) (s : State), s.grants ag (a.toNat / 4096) → a.toNat % 4 = 0 →
    paramPage (a.toNat / 4096) = true →
    (paramAt a.toNat = none → Does (.rcRead ag ⟨a, 4⟩) s fun t => t = { s with bus := { resp := .ok, data := 0 } }) ∧
    (∀ e o d, paramAt a.toNat = some (e, o) → wordDecode (s.paramCode e (o / 8)) = (.clean, d) →
      Does (.rcRead ag ⟨a, 4⟩) s fun t => t = { s with bus := { resp := .ok, data := bitsOf d (o % 8 * 8) 32 } }))

/-- IRQ_STAT_WRITE and KEY_WRITE. A write of IRQ_STAT clears each bit of IRQ_RAW whose written bit is 1 and leaves the
others (R50). While the page is owned only the owner's write of KEY moves LOCK, and the value 0x4F50454E opens it, any
other closes it; a write by another agent leaves LOCK, sets LOCK_REFUSED and is logged (R53). -/
def Obligations.statusAndKeyWrites : Prop :=
  (∀ (ag : Agent) (pg : BitVec 16) (v : Word) (s : State), hasHeader pg.toNat = true → s.reaches ag = true →
    Does (.irqStatWrite ag pg v) s fun t =>
      (∀ b : Fin 32, t.flag pg.toNat (irqBit b) = (s.flag pg.toNat (irqBit b) && !v.getLsb b)) ∧
      s.onlyFields t ((List.range 32).map fun b => (pg.toNat, irqBit b, 0)) ∧ t.body = s.body ∧ t.logQ = s.logQ) ∧
  (∀ (ag : Agent) (pg : BitVec 16) (v : Word) (s : State), hasHeader pg.toNat = true → s.reaches ag = true →
    (s.flag pg.toNat Hdr.CLAIMED = false ∨ s.rd pg.toNat Hdr.OWN_AGENT = ag) →
    Does (.keyWrite ag pg v) s fun t => t.lockOpen pg.toNat = decide (v = 0x4F50454E) ∧
      s.onlyFields t [(pg.toNat, Hdr.LOCK_OPEN, 0)] ∧ t.body = s.body ∧ t.logQ = s.logQ) ∧
  (∀ (ag : Agent) (pg : BitVec 16) (v : Word) (s : State), hasHeader pg.toNat = true → s.reaches ag = true →
    s.flag pg.toNat Hdr.CLAIMED = true → s.rd pg.toNat Hdr.OWN_AGENT ≠ ag →
    Does (.keyWrite ag pg v) s fun t => t.lockOpen pg.toNat = s.lockOpen pg.toNat ∧
      t.flag pg.toNat Hdr.LOCK_REFUSED = true ∧ s.enters t pg.toNat 0x02 Sev.info ag 0x02C ∧ t.body = s.body ∧
      s.onlyFields t ([(pg.toNat, Hdr.LOCK_REFUSED, 0), (pg.toNat, irqBit 2, 0)] ++ logFields pg.toNat))

/-- PAGE_CLAIM (R51). When an agent writes OWNER with CLAIMED = 1 while CLAIMED is 0, the agent becomes the page's owner,
and the agent written into OWN_AGENT is replaced by the writing agent. Nothing but the OWNER register changes. -/
def Obligations.pageClaim : Prop :=
  ∀ (ag : Agent) (pg : BitVec 16) (v : Word) (s : State), hasHeader pg.toNat = true → s.reaches ag = true →
    s.flag pg.toNat Hdr.CLAIMED = false →
    Does (.pageClaim ag pg v) s fun t =>
      t.flag pg.toNat Hdr.CLAIMED = true ∧ t.rd pg.toNat Hdr.OWN_AGENT = ag ∧
      t.rd pg.toNat Hdr.OWN_FEATURE = bitsOf v.toNat 8 8 ∧ t.body = s.body ∧ t.logQ = s.logQ ∧
      s.onlyFields t [(pg.toNat, Hdr.OWN_AGENT, 0), (pg.toNat, Hdr.OWN_FEATURE, 0), (pg.toNat, Hdr.CLAIMED, 0)]

/-- PAGE_RELEASE and PAGE_CLAIM under R52. A write of OWNER by an agent that is not the owner, while CLAIMED is 1, has no
effect; the page sets CLAIM_REFUSED and logs the refusal, and the entry names the owner. The owner releases the page by
writing CLAIMED = 0, and releasing closes LOCK. -/
def Obligations.pageOwnership : Prop :=
  (∀ (ag : Agent) (pg : BitVec 16) (v : Word) (s : State) (c : Instr), hasHeader pg.toNat = true → s.reaches ag = true →
    s.flag pg.toNat Hdr.CLAIMED = true → s.rd pg.toNat Hdr.OWN_AGENT ≠ ag →
    c = .pageRelease ag pg v ∨ c = .pageClaim ag pg v →
    Does c s fun t => t.flag pg.toNat Hdr.CLAIM_REFUSED = true ∧
      s.enters t pg.toNat 0x01 Sev.info ag
        (claimDetail 0x7FF (s.rd pg.toNat Hdr.OWN_AGENT) (s.rd pg.toNat Hdr.OWN_FEATURE)) ∧
      t.body = s.body ∧
      s.onlyFields t ([(pg.toNat, Hdr.CLAIM_REFUSED, 0), (pg.toNat, irqBit 1, 0)] ++ logFields pg.toNat)) ∧
  (∀ (ag : Agent) (pg : BitVec 16) (v : Word) (s : State), hasHeader pg.toNat = true → s.reaches ag = true →
    s.flag pg.toNat Hdr.CLAIMED = true → s.rd pg.toNat Hdr.OWN_AGENT = ag →
    Does (.pageRelease ag pg v) s fun t =>
      t.flag pg.toNat Hdr.CLAIMED = false ∧ t.lockOpen pg.toNat = false ∧ t.body = s.body ∧ t.logQ = s.logQ ∧
      s.onlyFields t [(pg.toNat, Hdr.OWN_AGENT, 0), (pg.toNat, Hdr.OWN_FEATURE, 0), (pg.toNat, Hdr.CLAIMED, 0),
        (pg.toNat, Hdr.LOCK_OPEN, 0)])

/-- VOTE_WRITE, PROFILE_REQUEST and PROFILE_CHANGE. A write of SLOT by agent a changes the vote of a alone in the vote word
of the page's domain (R54); on a page of the always-on domain it changes nothing. A write that changes PROFILE_REQ of a block
with a profile of its own is a request: PEND_VALID of its Waybook entry reads 1, or 0 for the profile already in force, and
GEN passes to the next even value (R32, R48); one that leaves it as it is changes nothing. A change of a region to THASOL is
refused while a staging of it runs or is asked for, a switch waits, a partial load addresses it, or a SWITCH milestone of it
is armed: the lowest cause is logged with the profile, and PROFILE_REQ keeps its value, the model's reading (R36, log entry
76). A page without a profile of its own ignores a request. At the first bucket of a lay-by, or the turn boundary after a turn
without one, the waiting profile takes effect (R32); at any other moment, and for an entry that waits for none, PROFILE_CHANGE
changes nothing.
SRST, on the page of a region that runs, gives every flip-flop of the region the INIT of the live context, whatever its RSEL
holds, and touches no configuration, block memory or bank; while the region's clock does not run it waits for the next edge
(R144). SRST of a packer drops what it holds (R279). On an engine, a shallot, a lane group, a DDR4 channel, the network or
the PCIe block it drops what the block holds on its way, and on any other page it changes nothing: the model's choice (log
entry 49). -/
def Obligations.votesSoftResetAndProfiles : Prop :=
  (∀ (ag : Agent) (pg : BitVec 16) (v : Word) (e : Nat) (s : State), hasHeader pg.toNat = true → s.reaches ag = true →
    entryOfPage pg.toNat = some e →
    (domainOf e ≠ alwaysOn → Does (.voteWrite ag pg v) s fun t =>
      (∀ b : Fin 8, t.vote (domainOf e) b =
        if b = ag then bitsOf v.toNat (2 * ag.val) 2 else s.vote (domainOf e) b) ∧
      t.body = ({ s with doms := t.doms, gates := t.gates } : State).body ∧ t.logQ = s.logQ) ∧
    (domainOf e = alwaysOn → Does (.voteWrite ag pg v) s fun t => t = { s with bus := { resp := .ok, data := 0 } })) ∧
  (∀ (ag : Agent) (pg : BitVec 16) (p : BitVec 2) (e : Nat) (s : State), hasHeader pg.toNat = true →
    s.reaches ag = true → entryOfPage pg.toNat = some e → holdsProfile e = true →
    s.rd pg.toNat Hdr.PROFILE_REQ ≠ p.toNat →
    (p.toNat = Prof.thasol → typeOf e = 0x20 → s.thasolWhy (e - 44) = none) →
    Does (.profileRequest ag pg p) s fun t => t.rd pg.toNat Hdr.PROFILE_REQ = p.toNat ∧
      t.profilePend e = p.toNat ∧ t.pendValid e = decide (p.toNat ≠ s.profile e) ∧ t.profile e = s.profile e ∧
      t.rd 0 Wbh.GEN = (s.rd 0 Wbh.GEN + 2) % 2 ^ 32 ∧ t.body = s.body ∧ t.logQ = s.logQ ∧
      s.onlyFields t [(pg.toNat, Hdr.PROFILE_REQ, 0), (0, Wbe.PROFILE_PEND, e), (0, Wbe.PEND_VALID, e),
        (0, Wbh.GEN, 0)]) ∧
  (∀ (ag : Agent) (pg : BitVec 16) (p : BitVec 2) (e : Nat) (s : State), hasHeader pg.toNat = true →
    s.reaches ag = true → entryOfPage pg.toNat = some e →
    (holdsProfile e = true → s.rd pg.toNat Hdr.PROFILE_REQ = p.toNat → Does (.profileRequest ag pg p) s fun t =>
      t = { s with bus := { resp := .ok, data := 0 } }) ∧
    (holdsProfile e = false → Does (.profileRequest ag pg p) s fun t =>
      t.flag pg.toNat Hdr.WRITE_IGNORED = (s.flag pg.toNat Hdr.WRITE_IGNORED || decide (p.toNat ≠ 0)) ∧
      t.body = s.body ∧ t.logQ = s.logQ ∧ s.onlyFields t [(pg.toNat, Hdr.WRITE_IGNORED, 0)])) ∧
  (∀ (ag : Agent) (i : Fin 40) (s : State), s.reaches ag = true → s.rd (Pg.region i) Hdr.PROFILE_REQ ≠ Prof.thasol →
    let g := s.rg i
    let stages := g.staging.isSome = true ∨ g.stgNext.isSome = true ∨ g.stgReqs ≠ []
    let loads := s.streamOpen = true ∧ s.ldFull = false ∧ s.addresses i = true
    let armed := ∃ e, e < 256 ∧ s.msArmed e = true ∧ s.me e MsE.ACTION = 2 ∧ s.me e MsE.TARGET = i.val
    ∀ why, (why = 0 ∧ stages) ∨ (why = 1 ∧ ¬ stages ∧ g.swReqs ≠ []) ∨ (why = 2 ∧ ¬ stages ∧ g.swReqs = [] ∧ loads) ∨
        (why = 3 ∧ ¬ stages ∧ g.swReqs = [] ∧ ¬ loads ∧ armed) →
      Does (.profileRequest ag (BitVec.ofNat 16 (Pg.region i)) 3) s fun t =>
        s.enters t (Pg.region i) 0x07 Sev.info ag (Prof.thasol + why * 4) ∧ t.body = s.body ∧
        s.onlyFields t (logFields (Pg.region i))) ∧
  (∀ (e : Fin 354) (s : State),
    (s.quietPoint = true → holdsProfile e = true → s.pendValid e = true → Does (.profileChange e) s fun t =>
      t.profile e = s.profilePend e % 4 ∧ t.pendValid e = false ∧ t.rd 0 Wbh.GEN = (s.rd 0 Wbh.GEN + 2) % 2 ^ 32 ∧
      t.body = s.body) ∧
    (s.quietPoint = false ∨ s.wb e Wbe.PEND_VALID = 0 → Does (.profileChange e) s fun t => t = s)) ∧
  (∀ (ag : Agent) (i : Fin 40) (s : State), s.reaches ag = true →
    (s.regionRuns i = true → Does (.srst ag (BitVec.ofNat 16 (Pg.region i))) s fun t => s.takesInit t i ∧
      t.ff = (s.resetFfs i).ff ∧ t = { s with bus := { resp := .ok, data := 0 }, ff := t.ff }) ∧
    (s.regionRuns i = false → Does (.srst ag (BitVec.ofNat 16 (Pg.region i))) s fun t =>
      t.rg i = { s.rg i with srst := true } ∧ t = { s with bus := { resp := .ok, data := 0 }, rgs := t.rgs } ∧
      ∀ j, j ≠ i.val → t.rg j = s.rg j)) ∧
  (∀ (ag : Agent) (i : Fin 40) (s : State), s.reaches ag = true →
    Does (.srst ag (BitVec.ofNat 16 (Pg.packer i))) s fun t =>
      (t.pk i).queue = [] ∧ (t.pk i).banks = [] ∧ (t.pk i).work = none ∧ t.pkRd i Pk.DQ_FILL = 0 ∧
      ((s.pk i).queue = [] → (s.pk i).banks = [] → (s.pk i).work = none → t.pkRd i Pk.DROP_CNT = s.pkRd i Pk.DROP_CNT) ∧
      ((s.pk i).queue ≠ [] → t.flag (Pg.packer i) (irqBit 16) = true ∧ t.pkRd i Pk.EV_DROP = 1 ∧
        t.pkRd i Pk.LAST_WHY = 7) ∧
      t.body = ({ s with packers := t.packers } : State).body) ∧
  (∀ (ag : Agent) (pg : BitVec 16) (e : Nat) (s : State), hasHeader pg.toNat = true → s.reaches ag = true →
    entryOfPage pg.toNat = some e →
    let u : State := { s with bus := { resp := .ok, data := 0 } }
    let k := instOf e
    (typeOf e = 0x30 → Does (.srst ag pg) s fun t => t.te k = { s.te k with
        wait := (if s.teBusy k = true then .none else (s.te k).wait), fifos := (t.te k).fifos,
        loops := [], v := [], acc := [], ctl := [], popped := [], startReq := none, haltReq := false } ∧
      (∀ f, f < 4 → (t.te k).fifo f = {}) ∧ t.body = ({ s with tes := t.tes } : State).body ∧ t.logQ = s.logQ ∧
      (s.teBusy k = true → t.estate k = Es.halted) ∧ (s.teBusy k = false → t.estate k = s.estate k)) ∧
    (typeOf e = 0x31 → Does (.srst ag pg) s fun t => t = { u with shallots := t.shallots } ∧ t.sh k = { s.sh k with
      sets := [], closed := none, results := [], progress := [], out := [], half := none }) ∧
    (typeOf e = 0x40 → Does (.srst ag pg) s fun t => t.txg k = {} ∧ t.txRd k Tx.H_FILL 0 = 0 ∧ t.txRd k Tx.H_FILL 1 = 0 ∧
      t.body = ({ s with txs := t.txs } : State).body ∧ t.logQ = s.logQ) ∧
    (typeOf e = 0x41 → Does (.srst ag pg) s fun t => t = { u with rxs := t.rxs } ∧
      t.rxg k = { s.rxg k with logicals := [], lastTag := [] }) ∧
    (typeOf e = 0x42 → Does (.srst ag pg) s fun t => t = { u with chns := t.chns } ∧ t.ch k = { s.ch k with rings := [] }) ∧
    (typeOf e = 0x44 → Does (.srst ag pg) s fun t => t = { u with usr := { s.usr with reqs := [], done := none } }) ∧
    (typeOf e = 0x43 → Does (.srst ag pg) s fun t =>
      t = { u with mesh := { s.mesh with flight := [], ports := [], lastVc := [], lastIn := [], busy := [] } }) ∧
    (typeOf e ∉ [0x20, 0x32, 0x30, 0x31, 0x40, 0x41, 0x42, 0x43, 0x44] → Does (.srst ag pg) s fun t => t = u))

/-- OWNER_WORD_RELEASE (R59). A write of a claimed owner word by its owner with CLAIMED = 0 releases it: CLAIMED
falls, the owner's agent and feature stay as they read, and the enable of the resource clears in the same cycle: a frequency counter's, a milestone's, a timer's, a pin's. The owner's write with
CLAIMED = 1 has no effect but WRITE_IGNORED where it would change OWN_AGENT or OWN_FEATURE. A write by another agent has
no effect: CLAIM_REFUSED is set, and an entry names the registry index and the owner. A write to a word with CLAIMED = 0
has no effect and sets nothing. -/
def Obligations.ownerWords : Prop :=
  ∀ (ag : Agent) (idx : Fin 2016) (v : Word) (s : State), s.grants ag (Pg.registry idx) →
    Does (.ownerWordRelease ag idx v) s fun t =>
      (s.claimed idx = false → t = { s with bus := { resp := .ok, data := 0 } }) ∧
      (s.claimed idx = true → s.claimAgent idx ≠ ag →
        t.flag (Pg.registry idx) Hdr.CLAIM_REFUSED = true ∧ t.body = s.body ∧
        s.enters t (Pg.registry idx) 0x01 Sev.info ag (claimDetail idx (s.claimAgent idx) (s.claimFeature idx)) ∧
        s.onlyFields t ([(Pg.registry idx, Hdr.CLAIM_REFUSED, 0), (Pg.registry idx, irqBit 1, 0)] ++
          logFields (Pg.registry idx))) ∧
      (s.claimed idx = true → s.claimAgent idx = ag → v.getLsb 16 = true → t.body = s.body ∧ t.logQ = s.logQ ∧
        (t.flag (Pg.registry idx) Hdr.WRITE_IGNORED = (s.flag (Pg.registry idx) Hdr.WRITE_IGNORED ||
          bitsOf v.toNat 0 3 ≠ s.claimAgent idx || bitsOf v.toNat 8 8 ≠ s.claimFeature idx)) ∧
        s.onlyFields t [(Pg.registry idx, Hdr.WRITE_IGNORED, 0)]) ∧
      (s.claimed idx = true → s.claimAgent idx = ag → v.getLsb 16 = false →
        t.claimed idx = false ∧ t.claimAgent idx = s.claimAgent idx ∧ t.claimFeature idx = s.claimFeature idx ∧
        t.logQ = s.logQ ∧
        (∀ f : Fin 16, idx.val = 108 + f.val → t.flag Pg.clocks Clk.FC_EN f = false) ∧
        (∀ e : Fin 256, idx.val = 124 + e.val → t.msArmed e = false) ∧
        (∀ m : Fin 32, idx.val = 380 + m.val → t.tm m Tmr.T_EN = 0) ∧
        (∀ p : Fin 192, idx.val = 828 + p.val → t.rd (Pg.gio (p.val / 24)) Gio.EN (p.val % 24) = 0) ∧
        (idx.val < 124 ∨ 380 ≤ idx.val → ∀ j : Fin 2016, j ≠ idx → t.claimed j = s.claimed j))

/-- MAILBOX_RESPONSE, MAILBOX_TIMEOUT, BAD_OPCODE and WATCHDOG_EXPIRY. A response sets DONE, clears BUSY and stands in the
response buffer. The expiry of TMO sets TIMEOUT, clears BUSY and marks the command cancelled, behind those cancelled before
it; the response of the first cancelled command that has one is then not placed but logged LATE_RESPONSE (R63). A command
whose opcode the processor does not know is answered BAD_OPCODE with its tag (R489, Table 02.10). A processor that restarts
ends its running commands ABORTED with their tags: DONE and ABORTED are set and BUSY is cleared (R26, R62); a patch whose
hash is not the one SCP keeps is dropped, the model's choice (log entry 148). A channel with nothing of the kind to do is
left as it is. -/
def Obligations.mailboxes : Prop :=
  (∀ (p : Fin 4) (c : Fin 3) (m : MailCmd) (ws : List Nat) (s : State), (s.chan (chanKey p c)).run = some m →
    m.resp = some ws → ws.length ≤ 64 → (∀ x ∈ (s.chan (chanKey p c)).cancelled, x.resp = none) →
    Does (.mailboxResponse p c) s fun t => t.flag (Pg.mailbox p) Mbx.DONE c = true ∧
      t.flag (Pg.mailbox p) Mbx.BUSY c = false ∧ (t.chan (chanKey p c)).run = none ∧
      ∀ k, k < ws.length → t.rd (Pg.mailbox p) (respBuf c) k = ws.getD k 0 % 2 ^ 32) ∧
  (∀ (p : Fin 4) (c : Fin 3) (m : MailCmd) (ws : List Nat) (s : State),
    (s.chan (chanKey p c)).cancelled.find? (fun x => x.resp.isSome) = some m →
    m.resp = some ws → Does (.mailboxResponse p c) s fun t =>
      s.enters t (Pg.mailbox p) 0x05 Sev.info Ag.hlp
        (bitsOf (ws.getD 0 0) 24 8 + bitsOf (ws.getD 0 0) 0 16 * 2 ^ 8 + c * 2 ^ 24) ∧
      (p.val ≠ 2 ∨ s.sec.restartAfter ≠ some c.val → t.chan (chanKey p c) = { s.chan (chanKey p c) with
          cancelled := (s.chan (chanKey p c)).cancelled.erase m } ∧
        s.onlyFields t (logFields (Pg.mailbox p)))) ∧
  (∀ (p : Fin 4) (c : Fin 3) (s : State), (∀ x ∈ (s.chan (chanKey p c)).cancelled, x.resp = none) →
    (s.chan (chanKey p c)).run.bind MailCmd.resp = none → Does (.mailboxResponse p c) s fun t => t = s) ∧
  (∀ (p : Fin 4) (c : Fin 3) (m : MailCmd) (s : State), (s.chan (chanKey p c)).run = some m →
    Does (.mailboxTimeout p c) s fun t => t.flag (Pg.mailbox p) Mbx.TIMEOUT c = true ∧
      t.flag (Pg.mailbox p) Mbx.BUSY c = false ∧ t.chan (chanKey p c) = ⟨none, (s.chan (chanKey p c)).cancelled ++ [m]⟩ ∧
      t.body = ({ s with chans := t.chans } : State).body ∧
      t.logQ = s.logQ ∧ s.onlyFields t [(Pg.mailbox p, Mbx.TIMEOUT, c), (Pg.mailbox p, Mbx.BUSY, c)]) ∧
  (∀ (p : Fin 4) (c : Fin 3) (s : State), (s.chan (chanKey p c)).run = none →
    (Does (.mailboxTimeout p c) s fun t => t = s) ∧ Does (.badOpcode p c) s fun t => t = s) ∧
  (∀ (p : Fin 4) (c : Fin 3) (m : MailCmd) (s : State), (s.chan (chanKey p c)).run = some m → m.resp = none →
    ((opcodesOf p).contains (m.words.getD 0 0 % 2 ^ 16) = false → Does (.badOpcode p c) s fun t =>
      (t.chan (chanKey p c)).run = some { m with resp := some [respHead Res.badOpcode 0 m.tag] } ∧
      t = { s with chans := t.chans }) ∧
    ((opcodesOf p).contains (m.words.getD 0 0 % 2 ^ 16) = true → Does (.badOpcode p c) s fun t => t = s)) ∧
  (∀ (p : Fin 4) (s : State), Does (.watchdogExpiry p) s fun t =>
    s.enters t (Pg.mailbox p) 0x06 Sev.degraded Ag.hlp (p + 1) ∧
    t.body = ({ s with chans := t.chans, sec := t.sec } : State).body ∧
    (let n := mget 0 s.sec.patchLen p
     let bytes := ((List.range (ceilDiv n 4)).flatMap fun k => leBytes (mget 0 s.sec.patches (8192 * p.val + k))).take n
     (n = 0 ∨ beNat (sha256 bytes) = mget 0 s.sec.patchHash p → t.sec = s.sec) ∧
     (n ≠ 0 → beNat (sha256 bytes) ≠ mget 0 s.sec.patchHash p → mget 0 t.sec.patchLen p = 0 ∧
       ∀ k, k < 8192 → mget 0 t.sec.patches (8192 * p.val + k) = 0)) ∧
    ∀ (c : Fin 3), ((s.chan (chanKey p c)).run = none → t.chan (chanKey p c) = {}) ∧
      ∀ m : MailCmd, (s.chan (chanKey p c)).run = some m →
      t.flag (Pg.mailbox p) Mbx.DONE c = true ∧ t.flag (Pg.mailbox p) Mbx.ABORTED c = true ∧
      t.flag (Pg.mailbox p) Mbx.BUSY c = false ∧ t.chan (chanKey p c) = {} ∧
      t.rd (Pg.mailbox p) (respBuf c) 0 = respHead Res.aborted 0 m.tag % 2 ^ 32)

/-- LOG_ENTRY_WRITE. The log takes the entry at the front of its queue: the entry stands whole at LOG_WR, which moves on
by one modulo 1,024, with the next sequence number, which passes from 0xFFFF to 1; the page of the entry shows that number
and the entry's place (R65, Table 02.7). While the log holds 1,024 unread entries LOG_RD moves on by one and LOG_LOST counts
(R66); otherwise LOG_FILL grows by one (R519), and reaching LOG_THRESH latches interrupt 16. With no entry in the queue
nothing happens. -/
def Obligations.logTakesEntry : Prop :=
  (∀ s : State, s.logQ = [] → Does .logEntryWrite s fun t => t = s) ∧
  ∀ (r : LogRec) (q : List LogRec) (s : State), s.logQ = r :: q → hasHeader r.page = true →
    s.rd Pg.log Log.LOG_WR < 1024 → s.rd Pg.log Log.LOG_FILL ≤ 1024 →
    Does .logEntryWrite s fun t =>
      t.logQ = q ∧ t.rd Pg.log Log.LOG_WR = (s.rd Pg.log Log.LOG_WR + 1) % 1024 ∧
      (let k := s.rd Pg.log Log.LOG_WR
       let seq := s.rd Pg.log Log.LOG_SEQ % 0xFFFF + 1
       t.rd Pg.log Log.LOG_SEQ = seq ∧ t.rd Pg.entries Lge.SEQ k = seq ∧ t.rd r.page Hdr.SEQ = seq ∧
       t.rd Pg.entries Lge.CODE k = r.code % 2 ^ 8 ∧ t.rd Pg.entries Lge.SEVERITY k = r.sev % 2 ^ Lge.SEVERITY.width ∧
       t.rd Pg.entries Lge.AGENT k = r.agent % 2 ^ 3 ∧ t.rd Pg.entries Lge.PRELOCK k = bit r.prelock ∧
       t.rd Pg.entries Lge.VALID k = 1 ∧ t.rd Pg.entries Lge.PAGE k = r.page % 2 ^ 16 ∧
       t.rd Pg.entries Lge.BUCKET k = r.bucket % 2 ^ 16 ∧ t.rd Pg.entries Lge.TURN k = r.turn % 2 ^ 32 ∧
       t.rd Pg.entries Lge.DETAIL k = r.detail % 2 ^ 32 ∧ t.rd r.page Hdr.INDEX = k) ∧
      (s.rd Pg.log Log.LOG_FILL = 1024 → t.rd Pg.log Log.LOG_RD = (s.rd Pg.log Log.LOG_RD + 1) % 1024 ∧
        t.rd Pg.log Log.LOG_FILL = 1024 ∧
        t.rd Pg.log Log.LOG_LOST = satAdd 32 (s.rd Pg.log Log.LOG_LOST) 1 % 2 ^ 32) ∧
      (s.rd Pg.log Log.LOG_FILL < 1024 → t.rd Pg.log Log.LOG_FILL = s.rd Pg.log Log.LOG_FILL + 1 ∧
        t.rd Pg.log Log.LOG_RD = s.rd Pg.log Log.LOG_RD ∧ t.rd Pg.log Log.LOG_LOST = s.rd Pg.log Log.LOG_LOST ∧
        (s.rd Pg.log Log.LOG_FILL + 1 = s.rd Pg.log Log.LOG_THRESH → t.flag Pg.log (irqBit 16) = true)) ∧
      t.body = s.body

/-- LOG_RD_WRITE (R519). A software write of LOG_RD that takes effect sets LOG_FILL to (LOG_WR − the new LOG_RD) mod 1,024;
a write of LOG_RD equal to LOG_WR therefore leaves LOG_FILL at 0, also when the log was full. Nothing else changes. -/
def Obligations.logReadPointer : Prop :=
  ∀ (ag : Agent) (v : Word) (s : State), s.grants ag Pg.log → s.rd Pg.log Log.LOG_WR < 1024 →
    Does (.logRdWrite ag v) s fun t => t.rd Pg.log Log.LOG_RD = v.toNat % 1024 ∧
      ((t.rd Pg.log Log.LOG_FILL : Int) = ((s.rd Pg.log Log.LOG_WR : Int) - (v.toNat : Int)) % 1024) ∧
      (v.toNat % 1024 = s.rd Pg.log Log.LOG_WR → t.rd Pg.log Log.LOG_FILL = 0) ∧ t.body = s.body ∧ t.logQ = s.logQ ∧
      s.onlyFields t [(Pg.log, Log.LOG_RD, 0), (Pg.log, Log.LOG_FILL, 0)]

/-! ### Cold start (chapters 07, 16 and 17) -/

/-- COLD_START_RELEASE and START_DELAY_END. In another phase than RESET, cold-start release changes nothing. In phase RESET it samples the straps (R190) and begins phase
DELAY; SCP draws the nonce and is READY (R483), or enters TRNG_FAIL and logs it; CFG_MODE 3 and above logs its number. The
values of the nonce are free. The end of the start delay, in phase DELAY, begins phase PLL, and a timing port whose TMG_CK toggles leaves
NO_CLOCK (R105).
SELFTEST_END (R468). At the end of self-test every entry that failed as a whole is RETIRED; with QUIESCE_N high phase
LOAD begins and the loader is READY, or CFG_ERR is set too where no region is usable; with QUIESCE_N low start-up waits (the model's reading, log entry 62). That the build
of the Waybook changes neither GEN nor the log is the model's reading too (log entry 53). In another phase, or while start-up waits, nothing happens. -/
def Obligations.coldStartAndSelftest : Prop :=
  (∀ (m : BitVec 3) (d : BitVec 6) (ls : Bool) (c : BitVec 4) (ok : Bool) (s : State), s.rd Pg.loader Ld.PHASE = 0 →
    Does (.coldStartRelease m d ls c ok) s fun t =>
      t.rd 0 Wbh.CFG_MODE = m.toNat ∧ t.rd 0 Wbh.DEV_ID = d.toNat ∧ t.rd 0 Wbh.LOADSTATE = bit ls ∧
      t.rd 0 Wbh.CSD = c.toNat ∧ t.rd Pg.loader Ld.PHASE = 1 ∧ t.cycles = 0 ∧
      (3 ≤ m.toNat → s.enters t Pg.loader 0x28 Sev.info Ag.hlp m.toNat) ∧
      (ok = true → t.scRd Scp.SCP_STATE = 1 ∧ t.scRd Scp.CTR_LAST = 0) ∧
      (ok = false → t.scRd Scp.SCP_STATE = 2 ∧ t.flag (Pg.mailbox 2) (irqBit 19) = true ∧
        (m.toNat < 3 → s.enters t (Pg.mailbox 2) 0x23 Sev.fatal Ag.scp 0)) ∧
      t.body = ({ s with cycles := 0, fresh := t.fresh, usr := { s.usr with perst := false } } : State).body) ∧
  (∀ (m : BitVec 3) (d : BitVec 6) (ls : Bool) (c : BitVec 4) (ok : Bool) (s : State), s.rd Pg.loader Ld.PHASE ≠ 0 →
    Does (.coldStartRelease m d ls c ok) s fun t => t = s) ∧
  (∀ s : State, s.rd Pg.loader Ld.PHASE ≠ 1 → Does .startDelayEnd s fun t => t = s) ∧
  (∀ (failed : List (Fin 354)) (faults : List StartupFault) (s : State),
    s.rd Pg.loader Ld.PHASE ≠ 3 ∨ s.usr.held = true → Does (.selftestEnd failed faults) s fun t => t = s) ∧
  (∀ s : State, s.rd Pg.loader Ld.PHASE = 1 → Does .startDelayEnd s fun t =>
      t.rd Pg.loader Ld.PHASE = 2 ∧ t.ck.delayOver = true ∧
      (s.tp.ck = true → s.tpState = 0 → t.tpState = 1) ∧ (s.tp.ck = false ∨ s.tpState ≠ 0 → t.tpState = s.tpState) ∧
      t.body = ({ s with ck := t.ck, plls := t.plls } : State).body ∧ t.logQ = s.logQ) ∧
  (∀ (failed : List (Fin 354)) (faults : List StartupFault) (s : State), s.rd Pg.loader Ld.PHASE = 3 → s.usr.held = false →
    Does (.selftestEnd failed faults) s fun t =>
      (∀ e ∈ failed, t.blk e = St.retired) ∧ t.rd 0 Wbh.GEN = s.rd 0 Wbh.GEN % 2 ^ 32 ∧ t.logQ = s.logQ ∧
      (s.usr.quiet = false → t.rd Pg.loader Ld.PHASE = 4 ∧ t.rd Pg.loader Ld.READY = 1 ∧ t.usr.held = false) ∧
      ((∀ i : Fin 40, t.usable (En.region i) = false) → t.rd Pg.loader Ld.CFG_ERR = 1) ∧
      (s.usr.quiet = true → t.usr.held = true ∧ t.rd Pg.loader Ld.PHASE = 3))

/-- BROWN_OUT, PERST_FALL and PERST_RISE. A brown-out takes the device to phase RESET and loses every memory and every
queue of its own (R503); what eFuse holds stays: the policy, key slots 1 to 3 and the committed repair records (R482,
R491, R457). A fall of PERST_N in service sets PERST_SEEN, is logged, and resets the endpoint: the link is down, and no
user access and no MSI-X entry is left (R504); before cold-start release, or with PERST_N low already, it does nothing. A rise lets the link train again. What lies outside the device (host
memory) stays, and what of the endpoint resets, are the model's readings (log entries 64 and 71). -/
def Obligations.brownOutAndPerst : Prop :=
  (∀ s : State, Does .brownOut s fun t =>
    t.body = ({ State.reset with pending := s.pending, fresh := s.fresh, keys := t.keys, repairs := t.repairs
                                 sec := { fused := s.sec.fused }, tp := { ck := s.tp.ck }, usr := t.usr } : State).body ∧
    t.usr = { hostMem := s.usr.hostMem, quiet := s.usr.quiet, perst := s.usr.perst } ∧
    t.wkRd Wk.EFUSE_FREE = s.wkRd Wk.EFUSE_FREE % 2 ^ Wk.EFUSE_FREE.width ∧
    t.rd Pg.loader Ld.PHASE = 0 ∧ t.cycles = 0 ∧ t.logQ = [] ∧ t.cfg = [] ∧ t.latch = [] ∧ t.ff = [] ∧ t.sbank = [] ∧
    t.bm = [] ∧ t.rb = [] ∧ t.ddr = [] ∧ t.dm = [] ∧ t.im = [] ∧ t.gold = [] ∧ t.arows = [] ∧ t.chans = [] ∧
    t.scRd Scp.POLICY = s.scRd Scp.POLICY % 2 ^ 4 ∧ t.repairs = s.repairs.filter (fun r => r.committed) ∧
    t.sec.fused = s.sec.fused ∧ t.usr.hostMem = s.usr.hostMem ∧ t.tp.ck = s.tp.ck ∧
    (∀ k : Fin 8, (1 ≤ k.val ∧ k.val ≤ 3 → mget 0 t.keys k = mget 0 s.keys k ∧
        t.scRd Scp.VALID k = s.scRd Scp.VALID k % 2 ∧ t.scRd Scp.USE k = s.scRd Scp.USE k % 2 ^ 3) ∧
      (4 ≤ k.val → mget 0 t.keys k = 0 ∧ t.scRd Scp.VALID k = 0))) ∧
  (∀ s : State, s.rd Pg.loader Ld.PHASE ≠ 0 → s.usr.perst = false → Does .perstFall s fun t =>
    t.flag Pg.pcie Pcie.PERST_SEEN = true ∧ t.flag Pg.pcie (irqBit 18) = true ∧
    s.enters t Pg.pcie 0x21 Sev.info Ag.hlp 0 ∧ t.peRd Pcie.LINK_SPEED = 0 ∧ t.usr.perst = true ∧ t.usr.reqs = [] ∧
    t.usr.done = none ∧ t.usr.msix = [] ∧ t.rd Pg.loader Ld.PHASE = s.rd Pg.loader Ld.PHASE) ∧
  (∀ s : State, s.rd Pg.loader Ld.PHASE = 0 ∨ s.usr.perst = true → Does .perstFall s fun t => t = s) ∧
  (∀ s : State, Does .perstRise s fun t => t = { s with usr := { s.usr with perst := false } })

/-! ### Machine time (chapter 03) -/

/-- TIMING_WORD, TMG_CK_START, TMG_CK_STOP and HOLDOVER_TIMEOUT. While TMG_CK stands still, and before the port hunts for words, a word does
nothing. A word the port sends itself has a right CHK (R68, R520).
While LOCKED a word whose CHK does not match counts in CNT_CHECK and nothing of it acts (R69), and the sixteenth in a row
sends the port to HOLDOVER; a good word whose TM disagrees with the port's own count is a marker error, counted and logged,
and the third turn in a row with one loses lock (R71). In WORD_HUNT a bad word moves the alignment and the 64th good one in a row begins TURN_HUNT; in
TURN_HUNT the third good marker with two equal spacings that TURN_LEN admits locks: the marker's bucket is bucket 0, and
TURN_LEN_USED is the spacing (R70, R74). TMG_CK starting takes the port out of NO_CLOCK once the start delay is over, and
TMG_CK stopping takes a LOCKED port to HOLDOVER (R70). HOLD_MAX buckets in HOLDOVER lose lock: TURN, BUCKET and TIME64
stop, LOCK_LOST is latched, counted and logged, and the milestone scheduler stops (R73). -/
def Obligations.timingPortStates : Prop :=
  (∀ (tm : Bool) (cmd : BitVec 8) (arg : BitVec 16),
    chkOf (goodWord tm cmd.toNat arg.toNat) = bitsOf (goodWord tm cmd.toNat arg.toNat) 0 7 ∧
    goodWord tm cmd.toNat arg.toNat < 2 ^ 32 ∧ bitsOf (goodWord tm cmd.toNat arg.toNat) 23 8 = cmd.toNat ∧
    bitsOf (goodWord tm cmd.toNat arg.toNat) 7 16 = arg.toNat ∧ bitOf (goodWord tm cmd.toNat arg.toNat) 31 = bit tm) ∧
  (∀ (w : Word) (s : State), s.tp.ck = false ∨ s.tpState < 2 ∨ 5 < s.tpState → Does (.timingWord w) s fun t => t = s) ∧
  (∀ (w : Word) (s : State), s.tp.ck = true → s.tpState = 4 → chkOf w.toNat = bitsOf w.toNat 0 7 →
    bitsOf w.toNat 23 8 = 0 → w.getLsb 31 ≠ decide (s.bucket = 0) → Does (.timingWord w) s fun t =>
      t.tpRd Tp.CNT_MARKER = satAdd 16 (s.tpRd Tp.CNT_MARKER) 1 % 2 ^ 16 ∧ t.flag Pg.timing (irqBit 19) = true ∧
      s.enters t Pg.timing 0x23 Sev.corrected Ag.hlp (if w.getLsb 31 then s.bucket else 0xFFFF) ∧
      t.tpState = (if s.tp.errNow = false ∧ 3 ≤ s.tp.errTurns + 1 then 3 else 4) ∧ t.turn = s.turn ∧ t.bucket = s.bucket) ∧
  (∀ (w : Word) (s : State), s.tp.ck = true → s.tpState = 4 → chkOf w.toNat ≠ bitsOf w.toNat 0 7 →
    Does (.timingWord w) s fun t =>
      t.tpRd Tp.CNT_CHECK = satAdd 16 (s.tpRd Tp.CNT_CHECK) 1 % 2 ^ 16 ∧
      t.turn = s.turn ∧ t.bucket = s.bucket ∧ t.time64 = s.time64 ∧
      t.tpState = (if 16 ≤ s.tp.failRun + 1 then 5 else 4) ∧
      (16 ≤ s.tp.failRun + 1 → t.flag Pg.timing (irqBit 18) = true ∧ s.enters t Pg.timing 0x21 Sev.corrected Ag.hlp 0) ∧
      (s.tp.failRun + 1 < 16 → t.tp = { s.tp with failRun := s.tp.failRun + 1 } ∧ t.logQ = s.logQ) ∧
      t.body = ({ s with tp := t.tp } : State).body) ∧
  (∀ (w : Word) (s : State), s.tp.ck = true → s.tpState = 2 → Does (.timingWord w) s fun t =>
      (chkOf w.toNat ≠ bitsOf w.toNat 0 7 → t = { s with tp := { s.tp with align := (s.tp.align + 1) % 32, good := 0 } }) ∧
      (chkOf w.toNat = bitsOf w.toNat 0 7 → s.tp.good + 1 < 64 →
        t = { s with tp := { s.tp with good := s.tp.good + 1 } }) ∧
      (chkOf w.toNat = bitsOf w.toNat 0 7 → 64 ≤ s.tp.good + 1 → t.tpState = 3 ∧ s.onlyFields t [(Pg.timing, Tp.STATE, 0)])) ∧
  (∀ (w : Word) (k : Nat) (s : State), s.tp.ck = true → s.tpState = 3 → chkOf w.toNat = bitsOf w.toNat 0 7 →
    w.getLsb 31 = true → s.tp.sinceMark = some k → s.tp.spacing = some (k + 1) → k + 1 < 65536 →
    s.tpRd Tp.TURN_LEN = 0 ∨ s.tpRd Tp.TURN_LEN = k + 1 →
    Does (.timingWord w) s fun t => t.tpState = 4 ∧ t.bucket = 0 ∧ t.turnLen = k + 1 ∧
      t.flag Pg.timing (irqBit 16) = true ∧ t.tp.everLocked = true) ∧
  (∀ s : State, Does .tmgCkStart s fun t => t.tp = { s.tp with ck := true } ∧
      t.tpState = if s.tpState = 0 ∧ s.ck.delayOver = true then 1 else s.tpState) ∧
  (∀ s : State, Does .tmgCkStop s fun t => t.tp.ck = false ∧ t.rd (Pg.pll 0) Pll.REF_OK = 0 ∧
      (s.tpState = 4 → t.tpState = 5 ∧ t.flag Pg.timing (irqBit 18) = true ∧
        s.enters t Pg.timing 0x21 Sev.corrected Ag.hlp 0) ∧
      (s.tpState ≠ 4 → t.tpState = s.tpState ∧ t.logQ = s.logQ)) ∧
  (∀ s : State, s.tpState = 5 → min (s.tpRd Tp.HOLD_MAX) 4096 ≤ s.tp.holdBuckets → Does .holdoverTimeout s fun t =>
      t.tpState = 1 ∧ t.turn = s.turn ∧ t.bucket = s.bucket ∧ t.time64 = s.time64 ∧
      t.flag Pg.timing (irqBit 17) = true ∧
      t.tpRd Tp.CNT_LOCKLOSS = satAdd 16 (s.tpRd Tp.CNT_LOCKLOSS) 1 % 2 ^ 16 ∧
      s.enters t Pg.timing 0x22 Sev.degraded Ag.hlp 1 ∧ t.ms.decided = [] ∧ t.ms.issued = [] ∧ t.ms.due = []) ∧
  (∀ s : State, s.tpState ≠ 5 ∨ s.tp.holdBuckets < min (s.tpRd Tp.HOLD_MAX) 4096 → Does .holdoverTimeout s fun t => t = s)

/-- CMD_NOP, TURN_LO, TURN_HI, LAYBY_CANCEL and USER_COMMAND, each a good word received while LOCKED or in HOLDOVER whose TM
agrees with the port's own count. NOP is no command; eight good words in a row that agree end HOLDOVER (R71, R72). Every other
good command is presented on the time bus and recorded (R82). While
TURN_BCAST_EN is 1, TURN_LO stages the low half of a turn number and TURN_HI arms the load of the whole, but only after a
TURN_LO of the same turn, else it is counted CMD_BAD and logged (R83). LAYBY_CANCEL cancels the first lay-by that begins
two or more buckets later (R81). -/
def Obligations.timingCommands : Prop :=
  (∀ (tm : Bool) (arg : BitVec 16) (s : State), s.tp.ck = true → s.tpState = 4 → tm = decide (s.bucket = 0) →
    Does (.cmdNop tm arg) s fun t => t = { s with tp := { s.tp with failRun := 0 } }) ∧
  (∀ (tm : Bool) (arg : BitVec 16) (s : State), s.tp.ck = true → s.tpState = 5 → tm = decide (s.bucket = 0) →
    Does (.cmdNop tm arg) s fun t =>
      (s.tp.holdGood + 1 < 8 → t = { s with tp := { s.tp with holdGood := s.tp.holdGood + 1 } }) ∧
      (8 ≤ s.tp.holdGood + 1 → t.tpState = 4 ∧ s.enters t Pg.timing 0x21 Sev.corrected Ag.hlp 1 ∧ t.turn = s.turn ∧
        t.bucket = s.bucket ∧ t.body = ({ s with tp := t.tp } : State).body)) ∧
  (∀ (tm : Bool) (arg : BitVec 16) (s : State), s.tp.ck = true → s.tpState = 4 ∨ s.tpState = 5 →
    tm = decide (s.bucket = 0) → Does (.turnLo tm arg) s fun t => t.tp.busCmd = 1 ∧ t.tp.busArg = arg.toNat ∧ t.tp.busValid = true ∧
      (s.tpRd Tp.TURN_BCAST_EN = 1 → t.tp.loSeen = true ∧ bitsOf t.tp.bstage 0 16 = arg.toNat) ∧
      (s.tpRd Tp.TURN_BCAST_EN ≠ 1 → t.tp.loSeen = s.tp.loSeen ∧ t.tp.bstage = s.tp.bstage) ∧
      t.body = ({ s with tp := t.tp, ms := t.ms } : State).body ∧ (s.tpState = 4 → t.logQ = s.logQ ∧
      s.onlyFields t [(Pg.timing, Tp.LAST_CMD, 0), (Pg.timing, Tp.LAST_ARG, 0)])) ∧
  (∀ (tm : Bool) (arg : BitVec 16) (s : State), s.tp.ck = true → s.tpState = 4 ∨ s.tpState = 5 →
    tm = decide (s.bucket = 0) → Does (.turnHi tm arg) s fun t => t.tp.busCmd = 2 ∧ t.tp.busArg = arg.toNat ∧ t.tp.busValid = true ∧
      (s.tpRd Tp.TURN_BCAST_EN = 1 → s.tp.loSeen = true → s.tp.bstage < 2 ^ 32 →
        t.tp.loadB = some (arg.toNat * 2 ^ 16 + s.tp.bstage % 2 ^ 16, s.time64) ∧ t.tpRd Tp.LOAD_PEND = 1 ∧
        (s.tpState = 4 → t.logQ = s.logQ)) ∧
      (s.tpRd Tp.TURN_BCAST_EN = 1 → s.tp.loSeen = false → t.tp.loadB = s.tp.loadB ∧
        t.tpRd Tp.CNT_CMD_BAD = satAdd 16 (s.tpRd Tp.CNT_CMD_BAD) 1 % 2 ^ 16 ∧
        s.enters t Pg.timing 0x25 Sev.info Ag.hlp arg.toNat) ∧
      (s.tpRd Tp.TURN_BCAST_EN ≠ 1 → t.tp.loadB = s.tp.loadB ∧ (s.tpState = 4 → t.logQ = s.logQ)) ∧
      t.body = ({ s with tp := t.tp, ms := t.ms } : State).body) ∧
  (∀ (tm : Bool) (arg : BitVec 16) (s : State), s.tp.ck = true → s.tpState = 4 ∨ s.tpState = 5 →
    tm = decide (s.bucket = 0) → Does (.laybyCancel tm arg) s fun t => t.tp.cancels = s.tp.cancels ++ [s.time64 + 2] ∧ t.tp.busCmd = 3 ∧
      t.tp.busArg = arg.toNat ∧ t.tp.busValid = true ∧
      t.body = ({ s with tp := t.tp, ms := t.ms } : State).body ∧ (s.tpState = 4 → t.logQ = s.logQ)) ∧
  (∀ (tm : Bool) (cmd : BitVec 8) (arg : BitVec 16) (s : State), s.tp.ck = true → s.tpState = 4 ∨ s.tpState = 5 →
    tm = decide (s.bucket = 0) → 4 ≤ cmd.toNat →
    Does (.userCommand tm cmd arg) s fun t => t.tpRd Tp.LAST_CMD = cmd.toNat ∧ t.tpRd Tp.LAST_ARG = arg.toNat ∧
      t.tp.busCmd = cmd.toNat ∧ t.tp.busArg = arg.toNat ∧ t.tp.busValid = true ∧
      (s.tpState = 4 → t.tp = { s.tp with failRun := 0, busCmd := cmd.toNat, busArg := arg.toNat, busValid := true } ∧
        t.logQ = s.logQ ∧ s.onlyFields t [(Pg.timing, Tp.LAST_CMD, 0), (Pg.timing, Tp.LAST_ARG, 0)]) ∧
      t.body = ({ s with tp := t.tp, ms := t.ms } : State).body)

/-- BUCKET_BOUNDARY (R75). While the port is LOCKED or in HOLDOVER, BUCKET counts from 0 to TURN_LEN_USED − 1 and returns
to 0, TURN then increments and wraps from 0xFFFFFFFF to 0, and TIME64 increments at every bucket; all three change
together. A TURN_LEN written in the turn takes effect at that boundary, and a TURN_LO of the old turn is forgotten. The
firings issued for the bucket fire in it, and those decided are issued; an entry that a new TURN_LEN disarms takes none of
them away. Event lines raised for the next bucket rise, and slot 0 of the network begins. While the port is in neither state
only the command on the time bus moves on. -/
def Obligations.bucketBoundary : Prop :=
  (∀ s : State, s.timed = true → s.turnLen < 2 ^ 16 → Does .bucketBoundary s fun t =>
    t.time64 = (s.time64 + 1) % 2 ^ 64 ∧
    (s.turnLen ≤ s.bucket + 1 → t.bucket = 0 ∧ t.turn = (s.turn + 1) % 2 ^ 32 ∧ t.tp.loSeen = false ∧
      (s.tp.nextLen = none → t.turnLen = s.turnLen) ∧
      ∀ n, s.tp.nextLen = some n → t.turnLen = n % 2 ^ 16 ∧ t.tp.nextLen = none) ∧
    (s.bucket + 1 < s.turnLen → t.bucket = s.bucket + 1 ∧ t.turn = s.turn ∧ t.turnLen = s.turnLen ∧
      t.tp.loSeen = s.tp.loSeen) ∧
    (s.bucket + 1 < s.turnLen ∨ s.tp.nextLen = none → t.ms.firing = s.ms.issued ∧ t.ms.issued = s.ms.decided) ∧
    t.ms.firing.map (fun f => { f with bound := true }) = s.ms.issued.map (fun f => { f with bound := true }) ∧
    t.ms.issued.map (fun f => { f with bound := true }) = s.ms.decided.map (fun f => { f with bound := true }) ∧
    t.ms.decided = [] ∧ t.ms.acted = [] ∧ t.ms.lines = s.ms.nextLines ∧ t.mesh.slot = 0 ∧ t.tpState = s.tpState) ∧
  (∀ s : State, s.timed = false → Does .bucketBoundary s fun t => t = { s with tp := { s.tp with
    prevCmd := if s.tp.busValid = true then some s.tp.busCmd else none, busValid := false } })

/-- TURN_LOAD, TURN_LOADED, TURN_LEN_WRITE, LAYBY_WRITE and LAYBY_APPLY. A write of TURN_LOAD arms a load with the value
TURN_STAGE holds then (R84); while one is armed a second is ignored (R14). At a marker two or more buckets later TURN takes
the value, TURN_SUSPECT clears and the load is logged; a broadcast load armed for the same marker applies instead, and
SW_LOAD_LOST is set (R84). TURN_LEN is written under LOCK and takes effect at the next marker while the port counts, but a
write of 0 leaves TURN_LEN_USED as it stands (R79). A write of TP_LAYBY takes effect at the next turn boundary, or at once
while no boundary occurs (R80). A load with no marker to take it, a lay-by that no boundary has come for, and a TURN_LEN that
is written as it stands change nothing. -/
def Obligations.turnSettings : Prop :=
  (∀ (ag : Agent) (s : State), s.grants ag Pg.timing → s.tp.loadS = none → Does (.turnLoad ag) s fun t =>
    t.tp = { s.tp with loadS := some (s.tpRd Tp.TURN_STAGE, s.time64) } ∧ t.tpRd Tp.LOAD_PEND = 1 ∧ t.logQ = s.logQ ∧
    t.body = ({ s with tp := t.tp } : State).body ∧ s.onlyFields t [(Pg.timing, Tp.LOAD_PEND, 0)]) ∧
  (∀ (ag : Agent) (s : State), s.grants ag Pg.timing → s.tp.loadS.isSome = true → Does (.turnLoad ag) s fun t =>
    t.flag Pg.timing Hdr.WRITE_IGNORED = true ∧ t.body = s.body ∧ t.logQ = s.logQ ∧
    s.onlyFields t [(Pg.timing, Hdr.WRITE_IGNORED, 0)]) ∧
  (∀ (v a : Nat) (s : State), s.timed = true → s.bucket = 0 → s.tp.loadS = some (v, a) → a + 2 ≤ s.time64 →
    s.tp.loadB = none → Does .turnLoaded s fun t => t.turn = v % 2 ^ 32 ∧ t.tpRd Tp.TURN_SUSPECT = 0 ∧
      t.tp.loadS = none ∧ t.tpRd Tp.LOAD_PEND = 0 ∧ t.flag Pg.timing (irqBit 20) = true ∧
      s.enters t Pg.timing 0x24 Sev.info Ag.hlp (v % 2 ^ 32) ∧ t.bucket = s.bucket ∧ t.time64 = s.time64) ∧
  (∀ (v a w b : Nat) (s : State), s.timed = true → s.bucket = 0 → s.tp.loadS = some (w, b) → b + 2 ≤ s.time64 →
    s.tp.loadB = some (v, a) → a + 2 ≤ s.time64 → Does .turnLoaded s fun t => t.turn = v % 2 ^ 32 ∧
      t.tpRd Tp.SW_LOAD_LOST = 1 ∧ t.tp.loadS = none ∧ t.tp.loadB = none) ∧
  (∀ s : State, s.timed = false ∨ s.bucket ≠ 0 ∨ s.loadAt s.time64 = none → Does .turnLoaded s fun t => t = s) ∧
  (∀ (ag : Agent) (v : BitVec 16) (s : State), s.grants ag Pg.timing → s.tpRd Tp.TURN_LEN = v.toNat →
    Does (.turnLenWrite ag v) s fun t => t = { s with bus := { resp := .ok, data := 0 } }) ∧
  (∀ (ag : Agent) (v : BitVec 16) (s : State), s.grants ag Pg.timing → s.tpRd Tp.TURN_LEN ≠ v.toNat →
    s.lockOpen Pg.timing = true → Does (.turnLenWrite ag v) s fun t =>
      t.tpRd Tp.TURN_LEN = v.toNat ∧ t.turnLen = s.turnLen ∧
      (s.timed = true → t.tp.nextLen = if v.toNat = 0 then none else some v.toNat) ∧
      t.body = ({ s with tp := t.tp } : State).body ∧ s.onlyFields t [(Pg.timing, Tp.TURN_LEN, 0)] ∧ t.logQ = s.logQ) ∧
  (∀ (ag : Agent) (v : BitVec 16) (s : State), s.grants ag Pg.timing → s.tpRd Tp.TURN_LEN ≠ v.toNat →
    s.lockOpen Pg.timing = false → Does (.turnLenWrite ag v) s fun t =>
      t.tpRd Tp.TURN_LEN = s.tpRd Tp.TURN_LEN ∧ t.flag Pg.timing Hdr.LOCK_REFUSED = true ∧
      s.enters t Pg.timing 0x02 Sev.info ag 0x040 ∧ t.body = s.body) ∧
  (∀ (ag : Agent) (v : Word) (s : State), s.grants ag Pg.timing → Does (.laybyWrite ag v) s fun t =>
    t.tpRd Tp.LAYBY_START = bitsOf v.toNat 0 16 ∧ t.tpRd Tp.LAYBY_LEN = bitsOf v.toNat 16 16 ∧
    (s.timed = true → t.tp = { s.tp with layWait := true }) ∧
    (s.timed = false → t.tp.layStart = bitsOf v.toNat 0 16 ∧ t.tp.layLen = bitsOf v.toNat 16 16) ∧
    t.body = ({ s with tp := t.tp } : State).body ∧ t.logQ = s.logQ ∧
    s.onlyFields t [(Pg.timing, Tp.LAYBY_START, 0), (Pg.timing, Tp.LAYBY_LEN, 0)]) ∧
  (∀ s : State, s.tp.layWait = false ∨ (s.timed = true ∧ s.tp.layDue = false) → Does .laybyApply s fun t => t = s) ∧
  (∀ s : State, s.tp.layWait = true → s.timed = false ∨ s.tp.layDue = true → Does .laybyApply s fun t =>
    t.tp.layStart = s.tpRd Tp.LAYBY_START ∧ t.tp.layLen = s.tpRd Tp.LAYBY_LEN ∧ t.tp.layWait = false ∧
    t.tp.layDue = false ∧
    t.body = ({ s with tp := t.tp } : State).body ∧ t.logQ = s.logQ ∧
    s.onlyFields t [(Pg.timing, Tp.IN_LAYBY, 0), (Pg.timing, irqBit 21, 0), (Pg.timing, irqBit 22, 0)])

/-- CFG_DONE_RELEASE, CFG_DONE_SAMPLE, START and GLOBAL_RESET_RELEASE, each of which does nothing before its moment. A
device whose load is complete and whose port
counts releases CFG_DONE in bucket DONE_RELEASE, and samples it in bucket DONE_SAMPLE: the sample is high when this device
and the others have released it. At the first turn boundary after a high sample the device starts: START_TURN takes TURN,
the start is logged, and told as late after a loss of lock, phase RUN begins, and HLP's votes pass to the host (R99, R434). One bucket later the global reset is
released (R144). -/
def Obligations.deviceStart : Prop :=
  (∀ s : State, s.ld.complete = true → s.timed = true → s.bucket = s.doneRelease → Does .cfgDoneRelease s fun t =>
    t = { s with tp := { s.tp with released := true } }) ∧
  (∀ s : State, s.ld.complete = false ∨ s.timed = false ∨ s.bucket ≠ s.doneRelease →
    Does .cfgDoneRelease s fun t => t = s) ∧
  (∀ (low : Bool) (s : State), s.timed = false ∨ s.bucket ≠ s.doneSample → Does (.cfgDoneSample low) s fun t => t = s) ∧
  (∀ (low : Bool) (s : State), s.timed = true → s.bucket = s.doneSample → Does (.cfgDoneSample low) s fun t =>
    t = { s with tp := { s.tp with sampled := if s.tp.released = true ∧ low = false then some s.time64 else none } }) ∧
  (∀ s : State, (∀ a, s.tp.sampled = some a → s.time64 ≤ a) ∨ s.timed = false ∨ s.bucket ≠ 0 ∨ s.tp.started = true ∨
    s.flag Pg.pcie Pcie.QUIESCED = true → Does .start s fun t => t = s) ∧
  (∀ (a : Nat) (s : State), s.tp.sampled = some a → a < s.time64 → s.timed = true → s.bucket = 0 →
    s.tp.started = false → s.flag Pg.pcie Pcie.QUIESCED = false → Does .start s fun t => t.rd Pg.loader Ld.PHASE = 7 ∧ t.ld.late = [] ∧
      (s.ld.late = [] → s.ld.profiles = [] → t.tp.started = true ∧ t.tpRd Tp.START_TURN = s.turn % 2 ^ 32 ∧
        t.flag Pg.timing (irqBit 23) = true ∧ s.enters t Pg.timing 0x26 Sev.info Ag.hlp (s.turn % 2 ^ 32) ∧
        t.tp.startAt = s.time64 ∧ (s.tp.relocked = true → t.tpRd Tp.START_LATE = 1) ∧
        t.pwRd Pwr.HANDOVER = 1 ∧ t.tp.globalReset = s.tp.globalReset ∧
        ∀ d : Fin 270, t.vote d Ag.host = max (s.vote d Ag.host) (s.vote d Ag.cfp) ∧ t.vote d Ag.cfp = 0)) ∧
  (∀ s : State, s.tp.globalReset = false ∨ s.tp.started = false ∨ s.timed = false ∨ s.time64 ≤ s.tp.startAt ∨
    s.flag Pg.pcie Pcie.QUIESCED = true → Does .globalResetRelease s fun t => t = s) ∧
  (∀ s : State, s.tp.globalReset = true → s.tp.started = true → s.timed = true → s.tp.startAt < s.time64 →
    s.flag Pg.pcie Pcie.QUIESCED = false → Does .globalResetRelease s fun t =>
      t.tp = { s.tp with globalReset := false } ∧ t.body = ({ s with tp := t.tp } : State).body ∧ t.logQ = s.logQ ∧
      s.onlyFields t [(Pg.pcie, Pcie.VDP_UP, 0), (Pg.pcie, irqBit 22, 0)])

/-! ### Milestones and timers (chapter 03) -/

/-- MILESTONE_ARM and MILESTONE_DISARM (R86, R87), writes of an entry's first word, with the pin of a PULSE action (R88). Of an entry that is not armed, a write
with ARM = 1 arms it unless a check of R86 fails: it reads ARMED, and the writer claims it. Where a check fails the entry
stays unarmed with the first failing reason in WHY, and the refusal is latched and logged. A write with ARM = 1 of an armed
entry is ignored; a write with ARM = 0 disarms it: its claim and its firings to come go, and those decided already still fire (R90). -/
def Obligations.milestoneArming : Prop :=
  (∀ (ag : Agent) (e : Fin 256) (w : Word) (s : State), s.grants ag (msPage e) → s.msArmed e = false →
    (s.served.msFields e (w.toNat ||| 1)).armRefusal ag e = none → Does (.milestoneArm ag e w) s fun t =>
      t.msArmed e = true ∧ t.me e MsE.ST = 1 ∧ t.me e MsE.WHY = 0 ∧ t.me e MsE.KIND = bitsOf w.toNat 1 3 ∧
      t.me e MsE.SRC = bitsOf w.toNat 8 8 ∧ t.claimed (Reg.milestone e) = true ∧
      t.claimAgent (Reg.milestone e) = ag ∧ t.claimFeature (Reg.milestone e) = 1 ∧
      (s.me e MsE.ACTION = 7 → s.me e MsE.TARGET < 192 → t.claimed (Reg.pin (s.me e MsE.TARGET)) = true ∧
        t.claimAgent (Reg.pin (s.me e MsE.TARGET)) = ag ∧ t.claimFeature (Reg.pin (s.me e MsE.TARGET)) = 2) ∧ t.body = ({ s with ms := t.ms } : State).body ∧ t.logQ = s.logQ ∧
      s.onlyPages t [0x31, 0x32, Pg.registry (Reg.milestone e), Pg.registry (Reg.pin (s.me e MsE.TARGET))]) ∧
  (∀ (ag : Agent) (e : Fin 256) (w : Word) (why : Nat) (s : State), s.grants ag (msPage e) → s.msArmed e = false →
    (s.served.msFields e (w.toNat ||| 1)).armRefusal ag e = some why → Does (.milestoneArm ag e w) s fun t =>
      t.msArmed e = false ∧ t.me e MsE.WHY = why ∧ t.flag Pg.milestones (irqBit 19) = true ∧
      (s.logQ.length < 31 → s.enters t Pg.milestones 0x20 Sev.info ag (e + why * 2 ^ 8)) ∧ t.body = s.body) ∧
  (∀ (ag : Agent) (e : Fin 256) (w : Word) (s : State), s.grants ag (msPage e) → s.msArmed e = true →
    Does (.milestoneArm ag e w) s fun t => t.flag (msPage e) Hdr.WRITE_IGNORED = true ∧ t.body = s.body ∧
      t.logQ = s.logQ ∧ s.onlyFields t [(msPage e, Hdr.WRITE_IGNORED, 0)]) ∧
  (∀ (ag : Agent) (e : Fin 256) (w : Word) (s : State), s.grants ag (msPage e) → s.msArmed e = true →
    Does (.milestoneDisarm ag e w) s fun t => t.msArmed e = false ∧ t.me e MsE.ST = 0 ∧
      t.claimed (Reg.milestone e) = false ∧ t.ms = { s.ms with
        due := s.ms.due.filter (fun f => f.1 ≠ e), decided := s.ms.decided.map (Firing.unbind e)
        issued := s.ms.issued.map (Firing.unbind e), firing := s.ms.firing.map (Firing.unbind e) } ∧
      t.logQ = s.logQ ∧ t.body = ({ s with ms := t.ms } : State).body) ∧
  (∀ (ag : Agent) (e : Fin 256) (w : Word) (s : State), s.grants ag (msPage e) → s.msArmed e = false →
    Does (.milestoneDisarm ag e w) s fun t => t.msArmed e = false ∧ t.me e MsE.KIND = bitsOf w.toNat 1 3 ∧
      t.me e MsE.SRC = bitsOf w.toNat 8 8 ∧ t.me e MsE.ST = s.me e MsE.ST ∧ t.logQ = s.logQ ∧ t.body = s.body)

/-- MILESTONE_EVALUATE and the actions that stay within machine time. The decision at the end of a bucket names, once each
and in ascending order, the armed entries that fire in the bucket after next, as they stand: an ABS entry whose target that
bucket is, an EVERY entry whose bucket it is in a turn of its residue, and every entry with a firing due then, but not a ONCE
entry that fires already; a CHAIN entry behind one that fires is due AT buckets later (R85, R90). Without lock nothing is
decided. An entry that does not fire in this bucket, or has acted, does nothing. NONE only fires; PULSE drives its pin for
PARAM buckets, and PULSE_END ends the pulses whose width is over; FABRIC raises event lines, which combine by OR (R91); VOTE
writes vote slot 6 of its domain (Table 03.4), or loses to a lower entry of the same domain (R91). A PULSE on a pin of another
mode, and a FABRIC on a region that does not serve, fail (R89). -/
def Obligations.milestoneFirings : Prop :=
  (∀ s : State, s.timed = true → Does .milestoneEvaluate s fun t =>
    let m := s.after (s.after s.now)
    let fires (e : Nat) : Prop := ∃ f ∈ t.ms.decided, f.entry = e
    (t.ms.decided.map Firing.entry).Pairwise (· < ·) ∧ t.ms.issued = s.ms.issued ∧ t.ms.firing = s.ms.firing ∧
    (∀ f ∈ t.ms.decided, f.entry < 256 ∧ s.msArmed f.entry = true ∧ f = s.firingNow f.entry) ∧
    (∀ e : Fin 256, s.msArmed e = true → ¬ (s.me e MsE.ONCE = 1 ∧ s.msBound e = true) →
      (fires e ↔ s.matches e m = true ∨ (e.val, m.t64) ∈ s.ms.due) ∧
      (s.bucket + 2 < s.turnLen →
        (s.me e MsE.KIND = Kind.abs → (fires e ↔ (s.me e MsE.WHEN = s.turn ∧ s.me e MsE.AT = s.bucket + 2) ∨
          (e.val, s.time64 + 2) ∈ s.ms.due)) ∧
        (s.me e MsE.KIND = Kind.every → (fires e ↔ (s.me e MsE.AT = s.bucket + 2 ∧ s.turn % 2 ^ (s.me e MsE.WHEN % 32) =
            bitsOf (s.me e MsE.WHEN) 16 16 % 2 ^ (s.me e MsE.WHEN % 32)) ∨ (e.val, s.time64 + 2) ∈ s.ms.due)))) ∧
    (∀ e : Fin 256, s.me e MsE.ONCE = 1 → s.msBound e = true → ¬ fires e) ∧
    (∀ c : Fin 256, s.msArmed c = true → s.me c MsE.KIND = Kind.chain → fires (s.me c MsE.SRC) →
      (c.val, s.time64 + 2 + s.me c MsE.AT) ∈ t.ms.due) ∧
    t.regs = s.regs ∧ t.logQ = s.logQ ∧ t.body = ({ s with ms := t.ms } : State).body) ∧
  (∀ s : State, s.timed = false → Does .milestoneEvaluate s fun t => t = s) ∧
  (∀ (c : Fin 256 → Instr) (a : Nat) (e : Fin 256) (s : State),
    (c, a) ∈ [(Instr.milestoneNone, 0), (.milestoneStage, 1), (.milestoneSwitch, 2), (.milestoneCapture, 3),
      (.milestoneTeStart, 4), (.milestoneTeHalt, 5), (.milestoneRefresh, 6), (.milestonePulse, 7), (.milestoneFabric, 8),
      (.milestoneVote, 9)] →
    s.firingOf e a = none → Does (c e) s fun t => t = s) ∧
  (∀ (e : Fin 256) (f : Firing) (s : State), s.firesWith e 0 f → Does (.milestoneNone e) s fun t => s.firedAs t e 0 ∧
    (f.irq = true → t.flag Pg.milestones (irqBit 16) = true) ∧ t.logQ = s.logQ ∧
    t.body = ({ s with ms := t.ms } : State).body) ∧
  (∀ (e : Fin 256) (f : Firing) (s : State), s.firesWith e 7 f →
    (s.pinMode f.target = 3 → Does (.milestonePulse e) s fun t => s.firedAs t e 0 ∧
      t.ms.pulses = s.ms.pulses ++ [(f.target, s.time64 + f.param)] ∧
      t.logQ = s.logQ ∧ t.body = ({ s with ms := t.ms } : State).body) ∧
    (s.pinMode f.target ≠ 3 → Does (.milestonePulse e) s fun t => s.failsAs t e Why.target ∧
      t.ms.pulses = s.ms.pulses ∧ t.body = ({ s with ms := t.ms } : State).body)) ∧
  (∀ (p : Fin 192) (s : State), Does (.pulseEnd p) s fun t => t = { s with ms := { s.ms with pulses := t.ms.pulses } } ∧
    ∀ q, q ∈ t.ms.pulses ↔ q ∈ s.ms.pulses ∧ (q.1 = p.val → s.time64 < q.2)) ∧
  (∀ (e : Fin 256) (f : Firing) (s : State), s.firesWith e 8 f →
    (s.serves (En.region f.target) = true → Does (.milestoneFabric e) s fun t => s.firedAs t e 0 ∧
      (∀ i, mget 0 t.ms.lines i =
        if i = f.target then mget 0 s.ms.lines i ||| f.param else mget 0 s.ms.lines i) ∧
      t.logQ = s.logQ ∧ t.body = ({ s with ms := t.ms } : State).body) ∧
    (s.serves (En.region f.target) = false → Does (.milestoneFabric e) s fun t => s.failsAs t e Why.target ∧
      t.ms.lines = s.ms.lines ∧ t.body = ({ s with ms := t.ms } : State).body)) ∧
  (∀ (e : Fin 256) (f : Firing) (d : Fin 270) (s : State), s.firesWith e 9 f → f.param % 512 = d →
    Does (.milestoneVote e) s fun t => s.firedAs t e 0 ∧
      (∀ b : Fin 8, t.vote d b = if b.val = 6 then f.ctx % 4 else s.vote d b) ∧
      t.logQ = s.logQ ∧ t.body = ({ s with doms := t.doms, gates := t.gates, ms := t.ms } : State).body) ∧
  (∀ (e : Fin 256) (f g : Firing) (s : State), s.firingOf e 9 = some f → g ∈ s.ms.firing → g.entry < e.val →
    f.sameTarget g = true → Does (.milestoneVote e) s fun t => s.failsAs t e Why.conflict ∧
      t.body = ({ s with ms := t.ms } : State).body)

/-- The milestone actions on a unit. On the first region-clock edge of the bucket a region takes captures, then switches, then
stagings; on an engine a halt comes before a start (R91, R179): u is the state that the entry's own action finds. An entry
that fires, acts for the first time and meets no lower entry of its target acts on it: STAGE and SWITCH on a region that
refuses neither (R171, R173, R178), a staging on the edge of a switch applying with the next edge; CAPTURE captures the
region's flip-flops, once for all captures of the bucket (R157, R158); TE_START starts the engine that hosts the named logical
engine and TE_HALT halts one that runs (R253, R254); REFRESH sets the refresh debt of each rank of a trained channel (R348).
Where the target refuses, the action fails (R89), and where a lower entry has it, it is lost (R91). -/
def Obligations.milestoneActions : Prop :=
  (∀ (e : Fin 256) (i : Fin 40) (c : Fin 8) (f : Firing) (s u : State), s.firingOf e 1 = some f → f.target = i →
    f.ctx = c → u = s.edgeBefore i 1 →
    let taken := u.onEdge 0 (u.rg i).stgEdge
    let switched := (u.rg i).swEdge.any fun m => m.t64 = u.time64 && m.cycle = u.cycles
    (u.firesWith e 1 f → u.stageWhy i c taken = none → Does (.milestoneStage e) s fun t => u.firedAs t e 0 ∧
      (switched = false → u.beginsStaging t i c 0) ∧
      (switched = true → (t.rg i).stgNext = some ⟨0, c, Ag.milestone, none⟩ ∧ t.latch = u.latch ∧
        (t.rg i).staging = (u.rg i).staging)) ∧
    (∀ why, u.firesWith e 1 f → u.stageWhy i c taken = some why → Does (.milestoneStage e) s fun t =>
      u.failsAs t e Why.target ∧ u.enters t (Pg.region i) 0x31 Sev.info Ag.milestone (c + why * 2 ^ 5) ∧
      t.body = ({ u with ms := t.ms } : State).body) ∧
    (∀ g, u.firingOf e 1 = some f → g ∈ u.ms.firing → g.entry < e.val → f.sameTarget g = true →
      Does (.milestoneStage e) s fun t => u.failsAs t e Why.conflict ∧ t.body = ({ u with ms := t.ms } : State).body)) ∧
  (∀ (e : Fin 256) (i : Fin 40) (c : Fin 8) (f : Firing) (s u : State), s.firingOf e 2 = some f → f.target = i →
    f.ctx = c → u = s.edgeBefore i 2 →
    let taken := u.onEdge 0 (u.rg i).swEdge
    (u.firesWith e 2 f → u.switchWhy i c taken = none → Does (.milestoneSwitch e) s fun t => u.firedAs t e 0 ∧
      u.switchesTo t i c 0) ∧
    (∀ why, u.firesWith e 2 f → u.switchWhy i c taken = some why → Does (.milestoneSwitch e) s fun t =>
      u.failsAs t e Why.target ∧ t.liveCtx i = u.liveCtx i ∧
      u.enters t (Pg.region i) 0x30 Sev.info Ag.milestone (c + why * 2 ^ 5) ∧
      t.body = ({ u with ms := t.ms } : State).body) ∧
    (∀ g, u.firingOf e 2 = some f → g ∈ u.ms.firing → g.entry < e.val → f.sameTarget g = true →
      Does (.milestoneSwitch e) s fun t => u.failsAs t e Why.conflict ∧ t.body = ({ u with ms := t.ms } : State).body)) ∧
  (∀ (e : Fin 256) (i : Fin 40) (f : Firing) (s : State), s.firesWith e 3 f → f.target = i →
    (s.captureOk i = true → Does (.milestoneCapture e) s fun t => s.firedAs t e 0 ∧
      ((s.rg i).capEdge ≠ some s.time64 → s.takesCapture t i 0) ∧
      ((s.rg i).capEdge = some s.time64 → t.sbank = s.sbank ∧ t.rgRd i Rgn.CAP_SEQ = s.rgRd i Rgn.CAP_SEQ) ∧
      (t.rg i).capReq = ((s.rg i).capReq && !s.bucketSince (s.rg i).capSince) ∧
      t.logQ = s.logQ ∧ t.body = ({ s with ms := t.ms, rgs := t.rgs, sbank := t.sbank } : State).body) ∧
    (s.captureOk i = false → Does (.milestoneCapture e) s fun t => s.failsAs t e Why.target ∧
      t.body = ({ s with ms := t.ms } : State).body)) ∧
  (∀ (e : Fin 256) (f g : Firing) (s : State), s.firingOf e 3 = some f → g ∈ s.ms.firing → g.entry < e.val →
    f.sameTarget g = true → Does (.milestoneCapture e) s fun t => s.failsAs t e Why.conflict ∧
      t.body = ({ s with ms := t.ms } : State).body) ∧
  (∀ (e : Fin 256) (f : Firing) (s u : State), s.firingOf e 4 = some f → u = s.engineFireOn f.target [5] →
    (∀ k : Fin 104, u.firesWith e 4 f → u.hostEngine f.target = some k.val → u.startWhy k = none →
      Does (.milestoneTeStart e) s fun t => u.firedAs t e 0 ∧ t.estate k = Es.running ∧
        t.teRd k Te.PC = f.param % 2 ^ 11 ∧ t.teRd k Te.CYCLES = 0 ∧ (t.te k).loops = [] ∧ (t.te k).wait = .none ∧
        ((∀ x ∈ u.wk.slices, x.kind = 3 → x.entry ≠ En.engine k) → t.logQ = u.logQ ∧
          t.body = ({ u with ms := t.ms, tes := t.tes } : State).body)) ∧
    (∀ (k : Fin 104) (why : Nat), u.firesWith e 4 f → u.hostEngine f.target = some k.val → u.startWhy k = some why →
      Does (.milestoneTeStart e) s fun t => u.failsAs t e Why.target ∧ t.estate k = u.estate k ∧
        t.teRd k Te.PC = u.teRd k Te.PC) ∧
    (u.firesWith e 4 f → u.hostEngine f.target = none → Does (.milestoneTeStart e) s fun t => u.failsAs t e Why.target ∧
      t.body = ({ u with ms := t.ms } : State).body) ∧
    (∀ g, u.firingOf e 4 = some f → g ∈ u.ms.firing → g.entry < e.val → f.sameTarget g = true →
      Does (.milestoneTeStart e) s fun t => u.failsAs t e Why.conflict ∧
        t.body = ({ u with ms := t.ms } : State).body)) ∧
  (∀ (e : Fin 256) (f : Firing) (s : State), s.firesWith e 5 f →
    (∀ k : Fin 104, s.hostEngine f.target = some k.val → s.serves (En.engine k) = true → (s.te k).moving = false →
      Does (.milestoneTeHalt e) s fun t => s.firedAs t e 0 ∧
        (s.teBusy k = true → t.estate k = Es.halted ∧ t.flag (Pg.engine k) (irqBit 16) = true) ∧
        (s.teBusy k = false → t.estate k = s.estate k) ∧ t.logQ = s.logQ ∧
        t.body = ({ s with ms := t.ms, tes := t.tes } : State).body) ∧
    ((∀ k, s.hostEngine f.target = some k → s.serves (En.engine k) = false ∨ (s.te k).moving = true) →
      Does (.milestoneTeHalt e) s fun t => s.failsAs t e Why.target ∧ t.body = ({ s with ms := t.ms } : State).body)) ∧
  (∀ (e : Fin 256) (f g : Firing) (s : State), s.firingOf e 5 = some f → g ∈ s.ms.firing → g.entry < e.val →
    f.sameTarget g = true → Does (.milestoneTeHalt e) s fun t => s.failsAs t e Why.conflict ∧
      t.body = ({ s with ms := t.ms } : State).body) ∧
  (∀ (e : Fin 256) (c : Fin 8) (f : Firing) (s : State), s.firesWith e 6 f → f.target = c →
    (s.trained c = true → s.isOn (En.ddr c) = true → s.ddrRanks c ≤ 2 → Does (.milestoneRefresh e) s fun t =>
      s.firedAs t e 0 ∧ (∀ r, r < s.ddrRanks c → t.debt c r =
        if f.param = 0 then min (s.debt c r) 0 else max (-8) (s.debt c r - (f.param : Int))) ∧
      t.logQ = s.logQ ∧ t.body = ({ s with ms := t.ms } : State).body) ∧
    (s.trained c = false ∨ s.isOn (En.ddr c) = false → Does (.milestoneRefresh e) s fun t => s.failsAs t e Why.target ∧
      t.body = ({ s with ms := t.ms } : State).body)) ∧
  (∀ (e : Fin 256) (f g : Firing) (s : State), s.firingOf e 6 = some f → g ∈ s.ms.firing → g.entry < e.val →
    f.sameTarget g = true → Does (.milestoneRefresh e) s fun t => s.failsAs t e Why.conflict ∧
      t.body = ({ s with ms := t.ms } : State).body)

/-- The timers (R93, R94). A write of a timer's first word with T_EN = 1 starts it from T_LOAD, 0 acting as 1, and claims
it for the writer; one that another agent holds refuses. T_EN = 0 stops the timer and releases it; T_RESTART reloads the
count, and the count takes the unit of T_UNIT then. A write that finds the timer running and leaves T_EN at 1 neither claims
nor restarts it (R518). A timer whose count reached 0 expires once: T_EXP is set, its interrupt is latched if asked for, its
region's event lines are raised, in this bucket where it counts buckets or turns and else in the next, and with T_AUTO the
count is reloaded. That another agent's write of T_EN = 0 stops the timer and ends its owner's claim is the model's choice (log
entry 144). -/
def Obligations.timers : Prop :=
  (∀ (ag : Agent) (k : Fin 32) (w : Word) (s : State), s.grants ag Pg.milestones → s.tm k Tmr.T_EN = 0 →
    s.mayClaim (Reg.timer k) ag 1 = true → Does (.timerEnable ag k w) s fun t => t.tm k Tmr.T_EN = 1 ∧
      t.tm k Tmr.T_COUNT = max 1 (s.tm k Tmr.T_LOAD) % 2 ^ 32 ∧ t.tm k Tmr.T_UNIT = bitsOf w.toNat 1 2 ∧
      t.tm k Tmr.T_AUTO = bitsOf w.toNat 3 1 ∧ t.tm k Tmr.T_REGION = bitsOf w.toNat 8 6 ∧
      t.tm k Tmr.T_MASK = bitsOf w.toNat 16 16 ∧ t.claimed (Reg.timer k) = true ∧ t.claimAgent (Reg.timer k) = ag ∧
      k.val ∉ t.ms.expired ∧ t.tmUnit k = bitsOf w.toNat 1 2 ∧ t.logQ = s.logQ ∧
      t.body = ({ s with ms := t.ms } : State).body) ∧
  (∀ (ag : Agent) (k : Fin 32) (w : Word) (s : State), s.grants ag Pg.milestones → s.tm k Tmr.T_EN = 1 →
    Does (.timerEnable ag k w) s fun t => t.tm k Tmr.T_EN = 1 ∧ t.tm k Tmr.T_UNIT = bitsOf w.toNat 1 2 ∧
      t.claimed (Reg.timer k) = s.claimed (Reg.timer k) ∧ t.claimAgent (Reg.timer k) = s.claimAgent (Reg.timer k) ∧
      (w.getLsb 6 = false → t.tm k Tmr.T_COUNT = s.tm k Tmr.T_COUNT ∧ t.body = s.body) ∧
      t.logQ = s.logQ ∧ t.body = ({ s with ms := t.ms } : State).body) ∧
  (∀ (ag : Agent) (k : Fin 32) (w : Word) (s : State), s.grants ag Pg.milestones → s.tm k Tmr.T_EN = 0 →
    s.mayClaim (Reg.timer k) ag 1 = false → Does (.timerEnable ag k w) s fun t => t.tm k Tmr.T_EN = 0 ∧
      t.flag Pg.milestones Hdr.CLAIM_REFUSED = true ∧ s.enters t Pg.milestones 0x01 Sev.info ag
        (claimDetail (Reg.timer k) (s.claimAgent (Reg.timer k)) (s.claimFeature (Reg.timer k))) ∧
      t.body = ({ s with ms := t.ms } : State).body) ∧
  (∀ (ag : Agent) (k : Fin 32) (w : Word) (s : State), s.grants ag Pg.milestones → s.tm k Tmr.T_EN = 1 →
    Does (.timerDisable ag k w) s fun t => t.tm k Tmr.T_EN = 0 ∧ t.claimed (Reg.timer k) = false ∧ t.logQ = s.logQ ∧
      t.body = ({ s with ms := t.ms } : State).body) ∧
  (∀ (ag : Agent) (k : Fin 32) (w : Word) (s : State), s.grants ag Pg.milestones → s.tm k Tmr.T_EN = 0 →
    Does (.timerDisable ag k w) s fun t => t.tm k Tmr.T_EN = 0 ∧ t.claimed (Reg.timer k) = s.claimed (Reg.timer k) ∧
      t.logQ = s.logQ ∧ t.body = ({ s with ms := t.ms } : State).body) ∧
  (∀ (ag : Agent) (k : Fin 32) (s : State), s.grants ag Pg.milestones → Does (.timerRestart ag k) s fun t =>
    t.tm k Tmr.T_COUNT = max 1 (s.tm k Tmr.T_LOAD) % 2 ^ 32 ∧ t.tmUnit k = s.tm k Tmr.T_UNIT ∧
    t.ms = { s.ms with units := t.ms.units } ∧ t.body = ({ s with ms := t.ms } : State).body ∧ t.logQ = s.logQ ∧
    s.onlyFields t [(Pg.milestones, Tmr.T_COUNT, k)]) ∧
  (∀ (k : Fin 32) (s : State), k.val ∉ s.ms.expired → Does (.timerExpiry k) s fun t => t = s) ∧
  (∀ (k : Fin 32) (s : State), k.val ∈ s.ms.expired → Does (.timerExpiry k) s fun t =>
    t.ms.expired = s.ms.expired.erase k ∧ t.tm k Tmr.T_EXP = 1 ∧
    (s.tm k Tmr.T_IRQ = 1 → t.flag Pg.milestones (irqBit 20) = true) ∧
    (s.tm k Tmr.T_FAB = 1 → s.tm k Tmr.T_REGION < 40 → s.serves (En.region (s.tm k Tmr.T_REGION)) = true →
      (s.tmUnit k < 2 → mget 0 t.ms.lines (s.tm k Tmr.T_REGION) =
        mget 0 s.ms.lines (s.tm k Tmr.T_REGION) ||| s.tm k Tmr.T_MASK) ∧
      (2 ≤ s.tmUnit k → mget 0 t.ms.nextLines (s.tm k Tmr.T_REGION) =
        mget 0 s.ms.nextLines (s.tm k Tmr.T_REGION) ||| s.tm k Tmr.T_MASK)) ∧
    (s.tm k Tmr.T_AUTO = 1 → t.tm k Tmr.T_COUNT = max 1 (s.tm k Tmr.T_LOAD) % 2 ^ 32) ∧ t.logQ = s.logQ ∧
    t.body = ({ s with ms := t.ms } : State).body ∧
    s.onlyFields t [(Pg.milestones, Tmr.T_EXP, k), (Pg.milestones, Tmr.T_COUNT, k), (Pg.milestones, irqBit 20, 0)])

/-! ### Clocks (chapter 04) -/

/-- The PLLs (R109 to R114, R119, R522). PLLs 0 to 2 always run; EN = 1 of another lets it look at its reference and begin to
lock, EN = 0 takes its READY, closes its trees and ends the switches to it. A new setting is taken while EN is 0, also by the
free spares that mirror the PLL, and one that Table 04.2 does not allow is refused and logged with its agent (R110, R114). A
spare that is not in use copies the settings of the PLL it is told to mirror; one in use ignores the write. A PLL
that locks reads READY and tells how long it took; the timing PLL's lock takes the port out of PLL_LOCK. A loss of lock
takes READY and closes the trees, and with its reference there the PLL has failed: it is RETIRED, and a free spare comes in
unless it was an unused spare itself, which names none (R109, R114, Table 02.6).
When the closes it asked for are over the timing PLL relocks, and every bucket-derived PLL has lost lock (R112). -/
def Obligations.plls : Prop :=
  (∀ (ag : Agent) (p : Fin 20) (s : State), s.reaches ag = true → 3 ≤ p.val → Does (.pllEnable ag p true) s fun t =>
    t.rd (Pg.pll p) Hdr.EN = 1 ∧ t.rd (Pg.pll p) Pll.REF_OK = bit (s.refHere p) ∧
    (s.refHere p = true → s.ck.delayOver = true → s.pllReady p = false → (s.pll p).locking = none →
      (t.pll p).locking = some s.us) ∧
    t.body = ({ s with plls := t.plls } : State).body ∧ t.logQ = s.logQ ∧
    s.onlyFields t [(Pg.pll p, Hdr.EN, 0), (Pg.pll p, Pll.REF_OK, 0)]) ∧
  (∀ (ag : Agent) (p : Fin 20) (s : State), s.reaches ag = true → 3 ≤ p.val → Does (.pllEnable ag p false) s fun t =>
    t.rd (Pg.pll p) Hdr.EN = 0 ∧ t.pllReady p = false ∧ (t.pll p).locking = none ∧
    (∀ k ∈ s.treesOn p, t.flag Pg.clocks Clk.OPEN k = false) ∧
    (∀ k : Fin 177, s.flag Pg.clocks Clk.SW_BUSY k = true → treeSource k (s.tree k).swSrc = some p.val →
      t.flag Pg.clocks Clk.SW_BUSY k = false ∧ t.rd Pg.clocks Clk.ACT_SRC k = 7 ∧
      t.flag Pg.clocks Clk.OPEN k = false ∧ t.flag Pg.clocks Clk.SW_REFUSED k = true) ∧
    ((∀ k : Fin 177, s.flag Pg.clocks Clk.SW_BUSY k = false ∨ treeSource k (s.tree k).swSrc ≠ some p.val) →
      t.logQ = s.logQ)) ∧
  (∀ (ag : Agent) (p : Fin 20) (en : Bool) (s : State), s.reaches ag = true → p.val ≤ 2 →
    Does (.pllEnable ag p en) s fun t => (en = false → t.flag (Pg.pll p) Hdr.WRITE_IGNORED = true) ∧ t.body = s.body ∧
      t.logQ = s.logQ ∧ s.onlyFields t [(Pg.pll p, Hdr.WRITE_IGNORED, 0)]) ∧
  (∀ (ag : Agent) (p : Fin 20) (r : BitVec 2) (m : BitVec 11) (s : State), s.grants ag (Pg.pll p) →
    ¬ (r.toNat = s.rd (Pg.pll p) Pll.REF_SEL ∧ m.toNat = s.rd (Pg.pll p) Pll.MULT) →
    Does (.pllSettingWrite ag p r m) s fun t =>
      (p.val ≤ 2 ∨ s.flag (Pg.pll p) Hdr.EN = true → t.flag (Pg.pll p) Hdr.WRITE_IGNORED = true ∧ t.logQ = s.logQ ∧
        s.onlyFields t [(Pg.pll p, Hdr.WRITE_IGNORED, 0)]) ∧
      (3 ≤ p.val → s.flag (Pg.pll p) Hdr.EN = false → s.pllRefusal p r.toNat m.toNat = none →
        t.rd (Pg.pll p) Pll.REF_SEL = r.toNat ∧ t.rd (Pg.pll p) Pll.MULT = m.toNat ∧
        ∀ q : Fin 4, s.spareFree (16 + q) = true → s.rd (Pg.pll (16 + q)) Pll.MIRROR = p →
          t.rd (Pg.pll (16 + q)) Pll.REF_SEL = r.toNat ∧ t.rd (Pg.pll (16 + q)) Pll.MULT = m.toNat) ∧
      (∀ b, 3 ≤ p.val → s.flag (Pg.pll p) Hdr.EN = false → s.pllRefusal p r.toNat m.toNat = some b →
        t.rd (Pg.pll p) Pll.REF_SEL = s.rd (Pg.pll p) Pll.REF_SEL ∧ t.rd (Pg.pll p) Pll.MULT = s.rd (Pg.pll p) Pll.MULT ∧
        t.flag (Pg.pll p) Pll.MULT_REFUSED = true ∧
        s.enters t (Pg.pll p) 0x20 Sev.info ag (m.toNat + r.toNat * 2 ^ 11 + bit b * 2 ^ 13)) ∧
      t.body = ({ s with plls := t.plls } : State).body) ∧
  (∀ (ag : Agent) (p : Fin 20) (r : BitVec 2) (m : BitVec 11) (s : State), s.grants ag (Pg.pll p) →
    r.toNat = s.rd (Pg.pll p) Pll.REF_SEL → m.toNat = s.rd (Pg.pll p) Pll.MULT →
    Does (.pllSettingWrite ag p r m) s fun t => t = { s with bus := { resp := .ok, data := 0 } }) ∧
  (∀ (ag : Agent) (p : Fin 20) (m : BitVec 5) (s : State), s.grants ag (Pg.pll p) → 16 ≤ p.val →
    s.blk (En.pll p) ≠ St.inUse → Does (.mirrorWrite ag p m) s fun t => t.rd (Pg.pll p) Pll.MIRROR = m.toNat ∧
      t.pllReady p = false ∧
      (s.treesOn p = [] →
        (∀ k : Fin 177, s.flag Pg.clocks Clk.SW_BUSY k = false ∨ treeSource k (s.tree k).swSrc ≠ some p.val) →
        t.logQ = s.logQ ∧ t.body = ({ s with plls := t.plls } : State).body ∧ s.onlyPages t [Pg.pll p]) ∧
      (m.toNat < 16 → t.rd (Pg.pll p) Pll.REF_SEL = s.rd (Pg.pll m.toNat) Pll.REF_SEL % 4 ∧
        t.rd (Pg.pll p) Pll.MULT = s.rd (Pg.pll m.toNat) Pll.MULT % 2 ^ 11)) ∧
  (∀ (ag : Agent) (p : Fin 20) (m : BitVec 5) (s : State), s.grants ag (Pg.pll p) →
    (p.val < 16 → Does (.mirrorWrite ag p m) s fun t => t = { s with bus := { resp := .ok, data := 0 } }) ∧
    (16 ≤ p.val → s.blk (En.pll p) = St.inUse → Does (.mirrorWrite ag p m) s fun t =>
      t.flag (Pg.pll p) Hdr.WRITE_IGNORED = (s.flag (Pg.pll p) Hdr.WRITE_IGNORED ||
        decide (m.toNat ≠ s.rd (Pg.pll p) Pll.MIRROR)) ∧ t.body = s.body ∧ t.logQ = s.logQ ∧
      s.onlyFields t [(Pg.pll p, Hdr.WRITE_IGNORED, 0)])) ∧
  (∀ (p : Fin 20) (since : Nat) (s : State), (s.pll p).locking = some since → s.pllRuns p = true →
    s.flag (Pg.pll p) Pll.REF_OK = true → s.rd Pg.loader Ld.PHASE ≠ 5 → Does (.pllReady p) s fun t =>
      t.pllReady p = true ∧ t.rd (Pg.pll p) Pll.LOCK_US = min (s.us - since) 0xFFFF ∧
      t.flag (Pg.pll p) (irqBit 16) = true ∧ (t.pll p).locking = none ∧
      (p.val = 0 → s.tpState = 1 → t.tpState = 2) ∧
      (s.rd Pg.loader Ld.PHASE = 2 → t.pllReady 1 = true → t.pllReady 2 = true → t.rd Pg.loader Ld.PHASE = 3)) ∧
  (∀ (p : Fin 20) (s : State), s.pllReady p = true → Does (.pllLossOfLock p) s fun t =>
    t.pllReady p = false ∧ t.flag (Pg.pll p) Pll.LOL = true ∧ t.flag (Pg.pll p) (irqBit 17) = true ∧
    t.rd (Pg.pll p) Pll.LOL_COUNT = satAdd 16 (s.rd (Pg.pll p) Pll.LOL_COUNT) 1 % 2 ^ 16 ∧
    (∀ k ∈ s.treesOn p, t.flag Pg.clocks Clk.OPEN k = false) ∧
    (s.flag (Pg.pll p) Pll.REF_OK = true → t.blk (En.pll p) = St.retired ∧ t.flag Pg.clocks (irqBit 19) = true ∧
      (s.blk (En.pll p) ≠ St.spare → ∀ q : Fin 4, s.blk (En.pll (16 + q)) = St.spare →
        ∃ q' : Fin 4, s.blk (En.pll (16 + q')) = St.spare ∧ t.blk (En.pll (16 + q')) = St.inUse ∧
          t.wb (En.pll p) Wbe.LINK = En.pll (16 + q') ∧ t.wb (En.pll (16 + q')) Wbe.LINK = En.pll p) ∧
      (s.blk (En.pll p) = St.spare → t.wb (En.pll p) Wbe.LINK = 0xFFFF ∧
        ∀ q : Fin 4, 16 + q.val ≠ p → t.blk (En.pll (16 + q)) = s.blk (En.pll (16 + q))))) ∧
  (∀ (p : Fin 20) (s : State), s.pllReady p = false → (s.pll p).locking = none →
    Does (.pllLossOfLock p) s fun t => t = s) ∧
  (∀ (p : Fin 20) (s : State), Does (.referenceLoss p) s fun t => t.rd (Pg.pll p) Pll.REF_OK = 0 ∧ t.body = s.body ∧
    t.logQ = s.logQ ∧ s.onlyFields t [(Pg.pll p, Pll.REF_OK, 0)]) ∧
  (∀ s : State, s.ck.relockWait = true → (s.bucketTrees.all fun k => !(s.gate (entryOfTree k)).treeClose) = true →
    Does .timingPllRelockStart s fun t => t.ck.relockWait = false ∧ t.ck.bucketStopped = true ∧ t.pllReady 0 = false ∧
      (∀ p : Fin 20, p.val ≠ 0 → s.bucketDerived p = true →
        t.pllReady p = false ∧ t.rd (Pg.pll p) Pll.REF_OK = 0) ∧
      (s.tp.ck = true → s.rd (Pg.pll 0) Pll.REF_SEL = 2 → s.ck.delayOver = true → (s.pll 0).locking = none →
        (t.pll 0).locking = some s.us)) ∧
  (∀ s : State, s.ck.relockWait = false ∨ (∃ k ∈ s.bucketTrees, (s.gate (entryOfTree k)).treeClose = true) →
    Does .timingPllRelockStart s fun t => t = s)

/-- The clock trees (R111, R115 to R118). A closed tree whose PLL is READY, and whose port is LOCKED where it is fed from the
bucket clock, opens; the whole buckets without an edge since it stopped are told as a gap. A request for another source begins
a switch: the output is low until it is done; a refused one leaves SRC at ACT_SRC and says so, and one above the ceiling sets
OVER_CEIL too (R108). While a switch runs SRC is not written. The switch ends with the new source and divider in force and the
tree open. A new divider waits for the next bucket; one that is refused is counted, and one that is in force ends the wait of
another, the model's choices (log entries 150 and 152). The multiplexer does not wait for a source that has stopped. A tree
with nothing to do is left as it is. -/
def Obligations.clockTrees : Prop :=
  (∀ (k : Fin 177) (p : Nat) (s : State), s.treePll k = some p → s.treeMayOpen p = true →
    s.flag Pg.clocks Clk.OPEN k = false → Does (.treeOpen k) s fun t =>
      let gap := (s.tree k).shutAt.elim 0 fun b => s.time64 - b - 1
      t.flag Pg.clocks Clk.OPEN k = true ∧ (t.gate (entryOfTree k)).treeClosed = false ∧ (t.tree k).shutAt = none ∧
      (gap = 0 ∨ s.bucketDerived p = false → t.logQ = s.logQ ∧ s.onlyFields t [(Pg.clocks, Clk.OPEN, k)]) ∧
      (gap ≠ 0 → s.bucketDerived p = true → t.flag Pg.clocks (irqBit 21) = true ∧
        t.rd Pg.clocks Clk.CNT_GAP = satAdd 16 (s.rd Pg.clocks Clk.CNT_GAP) 1 % 2 ^ 16 ∧
        s.enters t Pg.clocks 0x22 Sev.degraded Ag.hlp (k + min gap 0xFFFF * 2 ^ 8)) ∧
      t.body = ({ s with gates := t.gates, trees := t.trees } : State).body) ∧
  (∀ (k : Fin 177) (s : State), (s.treePll k).all (fun p => !s.treeMayOpen p) = true ∨
    s.flag Pg.clocks Clk.OPEN k = true → Does (.treeOpen k) s fun t => t = s) ∧
  (∀ (ag : Agent) (k : Fin 177) (src div : BitVec 3) (s : State), s.grants ag Pg.clocks →
    s.flag Pg.clocks Clk.SW_BUSY k = false → src.toNat ≠ s.rd Pg.clocks Clk.ACT_SRC k →
    s.switchReason k src.toNat div.toNat true = none → Does (.clockSwitchRequest ag k src div) s fun t =>
      t.rd Pg.clocks Clk.SRC k = src.toNat ∧ t.rd Pg.clocks Clk.DIV k = div.toNat ∧
      t.flag Pg.clocks Clk.SW_BUSY k = true ∧ t.flag Pg.clocks Clk.OPEN k = false ∧
      t.tree k = { s.tree k with swSrc := src.toNat, swDiv := div.toNat, image := s.ld.judging } ∧ t.logQ = s.logQ ∧
      t.body = ({ s with trees := t.trees } : State).body ∧
      s.onlyFields t [(Pg.clocks, Clk.SRC, k), (Pg.clocks, Clk.DIV, k), (Pg.clocks, Clk.SW_BUSY, k),
        (Pg.clocks, Clk.OPEN, k)]) ∧
  (∀ (ag : Agent) (k : Fin 177) (src div : BitVec 3) (r : Nat) (s : State), s.grants ag Pg.clocks →
    s.flag Pg.clocks Clk.SW_BUSY k = false → src.toNat ≠ s.rd Pg.clocks Clk.ACT_SRC k →
    s.switchReason k src.toNat div.toNat true = some r → Does (.clockSwitchRequest ag k src div) s fun t =>
      t.rd Pg.clocks Clk.SRC k = s.rd Pg.clocks Clk.ACT_SRC k % 8 ∧ t.flag Pg.clocks Clk.SW_REFUSED k = true ∧
      (r = 1 → t.flag Pg.clocks Clk.OVER_CEIL k = true) ∧
      t.rd Pg.clocks Clk.CNT_REFUSED = satAdd 16 (s.rd Pg.clocks Clk.CNT_REFUSED) 1 % 2 ^ 16 ∧
      t.flag Pg.clocks (irqBit 17) = true ∧ (s.logQ.length < 31 → s.enters t Pg.clocks 0x20 Sev.info ag
        (k + src.toNat * 2 ^ 8 + r * 2 ^ 11)) ∧ t.body = s.body) ∧
  (∀ (ag : Agent) (k : Fin 177) (src div : BitVec 3) (s : State), s.grants ag Pg.clocks →
    s.flag Pg.clocks Clk.SW_BUSY k = true → src.toNat ≠ s.rd Pg.clocks Clk.SRC k →
    Does (.clockSwitchRequest ag k src div) s fun t => t.flag Pg.clocks Hdr.WRITE_IGNORED = true ∧
      t.flag Pg.clocks Clk.SW_BUSY k = true ∧ (t.tree k).swSrc = (s.tree k).swSrc ∧
      t.rd Pg.clocks Clk.SRC k = s.rd Pg.clocks Clk.SRC k) ∧
  (∀ (k : Fin 177) (gap p : Nat) (s : State), s.flag Pg.clocks Clk.SW_BUSY k = true →
    treeSource k (s.tree k).swSrc = some p → s.treeMayRun p = true → Does (.clockSwitchDone k gap) s fun t =>
      t.rd Pg.clocks Clk.ACT_SRC k = (s.tree k).swSrc % 8 ∧ t.flag Pg.clocks Clk.SW_BUSY k = false ∧
      t.flag Pg.clocks Clk.OPEN k = true ∧ (t.tree k).div = (s.tree k).swDiv ∧ (t.tree k).pendDiv = none ∧
      (t.gate (entryOfTree k)).treeClosed = false ∧
      t.rd Pg.clocks Clk.CNT_SWITCH = satAdd 16 (s.rd Pg.clocks Clk.CNT_SWITCH) 1 % 2 ^ 16 ∧
      t.flag Pg.clocks (irqBit 16) = true ∧
      (gap = 0 ∨ s.bucketDerived p = false → t.rd Pg.clocks Clk.CNT_GAP = s.rd Pg.clocks Clk.CNT_GAP) ∧
      (gap ≠ 0 → (s.tree k).swSrc < 8 → s.bucketDerived p = true → t.flag Pg.clocks (irqBit 21) = true ∧
        t.rd Pg.clocks Clk.CNT_GAP = satAdd 16 (s.rd Pg.clocks Clk.CNT_GAP) 1 % 2 ^ 16) ∧
      t.body = ({ s with trees := t.trees, gates := t.gates } : State).body) ∧
  (∀ (k : Fin 177) (gap : Nat) (s : State), s.flag Pg.clocks Clk.SW_BUSY k = false ∨
    (treeSource k (s.tree k).swSrc).all (fun p => !s.treeMayRun p) = true → Does (.clockSwitchDone k gap) s fun t => t = s) ∧
  (∀ (k : Fin 177) (gap : Nat) (s : State),
    (s.flag Pg.clocks Clk.SW_BUSY k = true → Does (.oldStopped k gap) s fun t =>
      t.flag Pg.clocks Clk.OLD_STOPPED k = true ∧ t.flag Pg.clocks (irqBit 18) = true ∧
      t.rd Pg.clocks Clk.CNT_OLDSTOP = satAdd 16 (s.rd Pg.clocks Clk.CNT_OLDSTOP) 1 % 2 ^ 16 ∧
      (gap = 0 → t.logQ = s.logQ) ∧ t.body = s.body) ∧
    (s.flag Pg.clocks Clk.SW_BUSY k = false → Does (.oldStopped k gap) s fun t => t = s)) ∧
  (∀ (ag : Agent) (k : Fin 177) (div : BitVec 3) (s : State), s.grants ag Pg.clocks →
    s.flag Pg.clocks Clk.SW_BUSY k = false → s.rd Pg.clocks Clk.SRC k = s.rd Pg.clocks Clk.ACT_SRC k →
    s.rd Pg.clocks Clk.ACT_SRC k ≠ 7 →
    (div.toNat ≠ (s.tree k).div → s.switchReason k (s.rd Pg.clocks Clk.SRC k) div.toNat false = none →
      Does (.dividerWrite ag k div) s fun t => t.rd Pg.clocks Clk.DIV k = div.toNat ∧
        t.tree k = { s.tree k with pendDiv := some div.toNat, image := s.ld.judging } ∧ t.logQ = s.logQ ∧
        t.body = ({ s with trees := t.trees } : State).body ∧ s.onlyFields t [(Pg.clocks, Clk.DIV, k)]) ∧
    (∀ r, div.toNat ≠ (s.tree k).div → s.switchReason k (s.rd Pg.clocks Clk.SRC k) div.toNat false = some r →
      Does (.dividerWrite ag k div) s fun t => t.rd Pg.clocks Clk.DIV k = s.rd Pg.clocks Clk.DIV k ∧
        t.flag Pg.clocks Clk.SW_REFUSED k = true ∧ (r = 1 → t.flag Pg.clocks Clk.OVER_CEIL k = true) ∧
        t.rd Pg.clocks Clk.CNT_REFUSED = satAdd 16 (s.rd Pg.clocks Clk.CNT_REFUSED) 1 % 2 ^ 16 ∧ t.body = s.body) ∧
    (div.toNat = (s.tree k).div → Does (.dividerWrite ag k div) s fun t => t.rd Pg.clocks Clk.DIV k = div.toNat ∧
      t.tree k = { s.tree k with pendDiv := none } ∧ t.logQ = s.logQ ∧ s.onlyFields t [(Pg.clocks, Clk.DIV, k)])) ∧
  (∀ (k : Fin 177) (s : State),
    (∀ d, (s.tree k).pendDiv = some d → Does (.dividerApply k) s fun t =>
      t.tree k = { s.tree k with div := d, pendDiv := none, image := false } ∧
      t.flag Pg.clocks Clk.OPEN k = s.flag Pg.clocks Clk.OPEN k ∧ t.body = ({ s with trees := t.trees } : State).body) ∧
    ((s.tree k).pendDiv = none → Does (.dividerApply k) s fun t => t = s))

/-- Gates, frequency counters and the measured bucket clock (R121 to R125). A write of the branch enables opens a branch, on a
tree fed from the bucket clock with the next bucket and else at once, and lets one that closes wait for the bus port; the
close is made when the port is idle, or abandoned at GATE_TMO, when the domain keeps its level and the event is told: a close
that an enable asked for is tried again at the next vote (R123). A close of the whole tree (R112) waits for the port like one
of branches. A frequency counter is claimed by what starts it, and its window's end stores a 64th of the edges, a lane PLL's
edges being divided by 32 first. That FC_EN claims with feature code 1, and that whoever clears FC_EN stops the counter and
ends its owner's claim, are the model's choices (log entries 14 and 144). -/
def Obligations.gatesAndCounters : Prop :=
  (∀ (ag : Agent) (k : Fin 177) (en : BitVec 9) (s : State), s.grants ag Pg.clocks →
    domainOf (entryOfTree k) = alwaysOn ∨ (s.dom (domainOf (entryOfTree k))).kept = none → Does (.gateRequest ag k en) s fun t =>
      (t.flag Pg.clocks Clk.CORE_RUN k = en.getLsb 0 ∧ t.flag Pg.clocks Clk.CORE_SLEEP k = en.getLsb 1 ∧
        t.flag Pg.clocks Clk.CORE_DEEP k = en.getLsb 2 ∧ t.flag Pg.clocks Clk.PORT_RUN k = en.getLsb 3 ∧
        t.flag Pg.clocks Clk.PORT_SLEEP k = en.getLsb 4 ∧ t.flag Pg.clocks Clk.PORT_DEEP k = en.getLsb 5 ∧
        t.flag Pg.clocks Clk.KEEP_RUN k = en.getLsb 6 ∧ t.flag Pg.clocks Clk.KEEP_SLEEP k = en.getLsb 7 ∧
        t.flag Pg.clocks Clk.KEEP_DEEP k = en.getLsb 8) ∧
      (let e := entryOfTree k
       let g := s.gate e
       let b := t.enables e (if domainOf e = alwaysOn then 3 else (s.dom (domainOf e)).level)
       (g.waits = true → t.gate e = g) ∧
       (g.waits = false → (t.gate e).closing = decide (g.branches &&& b ≠ g.branches) ∧
         (s.bucketFed e = false → (t.gate e).branches = g.branches ||| b ∧ (t.gate e).opening = 0) ∧
         (s.bucketFed e = true → (t.gate e).branches = g.branches ∧
           (t.gate e).opening = b - (b &&& g.branches)))) ∧
      t.logQ = s.logQ ∧ t.body = ({ s with gates := t.gates } : State).body) ∧
  (∀ (e : Fin 354) (s : State),
    let x := gateEntry e
    let d := domainOf x
    let g := s.gate x
    let b := s.enables x g.toLevel
    (g.closing = true → d = alwaysOn ∨ (s.dom d).entry = 1 → Does (.gateClose e) s fun t =>
      (t.gate x).closing = false ∧ (t.gate x).treeClose = false ∧
      (s.bucketFed x = false → (t.gate x).branches = (g.branches &&& b) ||| b) ∧
      (s.bucketFed x = true → (t.gate x).branches = g.branches &&& b ∧
        (t.gate x).opening = b - (b &&& (g.branches &&& b))) ∧
      (d ≠ alwaysOn → t.dom d = { s.dom d with entry := 2 })) ∧
    (g.closing = true → d ≠ alwaysOn → (s.dom d).entry = 0 → (s.dom d).wake = 0 → (s.dom d).kept = none →
      s.allRetired d = false → s.asked d = g.toLevel → Does (.gateClose e) s fun t =>
        (t.dom d).level = g.toLevel ∧ (t.gate x).closing = false) ∧
    (g.closing = false → g.treeClose = true → Does (.gateClose e) s fun t =>
      t.gate x = { g with treeClose := false, treeClosed := true } ∧
      ∀ k, treeOf x = some k → t.flag Pg.clocks Clk.OPEN k = false) ∧
    (g.closing = true → g.treeClose = true → Does (.gateClose e) s fun t => (t.gate x).treeClosed = true ∧
      ∀ k, treeOf x = some k → t.flag Pg.clocks Clk.OPEN k = false) ∧
    (g.waits = false → (Does (.gateClose e) s fun t => t = s) ∧ Does (.gateTimeout e) s fun t => t = s) ∧
    (g.waits = true → Does (.gateTimeout e) s fun t =>
      (t.gate x).closing = false ∧ (t.gate x).treeClose = false ∧ (t.gate x).branches = g.branches ∧
      t.flag (pageOf x) Hdr.GATE_TIMEOUT = true ∧ t.flag (pageOf x) (irqBit 3) = true ∧
      s.enters t (pageOf x) 0x08 Sev.info Ag.hlp ((treeOf x).getD 0xFF) ∧
      (d ≠ alwaysOn → g.closing = true → t.dom d = { s.dom d with
        entry := 0, failing := false, kept := some (s.dom d).level } ∧
        (g.toLevel = (s.dom d).level → (s.dom d).entry = 0 → (t.gate x).again = true)) ∧
      (g.closing = false → t.doms = s.doms) ∧ t.body = ({ s with gates := t.gates, doms := t.doms } : State).body)) ∧
  (∀ (ag : Agent) (f : Fin 16) (w : Word) (s : State), s.grants ag Pg.clocks → w.getLsb 0 = true →
    s.flag Pg.clocks Clk.FC_EN f = false → Does (.fcStart ag f w) s fun t =>
      t.rd Pg.clocks Clk.FC_SEL f = bitsOf w.toNat 8 8 ∧ t.rd Pg.clocks Clk.FC_WIN f = bitsOf w.toNat 16 4 ∧
      (s.mayClaim (Reg.counter f) ag 1 = true → t.flag Pg.clocks Clk.FC_EN f = true ∧ f.val ∈ t.ck.counting ∧
        t.claimed (Reg.counter f) = true ∧ t.claimAgent (Reg.counter f) = ag ∧ t.logQ = s.logQ) ∧
      (s.mayClaim (Reg.counter f) ag 1 = false → t.flag Pg.clocks Clk.FC_EN f = false ∧ t.ck = s.ck ∧
        t.flag Pg.clocks Hdr.CLAIM_REFUSED = true ∧ s.enters t Pg.clocks 0x01 Sev.info ag
          (claimDetail (Reg.counter f) (s.claimAgent (Reg.counter f)) (s.claimFeature (Reg.counter f)))) ∧
      t.body = ({ s with ck := t.ck } : State).body) ∧
  (∀ (ag : Agent) (f : Fin 16) (w : Word) (s : State), s.grants ag Pg.clocks →
    (w.getLsb 0 = true → s.flag Pg.clocks Clk.FC_EN f = true → Does (.fcStart ag f w) s fun t =>
      t.flag Pg.clocks Clk.FC_EN f = true ∧ t.claimed (Reg.counter f) = s.claimed (Reg.counter f) ∧
      t.claimAgent (Reg.counter f) = s.claimAgent (Reg.counter f) ∧ t.logQ = s.logQ ∧ t.body = s.body) ∧
    (w.getLsb 0 = false → s.flag Pg.clocks Clk.FC_EN f = true → Does (.fcStart ag f w) s fun t =>
      t.flag Pg.clocks Clk.FC_EN f = false ∧ t.claimed (Reg.counter f) = false ∧
      t.ck = { s.ck with counting := s.ck.counting.erase f } ∧ t.logQ = s.logQ) ∧
    (w.getLsb 0 = false → s.flag Pg.clocks Clk.FC_EN f = false → Does (.fcStart ag f w) s fun t =>
      t.flag Pg.clocks Clk.FC_EN f = false ∧ t.ck = s.ck ∧ t.logQ = s.logQ ∧ t.body = s.body)) ∧
  (∀ (f : Fin 16) (edges : Word) (s : State), f.val ∉ s.ck.counting → Does (.fcWindowEnd f edges) s fun t => t = s) ∧
  (∀ (f : Fin 16) (edges : Word) (s : State), f.val ∈ s.ck.counting → Does (.fcWindowEnd f edges) s fun t =>
    t.rd Pg.clocks Clk.FC_COUNT f = edges.toNat /
      (if 201 ≤ s.rd Pg.clocks Clk.FC_SEL f ∧ s.rd Pg.clocks Clk.FC_SEL f ≤ 204 then 32 else 1) / 64 ∧
    t.flag Pg.clocks Clk.FC_DONE f = true ∧ t.flag Pg.clocks (irqBit 20) = true ∧
    (s.flag Pg.clocks Clk.FC_CONT f = true → t.ck = s.ck) ∧
    (s.flag Pg.clocks Clk.FC_CONT f = false → t.ck = { s.ck with counting := s.ck.counting.erase f }) ∧
    t.logQ = s.logQ ∧ t.body = ({ s with ck := t.ck } : State).body ∧
    s.onlyFields t [(Pg.clocks, Clk.FC_COUNT, f), (Pg.clocks, Clk.FC_DONE, f), (Pg.clocks, irqBit 20, 0)]) ∧
  (∀ (khz : Word) (s : State), Does (.bucketKhzUpdate khz) s fun t => t.rd Pg.clocks Clk.BUCKET_KHZ = khz.toNat ∧
    t.body = s.body ∧ t.logQ = s.logQ ∧ s.onlyFields t [(Pg.clocks, Clk.BUCKET_KHZ, 0)])

/-! ### Regions (chapter 05) and contexts (chapter 06) -/

/-- The flip-flops at a clock edge, causeway conflicts and block memories (R132, R141, R146, R147). Out of reset every
flip-flop of a region takes at an edge what its cell's record and the signals before the edge give it, the cells with an empty
record too. A causeway that both ends drive is told once on both pages. The restage of its cluster from layer C decides,
unless a staging has the bonds: where both ends still drive, the conflict persists, and it is logged; else the drivers come
back at the next edge. A port of a hosted block reads the byte, or in BMW mode the two bytes, as they were and then writes;
where both ports write one byte port A's value stays and the collision is told; while the slab is off a port reads poison. -/
def Obligations.causewaysAndBlocks : Prop :=
  (∀ (i : Fin 40) (x : Fin 64) (r : Fin 320) (c : Fin 16) (s : State), (s.rg i).live = true →
    s.tp.globalReset = false → (s.rg i).srst = false →
    bitOf (mget 0 (s.ffsNext i) (ffKey i x r)) c = bit (s.ffNext i (siteOf i x r) c)) ∧
  (∀ (p : Fin 20) (x : Fin 64) (r : Fin 320) (k : Fin 64) (s : State), s.bothDrive p x r k = true →
    ((s.rg p).conflicts.any fun c => c.x = x.val && c.r = r.val && c.idx = k.val && !c.passed) = false →
    Does (.cwConflict p x r k) s fun t => (t.rg p).conflicts = (s.rg p).conflicts ++ [⟨x, r, k, false, false⟩] ∧
      (∀ i, i = p.val ∨ i = p.val + 20 → t.rgRd i Rgn.CW_CONFLICT = 1 ∧
        t.rgRd i Rgn.CW_CONF_CNT = satAdd 16 (s.rgRd i Rgn.CW_CONF_CNT) 1 % 2 ^ 16 ∧ t.rgRd i Rgn.CW_COL = x ∧
        t.rgRd i Rgn.CW_ROW = r ∧ t.rgRd i Rgn.CW_IDX = k ∧ t.flag (Pg.region i) (irqBit 16) = true) ∧
      t.logQ = s.logQ ∧ t.body = ({ s with rgs := t.rgs } : State).body) ∧
  (∀ (p : Fin 20) (x : Fin 64) (r : Fin 320) (k : Fin 64) (s : State), s.bothDrive p x r k = false ∨
    ((s.rg p).conflicts.any fun c => c.x = x.val && c.r = r.val && c.idx = k.val && !c.passed) = true →
    Does (.cwConflict p x r k) s fun t => t = s) ∧
  (∀ (p : Fin 20) (x : Fin 64) (r : Fin 320) (s : State), s.bondsBusy p = true ∨
    ((s.rg p).conflicts.all fun c => c.x ≠ x.val || c.r ≠ r.val || c.persists || c.passed) = true →
    Does (.restageDone p x r) s fun t => t = s) ∧
  (∀ (p : Fin 20) (x : Fin 64) (r : Fin 320) (k : Fin 64) (s : State),
    (s.rg p).conflicts = [⟨x, r, k, false, false⟩] → s.bondsBusy p = false → Does (.restageDone p x r) s fun t =>
      (∀ i m, i = p.val ∨ i = p.val + 20 → m < 16 → (s.rg i).live = true → s.ctxValid i (s.liveCtx i) = true →
        t.activeSlot i x m r = (wordDecode (mget {} s.cfg (cfgKey i (s.liveCtx i) x m r))).2) ∧
      (t.rg p).conflicts = [⟨x, r, k, t.bothDrive p x r k, !t.bothDrive p x r k⟩] ∧
      (∀ i, i = p.val ∨ i = p.val + 20 → t.rgRd i Rgn.CW_PERSIST = bit (t.bothDrive p x r k)) ∧
      s.enters t (Pg.region p) 0x20 Sev.corrected Ag.hlp
        (x + r * 2 ^ 6 + k * 2 ^ 15 + bit (t.bothDrive p x r k) * 2 ^ 21) ∧
      t.body = ({ s with latch := t.latch, rgs := t.rgs } : State).body) ∧
  (∀ (i : Fin 40) (x : Fin 64) (k : Fin 16) (a b : BmPort) (d n : Nat) (s : State), s.regionRuns i = true →
    s.isOn (En.slab i) = true → s.bmHost i x (20 * k) = true → bitOf (s.activeSlot i x 7 (20 * k)) 31 = 0 →
    a.en = true → b.en = false → byteDecode (mget 0 s.bm (bmKey i (16 * x + k) a.addr.toNat)) = (.clean, d, n) →
    Does (.bmPortAccess i x k a b) s fun t =>
      mget 0 t.bmOut ((i * 1024 + (16 * x + k)) * 2) = d ∧
      (∀ j, mget 0 t.bm j = if j = bmKey i (16 * x + k) a.addr.toNat ∧ a.we.toNat % 2 = 1
        then byteEncode (a.wdata.toNat % 256) else mget 0 s.bm j) ∧
      t.logQ = s.logQ ∧ t.regs = s.regs ∧ t.body = ({ s with bm := t.bm, bmOut := t.bmOut } : State).body) ∧
  (∀ (i : Fin 40) (x : Fin 64) (k : Fin 16) (a b : BmPort) (d e n m : Nat) (s : State), s.regionRuns i = true →
    s.isOn (En.slab i) = true → s.bmHost i x (20 * k) = true → bitOf (s.activeSlot i x 7 (20 * k)) 31 = 1 →
    a.en = true → b.en = false →
    let at_ := 2 * (a.addr.toNat % 2048)
    byteDecode (mget 0 s.bm (bmKey i (16 * x + k) at_)) = (.clean, d, n) →
    byteDecode (mget 0 s.bm (bmKey i (16 * x + k) (at_ + 1))) = (.clean, e, m) →
    Does (.bmPortAccess i x k a b) s fun t =>
      mget 0 t.bmOut ((i * 1024 + (16 * x + k)) * 2) = d + e * 256 ∧
      (∀ j, mget 0 t.bm j =
        if j = bmKey i (16 * x + k) at_ ∧ a.we.toNat % 2 = 1 then byteEncode (a.wdata.toNat % 256)
        else if j = bmKey i (16 * x + k) (at_ + 1) ∧ a.we.toNat / 2 = 1 then byteEncode (a.wdata.toNat / 256)
        else mget 0 s.bm j) ∧
      t.logQ = s.logQ ∧ t.regs = s.regs ∧ t.body = ({ s with bm := t.bm, bmOut := t.bmOut } : State).body) ∧
  (∀ (i : Fin 40) (x : Fin 64) (k : Fin 16) (a b : BmPort) (s : State), s.regionRuns i = false →
    Does (.bmPortAccess i x k a b) s fun t => t = s) ∧
  (∀ (i : Fin 40) (x : Fin 64) (k : Fin 16) (a b : BmPort) (d n : Nat) (s : State), s.regionRuns i = true →
    s.isOn (En.slab i) = true → s.bmHost i x (20 * k) = true → s.bmHost i x (20 * k + 10) = true →
    bitOf (s.activeSlot i x 7 (20 * k)) 31 = 0 → bitOf (s.activeSlot i x 7 (20 * k + 10)) 31 = 0 →
    a.en = true → b.en = true → a.addr = b.addr → a.we.toNat % 2 = 1 → b.we.toNat % 2 = 1 →
    byteDecode (mget 0 s.bm (bmKey i (16 * x + k) a.addr.toNat)) = (.clean, d, n) →
    Does (.bmPortAccess i x k a b) s fun t =>
      mget 0 t.bmOut ((i * 1024 + (16 * x + k)) * 2) = d ∧ mget 0 t.bmOut ((i * 1024 + (16 * x + k)) * 2 + 1) = d ∧
      (∀ j, mget 0 t.bm j = if j = bmKey i (16 * x + k) a.addr.toNat then byteEncode (a.wdata.toNat % 256)
        else mget 0 s.bm j) ∧
      t.rgRd i Rgn.BM_COLLIDE = 1 ∧ t.rgRd i Rgn.BM_LAST = 16 * x + k ∧
      t.rgRd i Rgn.BM_COLL_CNT = satAdd 16 (s.rgRd i Rgn.BM_COLL_CNT) 1 % 2 ^ 16 ∧
      s.enters t (Pg.region i) 0x24 Sev.info Ag.hlp (16 * x + k)) ∧
  (∀ (i : Fin 40) (x : Fin 64) (k : Fin 16) (a b : BmPort) (s : State), s.regionRuns i = true →
    s.isOn (En.slab i) = false → s.bmHost i x (20 * k) = true → a.en = true → Does (.bmPortAccess i x k a b) s fun t =>
      mget 0 t.bmOut ((i * 1024 + (16 * x + k)) * 2) = 0x30000 ∧ t.bm = s.bm ∧ t.regs = s.regs)

/-- MGT ports, vote strobes, attachments, remaps and captures. A running region's live context acts through its MGT port as
agent 5, and the port shows the answer (R153); its VOTE port writes slot 5 of a domain. A write of an attachment of a context
that is live or being staged is ignored; one that R151 allows takes effect; one that it does not is refused and logged with
the lowest reason. At the bucket HLP chose, after what the milestones do on that edge, a waiting column joins the map of its
pair, lower column first, as each region of it that runs switches to its own live context with its flip-flops kept (R154 to
R156); where the regions that run take no staging the map waits. A capture that can take place is made on the first edge of
a bucket after its request, once for all captures of the bucket (R157 to R159). -/
def Obligations.regionPorts : Prop :=
  (∀ (i : Fin 40) (a v : Word) (s u : State), s.regionRuns i = true → s.livePort i 9 = true →
    (exec (.registerWrite 5 a 4 v) s = .next u → Does (.mgtPortAccess i a true v) s fun t =>
      t = u.setRg i { u.rg i with mgtDone := true, mgtResp := u.bus.resp.code }) ∧
    (exec (.rcRead 5 ⟨a, 4⟩) s = .next u → Does (.mgtPortAccess i a false v) s fun t =>
      t = u.setRg i { u.rg i with mgtDone := true, mgtResp := u.bus.resp.code, mgtData := u.bus.data })) ∧
  (∀ (i : Fin 40) (a v : Word) (w : Bool) (s : State), s.regionRuns i = false ∨ s.livePort i 9 = false →
    Does (.mgtPortAccess i a w v) s fun t => t = s) ∧
  (∀ (i : Fin 40) (d : BitVec 9) (l : BitVec 2) (s : State), s.regionRuns i = true → s.livePort i 10 = true →
    d.toNat < 270 → Does (.fabricVoteStrobe i d l) s fun t =>
      (∀ b : Fin 8, t.vote d.toNat b = if b.val = 5 then l.toNat else s.vote d.toNat b) ∧ (t.rg i).voteAck = true ∧
      t.logQ = s.logQ ∧ t.body = ({ s with rgs := t.rgs, doms := t.doms, gates := t.gates } : State).body) ∧
  (∀ (i : Fin 40) (d : BitVec 9) (l : BitVec 2) (s : State), s.regionRuns i = false ∨ s.livePort i 10 = false ∨
    270 ≤ d.toNat → Does (.fabricVoteStrobe i d l) s fun t => t = s) ∧
  (∀ (ag : Agent) (i : Fin 40) (c : Fin 8) (n : Fin 16) (v : Word) (s : State), s.grants ag (Pg.region i) →
    ¬ (bitsOf v.toNat 0 4 = s.rgRd i Rgn.TYPE (16 * c + n) ∧ bitsOf v.toNat 4 8 = s.rgRd i Rgn.INST (16 * c + n) ∧
      bitsOf v.toNat 12 9 = s.rgRd i Rgn.BASE_ROW (16 * c + n)) →
    Does (.attachmentWrite ag i c n v) s fun t =>
      (s.isLive i c = true → t.flag (Pg.region i) Hdr.WRITE_IGNORED = true ∧ t.logQ = s.logQ ∧
        s.onlyFields t [(Pg.region i, Hdr.WRITE_IGNORED, 0)]) ∧
      (s.isLive i c = false → (s.rg i).staging = none →
        s.attWhy i c n (bitsOf v.toNat 0 4) (bitsOf v.toNat 4 8) (bitsOf v.toNat 12 9) = none →
        t.rgRd i Rgn.TYPE (16 * c + n) = bitsOf v.toNat 0 4 ∧ t.rgRd i Rgn.INST (16 * c + n) = bitsOf v.toNat 4 8 ∧
        t.rgRd i Rgn.BASE_ROW (16 * c + n) = bitsOf v.toNat 12 9 ∧ t.logQ = s.logQ ∧
        ((∀ k, k < 416 → s.claimed (Reg.fifo k) = true → s.claimFeature (Reg.fifo k) ≠ regionFeature i) →
          s.onlyFields t [(Pg.region i, Rgn.TYPE, 16 * c + n), (Pg.region i, Rgn.INST, 16 * c + n),
          (Pg.region i, Rgn.BASE_ROW, 16 * c + n)])) ∧
      (∀ why, s.isLive i c = false → (s.rg i).staging = none →
        s.attWhy i c n (bitsOf v.toNat 0 4) (bitsOf v.toNat 4 8) (bitsOf v.toNat 12 9) = some why →
        t.rgRd i Rgn.ATT_REFUSED = 1 ∧ t.rgRd i Rgn.ATT_ENTRY = n ∧ t.rgRd i Rgn.ATT_CTX = c ∧
        t.rgRd i Rgn.ATT_WHY = why ∧ t.rgRd i Rgn.TYPE (16 * c + n) = s.rgRd i Rgn.TYPE (16 * c + n) ∧
        s.enters t (Pg.region i) 0x23 Sev.info ag (n + c * 2 ^ 4 + why * 2 ^ 7)) ∧
      t.body = s.body) ∧
  (∀ (ag : Agent) (i : Fin 40) (c : Fin 8) (n : Fin 16) (v : Word) (s : State), s.grants ag (Pg.region i) →
    bitsOf v.toNat 0 4 = s.rgRd i Rgn.TYPE (16 * c + n) → bitsOf v.toNat 4 8 = s.rgRd i Rgn.INST (16 * c + n) →
    bitsOf v.toNat 12 9 = s.rgRd i Rgn.BASE_ROW (16 * c + n) →
    Does (.attachmentWrite ag i c n v) s fun t => t = s.served) ∧
  (∀ (p : Fin 20) (edge : BitVec 16) (s : State), s.rgRd p Rgn.REMAP_PEND = 0 ∨ s.quietPoint = false →
    Does (.remapApply p edge) s fun t => t = s) ∧
  (∀ (p : Fin 20) (edge : BitVec 16) (s u : State), s.rgRd p Rgn.REMAP_PEND = 1 → s.quietPoint = true →
    u = s.each [p.val, p.val + 20] (fun i s => (s.captures i).regionFire i 2) → u.rgRd p Rgn.REMAP_PEND = 1 →
    u.rgRd p Rgn.PEND_COL < 128 → u.rgRd p Rgn.MAP0 < 128 →
    let on (i : Nat) : Prop := (u.rg i).live = true ∧ u.regionRuns i = true
    let why (i : Nat) := u.stageWhy i (u.liveCtx i) (u.onEdge 0 (u.rg i).stgEdge)
    let ok (i : Nat) : Prop := on i ∧ u.liveCtx i < 8 ∧ why i = none ∧ u.onEdge edge.toNat (u.rg i).swEdge = false ∧
      (u.rg i).stgNext = none
    Does (.remapApply p edge) s fun t =>
      ((¬ on p ∧ ¬ on (p + 20)) ∨ ok p ∨ ok (p + 20) → ∀ i, i = p.val ∨ i = p.val + 20 →
        t.rgRd i Rgn.MAP0 = min (u.rgRd p Rgn.PEND_COL) (u.rgRd p Rgn.MAP0) ∧
        t.rgRd i Rgn.MAP1 =
          (if u.rgRd p Rgn.MAP0 = 0x7F then 0x7F else max (u.rgRd p Rgn.PEND_COL) (u.rgRd p Rgn.MAP0)) ∧
        t.rgRd i Rgn.REMAP_PEND = 0 ∧ t.rgRd i Rgn.PEND_COL = 0x7F ∧ t.flag (Pg.region i) (irqBit 21) = true) ∧
      (∀ i, i = p.val ∨ i = p.val + 20 → ok i → t.liveCtx i = u.liveCtx i ∧
        t.rgRd i Rgn.SW_SEQ = (u.rgRd i Rgn.SW_SEQ + 1) % 2 ^ 32 ∧ t.rgRd i Rgn.LAST_SW_EDGE = edge.toNat ∧
        (mwf 0 u.ff = true → u.tp.globalReset = false → (u.rg i).srst = false → ∀ x r, x < 64 → r < 320 →
          mget 0 t.ff (ffKey i x r) = mget 0 u.ff (ffKey i x r))) ∧
      (∀ i, i = p.val ∨ i = p.val + 20 → ¬ on i → t.liveCtx i = u.liveCtx i ∧
        t.rgRd i Rgn.SW_SEQ = u.rgRd i Rgn.SW_SEQ) ∧
      ((on p ∨ on (p + 20)) → (∀ i, i = p.val ∨ i = p.val + 20 → on i → why i ≠ none) →
        t.rgRd p Rgn.REMAP_PEND = 1 ∧ t.rgRd p Rgn.MAP0 = u.rgRd p Rgn.MAP0)) ∧
  (∀ (ag : Agent) (i : Fin 40) (s : State), s.grants ag (Pg.region i) → Does (.captureRequest ag i) s fun t =>
    (s.captureOk i = true → (t.rg i).capReq = true ∧ t.regs = s.regs ∧
      ((s.rg i).capReq = false → (t.rg i).capSince = s.stamp) ∧ t.body = ({ s with rgs := t.rgs } : State).body) ∧
    (s.captureOk i = false → t.flag (Pg.region i) Hdr.WRITE_IGNORED = true ∧ t.body = s.body) ∧ t.logQ = s.logQ) ∧
  (∀ (ag : Agent) (i : Fin 40) (s : State), s.reaches ag = true →
    s.response ag (Pg.region i) = .off ∨ s.response ag (Pg.region i) = .retired → Does (.captureRequest ag i) s fun t =>
      t.flag (Pg.region i) Hdr.WRITE_IGNORED = true ∧ t.rgs = s.rgs ∧ t.sbank = s.sbank) ∧
  (∀ (i : Fin 40) (s : State), s.firesOn [3] i = [] → (s.rg i).capReq = true →
    s.bucketSince (s.rg i).capSince = true → s.captureOk i = true → Does (.capture i 0) s fun t =>
      ((s.rg i).capEdge ≠ some s.time64 → s.takesCapture t i 0) ∧
      ((s.rg i).capEdge = some s.time64 → t.sbank = s.sbank ∧ t.regs = s.regs) ∧
      (t.rg i).capReq = false ∧ t.logQ = s.logQ ∧
      t.body = ({ s with rgs := t.rgs, sbank := t.sbank } : State).body) ∧
  (∀ (i : Fin 40) (edge : BitVec 16) (s : State), edge ≠ 0 ∨ (s.firesOn [3] i = [] ∧
      ((s.rg i).capReq = false ∨ s.bucketSince (s.rg i).capSince = false ∨ s.captureOk i = false)) →
    Does (.capture i edge) s fun t => t = s)

/-- Requests and stagings (R169 to R171, R178 to R181). A register request for a staging or a switch waits in its PEND bit
for a bucket, and a second is ignored; a strobe of the request cluster is a request while FAB_REQ_EN is 1 and the region runs
a context. On its edge, after the captures and switches of that edge (u is the state they leave), a waiting stage request
whose checks pass begins the staging, or on the edge of a switch leaves it to the next edge: the latches that are not in use
take the context's words from layer C. One that fails a check is refused with the first failing check, counted and logged
with its source and agent; which check comes first is the model's choice (log entry 23). A register request waits while no
bucket passes. On the eighth edge of a staging STG_VALID tells whether the context is VALID, and on the ninth STAGING falls;
STAGE_DONE lets what is left of them pass. -/
def Obligations.stagings : Prop :=
  (∀ (ag : Agent) (i : Fin 40) (c : Fin 8) (s : State), s.grants ag (Pg.region i) →
    (Does (.stageRequest ag i c) s fun t =>
      (s.rgRd i Rgn.STG_PEND = 0 → t.rgRd i Rgn.STG_PEND = 1 ∧
        t.rg i = { s.rg i with stgReqs := (s.rg i).stgReqs ++ [⟨3, c, ag, s.stamp⟩] } ∧
        t.body = ({ s with rgs := t.rgs } : State).body ∧ s.onlyFields t [(Pg.region i, Rgn.STG_PEND, 0)]) ∧
      (s.rgRd i Rgn.STG_PEND = 1 → t.flag (Pg.region i) Hdr.WRITE_IGNORED = true ∧ t.body = s.body ∧
        s.onlyFields t [(Pg.region i, Hdr.WRITE_IGNORED, 0)]) ∧ t.logQ = s.logQ) ∧
    (Does (.switchRequest ag i c) s fun t =>
      (s.rgRd i Rgn.SW_PEND = 0 → t.rgRd i Rgn.SW_PEND = 1 ∧
        t.rg i = { s.rg i with swReqs := (s.rg i).swReqs ++ [⟨3, c, ag, s.stamp⟩] } ∧
        t.body = ({ s with rgs := t.rgs } : State).body ∧ s.onlyFields t [(Pg.region i, Rgn.SW_PEND, 0)]) ∧
      (s.rgRd i Rgn.SW_PEND = 1 → t.flag (Pg.region i) Hdr.WRITE_IGNORED = true ∧ t.body = s.body ∧
        s.onlyFields t [(Pg.region i, Hdr.WRITE_IGNORED, 0)]) ∧ t.logQ = s.logQ)) ∧
  (∀ (i : Fin 40) (c : Fin 8) (s : State), s.rgRd i Rgn.FAB_REQ_EN = 1 → s.regionRuns i = true →
    (s.rg i).live = true →
    (Does (.fabricStageStrobe i c) s fun t => t = { s with rgs := t.rgs } ∧
      t.rg i = { s.rg i with stgReqs := (s.rg i).stgReqs ++ [⟨2, c, Ag.fabric, none⟩] } ∧ ∀ j, j ≠ i.val → t.rg j = s.rg j) ∧
    (Does (.fabricSwitchStrobe i c) s fun t => t = { s with rgs := t.rgs } ∧
      t.rg i = { s.rg i with swReqs := (s.rg i).swReqs ++ [⟨2, c, Ag.fabric, none⟩] } ∧ ∀ j, j ≠ i.val → t.rg j = s.rg j)) ∧
  (∀ (i : Fin 40) (c : Fin 8) (s : State), s.rgRd i Rgn.FAB_REQ_EN = 0 ∨ s.regionRuns i = false ∨
    (s.rg i).live = false →
    (Does (.fabricStageStrobe i c) s fun t => t = s) ∧ (Does (.fabricSwitchStrobe i c) s fun t => t = s)) ∧
  (∀ (i : Fin 40) (q : Req) (s u : State), u = (s.edgeBefore i 1).regionFire i 1 → (u.rg i).stgReqs = [q] →
    q.ctx < 8 → (q.src = 1 ∨ (q.src = 2 ∧ ∀ p ∈ (u.rg i).swReqs, p.src ≠ 2) ∨
      (q.src = 3 ∧ u.bucketSince q.since = true)) →
    let taken := u.onEdge 0 (u.rg i).stgEdge
    let switched := (u.rg i).swEdge.any fun m => m.t64 = u.time64 && m.cycle = u.cycles
    (u.stageWhy i q.ctx taken = none → Does (.stageApply i) s fun t => (t.rg i).stgReqs = [] ∧
      (q.src = 3 → t.rgRd i Rgn.STG_PEND = 0) ∧ (t.rg i).active = (u.rg i).active ∧
      (switched = false → u.beginsStaging t i q.ctx q.src ∧
        ∀ x m r, x < 64 → m < 16 → r < 320 → (u.rg i).active < 2 → t.activeSlot i x m r = u.activeSlot i x m r) ∧
      (switched = true → (t.rg i).stgNext = some q ∧ t.latch = u.latch ∧ (t.rg i).staging = (u.rg i).staging)) ∧
    (∀ why, u.stageWhy i q.ctx taken = some why → Does (.stageApply i) s fun t =>
      (t.rg i).staging = (u.rg i).staging ∧ (t.rg i).stgReqs = [] ∧
      (q.src = 3 → t.rgRd i Rgn.STG_PEND = 0) ∧
      t.rgRd i Rgn.STG_WHY = why ∧ t.rgRd i Rgn.STG_SRC = q.src ∧ t.rgRd i Rgn.STG_RCTX = q.ctx ∧
      t.rgRd i Rgn.STG_REF_CNT = satAdd 16 (u.rgRd i Rgn.STG_REF_CNT) 1 % 2 ^ 16 ∧
      t.flag (Pg.region i) (irqBit 27) = true ∧
      u.enters t (Pg.region i) 0x31 Sev.info q.agent (q.ctx + q.src * 2 ^ 3 + why * 2 ^ 5) ∧
      t.body = ({ u with rgs := t.rgs } : State).body)) ∧
  (∀ (i : Fin 40) (s u : State), u = (s.edgeBefore i 1).regionFire i 1 →
    (∀ q ∈ (u.rg i).stgReqs, q.src = 3 ∧ u.bucketSince q.since = false) → Does (.stageApply i) s fun t =>
      (t.rg i).stgReqs = (u.rg i).stgReqs ∧ t.regs = u.regs ∧ t.logQ = u.logQ ∧
      t.body = ({ u with rgs := t.rgs } : State).body) ∧
  (∀ (i : Fin 40) (g : Staging) (s : State), (s.rg i).staging = some g → (s.rg i).stgNext = none →
    Does (.stageDone i) s fun t =>
      t.rg i = { s.rg i with staging := none, stgEdge := none } ∧ t.rgRd i Rgn.STAGING = 0 ∧
      (g.edges < 8 → t.rgRd i Rgn.STG_VALID = bit (s.ctxValid i g.ctx) ∧ t.flag (Pg.region i) (irqBit 25) = true) ∧
      (8 ≤ g.edges → t.rgRd i Rgn.STG_VALID = s.rgRd i Rgn.STG_VALID ∧
        t.flag (Pg.region i) (irqBit 25) = s.flag (Pg.region i) (irqBit 25)) ∧ t.logQ = s.logQ ∧
      t.body = ({ s with rgs := t.rgs } : State).body ∧
      s.onlyFields t [(Pg.region i, Rgn.STAGING, 0), (Pg.region i, Rgn.STG_VALID, 0), (Pg.region i, irqBit 25, 0)]) ∧
  (∀ (i : Fin 40) (q : Req) (s : State), (s.rg i).stgNext = some q → q.ctx < 8 → Does (.stageDone i) s fun t =>
    (t.rg i).staging = none ∧ (t.rg i).stgNext = none ∧ t.rgRd i Rgn.STAGING = 0 ∧ t.rgRd i Rgn.STG_CTX = q.ctx ∧
    t.rgRd i Rgn.STG_VALID = bit (s.ctxValid i q.ctx) ∧ t.flag (Pg.region i) (irqBit 25) = true) ∧
  (∀ (i : Fin 40) (s : State), (s.rg i).staging = none → (s.rg i).stgNext = none →
    Does (.stageDone i) s fun t => t = s) ∧
  (∀ (i : Fin 40) (g : Staging) (s : State), (s.rg i).staging = some g →
    let t := s.stagingEdge i
    (g.edges < 8 → (t.rg i).staging = some { g with edges := g.edges + 1 } ∧
      t.rgRd i Rgn.STAGING = s.rgRd i Rgn.STAGING) ∧
    (g.edges < 7 → t.regs = s.regs) ∧
    (g.edges = 7 → t.rgRd i Rgn.STG_VALID = bit (s.ctxValid i g.ctx) ∧ t.flag (Pg.region i) (irqBit 25) = true) ∧
    (g.edges = 8 → (t.rg i).staging = none ∧ t.rgRd i Rgn.STAGING = 0 ∧
      t.rgRd i Rgn.STG_VALID = s.rgRd i Rgn.STG_VALID))

/-- SWITCH_APPLY (R173 to R177, R179, R180). On its edge, after the captures and the milestones' switches of that edge (u is
the state they leave), a waiting request whose checks pass switches the region: the latch sets change places, the outgoing
context's flip-flops go into its bank, and the flip-flops take, under a reset, the INIT of the incoming context; for a switch
to the context already live, what they held; with RESTORE, the restore latches, a poisoned byte giving its INIT; else INIT.
One that fails a check is refused, counted and logged; which check comes first is the model's choice (log entry 23). A
register request waits for the first edge of a bucket. -/
def Obligations.contextSwitch : Prop :=
  (∀ (i : Fin 40) (edge : BitVec 16) (q : Req) (s u : State), u = (s.edgeBefore i 2).regionFire i 2 →
    (u.rg i).swReqs = [q] → q.ctx < 8 →
    (q.src = 1 ∨ q.src = 2 ∨ (q.src = 3 ∧ edge = 0 ∧ u.bucketSince q.since = true)) →
    let taken := u.onEdge edge.toNat (u.rg i).swEdge
    (u.switchWhy i q.ctx taken = none → Does (.switchApply i edge) s fun t =>
      u.switchesTo t i q.ctx edge.toNat ∧ (t.rg i).swReqs = [] ∧ (q.src = 3 → t.rgRd i Rgn.SW_PEND = 0) ∧
      (mwf 0 u.ff = true → (u.rg i).live = true → ∀ x r b, x < 64 → r < 320 → b < 2 →
        mget 0 t.sbank (sbKey i (u.liveCtx i) x r b) = byteEncode (bitsOf (mget 0 u.ff (ffKey i x r)) (8 * b) 8)) ∧
      (mwf 0 u.ff = true → mwf 0 u.restore = true → ∀ x r, x < 64 → r < 320 →
        let init := mget 0 (initOf i (u.latchSlots (1 - (u.rg i).active) i)) (ffKey i x r)
        let held := mget 0 u.restore (ffKey i x r)
        mget 0 t.ff (ffKey i x r) =
          if u.tp.globalReset || (u.rg i).srst then init
          else if q.ctx = u.liveCtx i then mget 0 u.ff (ffKey i x r)
          else if (u.rg i).stagedRestore then
            (if bitOf held 16 = 1 then init % 256 else held % 256) +
              (if bitOf held 17 = 1 then bitsOf init 8 8 else bitsOf held 8 8) * 256
          else init) ∧
      (∀ j x r, j < 40 → j ≠ i.val → x < 64 → r < 320 → mget 0 t.ff (ffKey j x r) = mget 0 u.ff (ffKey j x r))) ∧
    (∀ why, u.switchWhy i q.ctx taken = some why → Does (.switchApply i edge) s fun t =>
      t.liveCtx i = u.liveCtx i ∧ (t.rg i).active = (u.rg i).active ∧ (t.rg i).swReqs = [] ∧
      (q.src = 3 → t.rgRd i Rgn.SW_PEND = 0) ∧
      t.rgRd i Rgn.SW_WHY = why ∧ t.rgRd i Rgn.SW_SRC = q.src ∧ t.rgRd i Rgn.SW_RCTX = q.ctx ∧
      t.rgRd i Rgn.SW_REF_CNT = satAdd 16 (u.rgRd i Rgn.SW_REF_CNT) 1 % 2 ^ 16 ∧
      t.flag (Pg.region i) (irqBit 26) = true ∧
      u.enters t (Pg.region i) 0x30 Sev.info q.agent (q.ctx + q.src * 2 ^ 3 + why * 2 ^ 5) ∧
      t.body = ({ u with rgs := t.rgs } : State).body)) ∧
  (∀ (i : Fin 40) (edge : BitVec 16) (s u : State), u = (s.edgeBefore i 2).regionFire i 2 →
    (∀ q ∈ (u.rg i).swReqs, q.src = 3 ∧ (edge ≠ 0 ∨ u.bucketSince q.since = false)) →
    Does (.switchApply i edge) s fun t => (t.rg i).swReqs = (u.rg i).swReqs ∧ t.regs = u.regs ∧ t.logQ = u.logQ ∧
      t.body = ({ u with rgs := t.rgs } : State).body)

/-! ### The loader (chapter 07) -/

/-- The ports of the loader (R191 to R193, R215, R216). The sync word from a port that may own the loader opens a stream,
and between two packets of the open stream it aborts that stream and opens another. What a port sends before the loader is
READY, or while another port owns it, is dropped and told; so is a serial word that meets a full buffer, with the stream
(R208). Serial and parallel words are counted, a serial word that SSEL_N cuts short is discarded, and a parallel word that
PSREADY does not take is none. -/
def Obligations.streamPorts : Prop :=
  (∀ (port : StreamPort) (s : State), s.flag Pg.loader Ld.READY = true → s.ldRd Ld.SRC = 0 → s.streamOpen = false →
    s.ld.jobs = [] → s.ld.fifo = [] → (port = .serial → s.rd 0 Wbh.CFG_MODE = 1) → (port = .parallel → s.psReady = true) →
    Does (.syncWord port) s fun t => s.opensStream t (portCode port)) ∧
  (∀ (o : Nat) (s : State), s.flag Pg.loader Ld.READY = true → s.ldRd Ld.SRC = 1 → s.between o →
    Does (.syncWord .pcie) s fun t => s.opensStream t 1 ∧ t.ldRd Ld.ABORTED = 1 ∧ t.ldRd Ld.WHY = Abort.resync) ∧
  (∀ (a : Word) (bs : List (BitVec 8)) (s : State), s.flag Pg.loader Ld.READY = false →
    Does (.loaderWindowWrite a bs) s fun t => t.ldRd Ld.EARLY_DROP = 1 ∧ t.body = s.body ∧
      s.onlyFields t ((Pg.loader, Ld.EARLY_DROP, 0) :: logFields Pg.loader)) ∧
  (∀ (a : Word) (bs : List (BitVec 8)) (s : State), s.flag Pg.loader Ld.READY = true → 2 ≤ s.ldRd Ld.SRC →
    Does (.loaderWindowWrite a bs) s fun t => t.ldRd Ld.SRC_BUSY = 1 ∧ t.body = ({ s with ld := t.ld } : State).body ∧
      (s.ld.busyTold = false → s.enters t Pg.loader 0x26 Sev.info Ag.hlp 1) ∧
      s.onlyFields t ((Pg.loader, Ld.SRC_BUSY, 0) :: logFields Pg.loader)) ∧
  (∀ (a : Word) (bs : List (BitVec 8)) (s : State), s.flag Pg.loader Ld.READY = true → s.ldRd Ld.SRC = 1 →
    s.streamOpen = true → s.noSyncBehind → (a.toNat % 4 ≠ 0 ∨ bs.length % 4 ≠ 0) →
    Does (.loaderWindowWrite a bs) s fun t => s.abortsWith t Abort.badCmd s.ldFull) ∧
  (∀ (a : Word) (s : State), s.flag Pg.loader Ld.READY = true → s.ldRd Ld.SRC = 0 → s.streamOpen = false →
    a.toNat % 4 = 0 → Does (.loaderWindowWrite a [0x96, 0x5A, 0xC4, 0xB3]) s fun t => s.opensStream t 1) ∧
  (∀ (w : Word) (s : State), s.rd 0 Wbh.CFG_MODE = 1 → Does (.serialWord w) s fun t =>
    t.rd Pg.slave Slv.SER_WORDS = (s.rd Pg.slave Slv.SER_WORDS + 1) % 2 ^ 32 ∧ t.rd Pg.slave Slv.SSEL_LOW = 1 ∧
    (s.flag Pg.loader Ld.READY = true → s.ldRd Ld.SRC ≠ 0 → s.ldRd Ld.SRC ≠ 2 → t.ldRd Ld.SRC_BUSY = 1 ∧
      t.rd Pg.slave Slv.SER_DROP = satAdd 16 (s.rd Pg.slave Slv.SER_DROP) 1 % 2 ^ 16) ∧
    (s.flag Pg.loader Ld.READY = true → s.ldRd Ld.SRC = 0 → s.streamOpen = false → s.ld.jobs = [] →
      (w = 0xB3C45A96 → s.opensStream t 2) ∧ (w ≠ 0xB3C45A96 → t.body = s.body ∧ t.logQ = s.logQ))) ∧
  (∀ (w : Word) (s : State), s.rd 0 Wbh.CFG_MODE = 1 → s.flag Pg.loader Ld.READY = true → s.ldRd Ld.SRC = 2 →
    s.streamOpen = true → s.ld.jobs ≠ [] → 16384 ≤ s.ld.buf.length → s.noSyncBehind → Does (.serialWord w) s fun t =>
      s.abortsWith t Abort.overflow s.ldFull ∧
      t.rd Pg.slave Slv.SER_DROP = satAdd 16 (s.rd Pg.slave Slv.SER_DROP) 1 % 2 ^ 16) ∧
  (∀ (w : Word) (s : State), s.rd 0 Wbh.CFG_MODE ≠ 1 → Does (.serialWord w) s fun t => t = s) ∧
  (∀ (p : Bool) (s : State), s.rd 0 Wbh.CFG_MODE = 1 → Does (.sselRise p) s fun t =>
    t.rd Pg.slave Slv.SSEL_LOW = 0 ∧ t.body = s.body ∧ t.logQ = s.logQ ∧ t.rd Pg.slave Slv.SER_PARTIAL % 2 ^ 16 =
      (if p then satAdd 16 (s.rd Pg.slave Slv.SER_PARTIAL) 1 else s.rd Pg.slave Slv.SER_PARTIAL) % 2 ^ 16) ∧
  (∀ (p : Bool) (s : State), s.rd 0 Wbh.CFG_MODE ≠ 1 → Does (.sselRise p) s fun t => t = s) ∧
  (∀ (w : Word) (s : State), s.psReady = true → s.streamOpen = false → s.ld.jobs = [] → s.ld.fifo = [] →
    Does (.parallelWord w) s fun t =>
    t.rd Pg.slave Slv.PAR_WORDS = (s.rd Pg.slave Slv.PAR_WORDS + 1) % 2 ^ 32 ∧
    (w = 0xB3C45A96 → s.opensStream t 3) ∧ (w ≠ 0xB3C45A96 → t.body = s.body ∧ t.logQ = s.logQ)) ∧
  (∀ (w : Word) (s : State), s.psReady = false → Does (.parallelWord w) s fun t =>
    t.rd Pg.slave Slv.PAR_WORDS = s.rd Pg.slave Slv.PAR_WORDS ∧ t.body = ({ s with ld := t.ld } : State).body ∧
    (s.rd 0 Wbh.CFG_MODE = 2 → s.ldRd Ld.SRC = 1 ∨ s.ldRd Ld.SRC = 2 → t.ldRd Ld.SRC_BUSY = 1) ∧
    (s.rd 0 Wbh.CFG_MODE ≠ 2 ∨ (s.ldRd Ld.SRC ≠ 1 ∧ s.ldRd Ld.SRC ≠ 2) → t = s))

/-- The packets that set the loader up (R194 to R198, R207). Without a stream a packet is no packet. NOP has no effect.
An IMAGE packet whose checks pass begins the body; one for another member aborts. DEVSEL selects the devices of its mask;
FAR sets the frame address of a selected device. WREG pairs that may be written wait for CLOSE; one that may not aborts the
stream. A BULK word of a full image goes straight to its window; a partial one may hold none. RFENCE of a full image sets the fence, of a partial one aborts. DESYNC
ends the stream. -/
def Obligations.streamPackets : Prop :=
  (∀ (a b d e f : Word) (m : BitVec 64) (mac : BitVec 256) (ws : List Word) (ps : List (Word × Word))
    (fs : List FrameWords) (fw : List Word) (c : Instr) (s : State), s.streamOpen = false →
    c ∈ [.streamNop ws, .image a b d e, .devsel m, .far a, .frames fs, .frame ⟨fw, a⟩, .repeatFrames a, .zeroFrames a, .wreg ps,
      .bulk a ws, .rfence a b d, .encBegin a b d e f ws, .encTag a b d e, .hmac a mac, .close, .startPacket a, .desync] →
    Does c s fun t => t = s) ∧
  (∀ (ws : List Word) (s : State), s.between 1 → ws.length < 2 ^ 24 → Does (.streamNop ws) s fun t => t.between 1 ∧
    t = { s with ld := t.ld } ∧ t.ld.far = s.ld.far ∧ t.ld.written = s.ld.written ∧ t.ld.flags = s.ld.flags) ∧
  (∀ (fl m id : Word) (s : State), s.between 0 → fl.toNat < 16 → m.toNat % 2 ^ 16 = s.rd 0 Wbh.MEMBER →
    (fl.getLsb 0 = true → s.ldRd Ld.SRC = s.fullPort) → fl.getLsb 0 ≠ s.flag Pg.loader Ld.LOADED →
    (bitOf (s.scRd Scp.POLICY) 0 = 1 → fl.getLsb 1 = true) → (bitOf (s.scRd Scp.POLICY) 1 = 1 → fl.getLsb 2 = true) →
    Does (.image fl m id 0) s fun t => t.between 1 ∧ t.ld.flags = fl.toNat ∧ t.ld.imageId = id.toNat ∧
      t.ld.selected = true ∧ t.ldRd Ld.FULL = bit (fl.getLsb 0) ∧ t.body = ({ s with ld := t.ld } : State).body ∧
      t.logQ = s.logQ ∧ s.onlyFields t [(Pg.loader, Ld.FULL, 0)]) ∧
  (∀ (fl m id : Word) (s : State), s.between 0 → fl.toNat < 16 → m.toNat % 2 ^ 16 ≠ s.rd 0 Wbh.MEMBER →
    (fl.getLsb 0 = true → s.ldRd Ld.SRC = s.fullPort) →
    Does (.image fl m id 0) s fun t => s.abortsWith t Abort.member (fl.getLsb 0)) ∧
  (∀ (mask : BitVec 64) (s : State), s.between 1 → Does (.devsel mask) s fun t => t.between 1 ∧
    t.ld.selected = decide (bitOf mask.toNat (s.rd 0 Wbh.DEV_ID) = 1) ∧ t = { s with ld := t.ld } ∧
    t.ld.far = s.ld.far) ∧
  (∀ (a : Word) (s : State), s.between 1 → bitOf s.ld.flags 2 = 0 → Does (.far a) s fun t => t.between 1 ∧
    t.ld.far = (if s.ld.selected then a.toNat else s.ld.far) ∧ t = { s with ld := t.ld }) ∧
  (∀ (ps : List (Word × Word)) (s : State), s.between 1 → bitOf s.ld.flags 2 = 0 → s.ld.selected = true → ps ≠ [] →
    ps.length ≤ 2048 →
    (s.ld.wreg.length + ps.length ≤ 2048 → (∀ p ∈ ps, s.wregWhy p.1.toNat p.2.toNat = none) →
      Does (.wreg ps) s fun t => t.between 1 ∧ t = { s with ld := t.ld } ∧
        t.ld.wreg = s.ld.wreg ++ ps.map fun p => (p.1.toNat, p.2.toNat)) ∧
    (∀ why, s.ld.wreg.length + ps.length ≤ 2048 → why < 16 →
      (ps.findSome? fun p => s.wregWhy p.1.toNat p.2.toNat) = some why →
      Does (.wreg ps) s fun t => s.abortsWith t why s.ldFull) ∧
    (2048 < s.ld.wreg.length + ps.length → Does (.wreg ps) s fun t => s.abortsWith t Abort.badCmd s.ldFull)) ∧
  (∀ (a w : Word) (s : State), s.between 1 → bitOf s.ld.flags 2 = 0 → s.ld.selected = true → s.ldFull = true →
    (∀ u, s.bulkWrite a.toNat w.toNat = some u → Does (.bulk a [w]) s fun t => t.between 1 ∧ t.regs = u.regs ∧
      t.logQ = u.logQ ∧ t.body = ({ u with ld := t.ld } : State).body) ∧
    (s.bulkWrite a.toNat w.toNat = none → Does (.bulk a [w]) s fun t => s.abortsWith t Abort.badCmd true)) ∧
  (∀ (a w : Word) (s : State), s.between 1 → bitOf s.ld.flags 2 = 0 → s.ld.selected = true → s.ldFull = false →
    a ≠ 0xB3C45A96 → w ≠ 0xB3C45A96 → Does (.bulk a [w]) s fun t => s.abortsWith t Abort.badCmd false) ∧
  (∀ (lo hi ctx : Word) (s : State), s.between 1 → bitOf s.ld.flags 2 = 0 → s.ld.selected = true →
    Does (.rfence lo hi ctx) s fun t =>
      (s.ldFull = true → t.ldRd Ld.RFENCE_LO = lo.toNat ∧ t.ldRd Ld.RFENCE_HI = hi.toNat % 2 ^ 8 ∧
        t.ldRd Ld.RFENCE_CTX = ctx.toNat % 2 ^ 8 ∧ t.ld.fenceSeen = true ∧ t.between 1 ∧ t.logQ = s.logQ ∧
        s.onlyFields t [(Pg.loader, Ld.RFENCE_LO, 0), (Pg.loader, Ld.RFENCE_HI, 0), (Pg.loader, Ld.RFENCE_CTX, 0)]) ∧
      (s.ldFull = false → s.abortsWith t Abort.fence false)) ∧
  (∀ s : State, s.between (if s.ldFull then 4 else 3) → Does .desync s fun t => t.streamOpen = false ∧
    t.ldRd Ld.SRC = 0 ∧ t.body = ({ s with ld := t.ld } : State).body ∧ t.logQ = s.logQ ∧
    s.onlyFields t [(Pg.loader, Ld.SYNCED, 0), (Pg.loader, Ld.SRC, 0)])

/-- Frames (R199 to R209). A frame of a FRAMES packet is judged by the checks of Table 07.5 in their order: it is written
and FAR advances; or the stream aborts with its reason and FAR; or, where its region is RETIRED, it is skipped and counted;
or it waits for a staging of its context, or for the write window, which is told; or CFP votes for the plane or slab it
needs, and it is written at once if that is enough. A REPEAT writes the data of the last frame
and a ZERO zeros; a count outside 1 to 65,535, or a REPEAT before any frame, aborts. A held frame is judged again. -/
def Obligations.frames : Prop :=
  (∀ (f : FrameWords) (s : State), f.data.length = 640 → s.ld.selected = true →
    let data := f.data.map (·.toNat)
    let v := s.judge s.ld.far data (some f.crc.toNat)
    let judged (c : Instr) : Prop :=
      (v = .write → Does c s fun t => s.writesFrame t s.ld.far data ∧ t.streamOpen = true ∧ t.ld.last = some data) ∧
      (∀ why chk, v = .fail why chk → Does c s fun t => s.abortsWith t why s.ldFull ∧ t.ldRd Ld.CHK_WHY = chk % 8 ∧
        t.ldRd Ld.ABORT_FAR = s.ld.far % 2 ^ 32) ∧
      (v = .skip → Does c s fun t => t.cfg = s.cfg ∧ t.ld.last = some data ∧ t.ld.far = farNext s.ld.far ∧ t.ld.jobs = [] ∧
        t.ldRd Ld.CNT_SKIP = satAdd 16 (s.ldRd Ld.CNT_SKIP) 1 % 2 ^ 16) ∧
      (v = .hold → Does c s fun t => t = { s with ld := t.ld } ∧ t.ld.jobs = [⟨data, some f.crc.toNat, 1⟩] ∧
        t.ld.far = s.ld.far) ∧
      (v = .window → Does c s fun t => t.cfg = s.cfg ∧ t.flag Pg.loader Ld.TEMP_HOLD = true ∧
        t.ld.jobs = [⟨data, some f.crc.toNat, 1⟩] ∧ t.ld.far = s.ld.far) ∧
      (∀ d, v = .power d → Does c s fun t => (s.taken d < 3 → t.vote d Ag.cfp = 3) ∧
        let w := (s.loadVote d).judge s.ld.far data (some f.crc.toNat)
        (w = .write → s.writesFrame t s.ld.far data ∧ t.streamOpen = true) ∧
        (w ≠ .write → t.cfg = s.cfg ∧ t.ld.jobs = [⟨data, some f.crc.toNat, 1⟩] ∧ t.ld.far = s.ld.far))
    (s.between 1 → bitOf s.ld.flags 2 = 0 → judged (.frames [f])) ∧
    (s.streamOpen = true → s.ld.jobs = [] → s.ld.enc = none → s.ld.op = Op.frames → s.ld.kept = [] → 641 ≤ s.ld.left →
      judged (.frame f))) ∧
  (∀ (d : List Nat) (s : State), s.between 1 → bitOf s.ld.flags 2 = 0 → s.ld.selected = true → d.length = 640 →
    (s.ld.last = some d → s.judge s.ld.far d none = .write →
      Does (.repeatFrames 1) s fun t => s.writesFrame t s.ld.far d ∧ t.streamOpen = true) ∧
    (s.judge s.ld.far (List.replicate 640 0) none = .write →
      Does (.zeroFrames 1) s fun t => s.writesFrame t s.ld.far (List.replicate 640 0) ∧ t.streamOpen = true)) ∧
  (∀ (n : Word) (s : State), s.between 1 → bitOf s.ld.flags 2 = 0 → s.ld.selected = true →
    (n = 0 ∨ 65536 ≤ n.toNat ∨ s.ld.last = none → Does (.repeatFrames n) s fun t => s.abortsWith t Abort.badCmd s.ldFull) ∧
    (n = 0 ∨ 65536 ≤ n.toNat → Does (.zeroFrames n) s fun t => s.abortsWith t Abort.badCmd s.ldFull)) ∧
  (∀ (j : Job) (s : State), s.streamOpen = true → s.ld.jobs = [j] → j.times = 1 →
    j.data.length = 640 → s.nothingBehind →
    (s.judge s.ld.far j.data j.crc = .write → Does .heldFrameWrite s fun t => s.writesFrame t s.ld.far j.data) ∧
    (∀ why chk, s.judge s.ld.far j.data j.crc = .fail why chk →
      Does .heldFrameWrite s fun t => s.abortsWith t why s.ldFull) ∧
    (s.judge s.ld.far j.data j.crc = .hold → Does .heldFrameWrite s fun t => t = s)) ∧
  (∀ s : State, s.ld.jobs = [] → Does .heldFrameWrite s fun t => t = s)

/-- Encrypted sections and the image MAC (R492, R493). ENC_BEGIN with a key that may decrypt opens a section of LEN words,
and the words that follow are taken as they come; ENC_TAG closes it where the GCM tag over what came is right; HMAC with a
key that may sign images passes where the MAC over the words since the IMAGE header is right. A missing key and a wrong tag
or MAC abort the stream. The algorithms are the published ones (log entry 24). -/
def Obligations.streamSecurity : Prop :=
  (∀ (slot iv0 iv1 iv2 len : Word) (k : List Nat) (s : State), s.between 1 →
    s.keyFor (slot.toNat % 256) 2 = some k → Does (.encBegin slot iv0 iv1 iv2 len []) s fun t =>
      t = { s with ld := t.ld } ∧ t.ld.left = 0 ∧ t.ld.order = 1 ∧
      t.ld.enc = some ⟨slot.toNat % 256, [iv0.toNat, iv1.toNat, iv2.toNat].flatMap leBytes,
        [packetHeader Op.encBegin 5, slot.toNat, iv0.toNat, iv1.toNat, iv2.toNat, len.toNat], len.toNat, []⟩) ∧
  (∀ (slot iv0 iv1 iv2 len : Word) (cipher : List Word) (s : State), Does (.encBegin slot iv0 iv1 iv2 len cipher) s
    fun t => ∃ u, exec (.encBegin slot iv0 iv1 iv2 len []) s = .next u ∧
      t = u.ownerWords (cipher.map BitVec.toNat)) ∧
  (∀ (slot iv0 iv1 iv2 len : Word) (cipher : List Word) (s : State), s.between 1 →
    s.keyFor (slot.toNat % 256) 2 = none → Does (.encBegin slot iv0 iv1 iv2 len cipher) s fun t =>
      s.abortsWith t Abort.auth s.ldFull) ∧
  (∀ (a b c d : Word) (e : Enc) (s : State), s.streamOpen = true → s.ld.jobs = [] → s.ld.left = 0 →
    s.ld.enc = some e → e.left = 0 → s.ld.order ≠ 0 →
    let right := gcmTag (s.keyBytes e.slot) e.iv (e.aad.flatMap leBytes) (e.cipher.reverse.flatMap leBytes) =
      [a.toNat, b.toNat, c.toNat, d.toNat].flatMap leBytes
    (right → Does (.encTag a b c d) s fun t => t = { s with ld := t.ld } ∧ t.ld.enc = none ∧ t.ld.left = 0 ∧
      t.ld.order = s.ld.order) ∧
    (¬ right → Does (.encTag a b c d) s fun t => s.abortsWith t Abort.auth s.ldFull)) ∧
  (∀ (slot : Word) (mac : BitVec 256) (k : List Nat) (s : State), s.between 1 →
    s.keyFor (slot.toNat % 256) 1 = some k →
    let right := hmacSha256 k (s.ld.seen.reverse.flatMap leBytes) =
      ((List.range 8).map fun j => bitsOf mac.toNat (32 * j) 32).flatMap leBytes
    (right → Does (.hmac slot mac) s fun t => t = { s with ld := t.ld } ∧ t.ld.macOk = true ∧ t.between 2) ∧
    (¬ right → Does (.hmac slot mac) s fun t => s.abortsWith t Abort.auth s.ldFull)) ∧
  (∀ (slot : Word) (mac : BitVec 256) (s : State), s.between 1 → s.keyFor (slot.toNat % 256) 1 = none →
    Does (.hmac slot mac) s fun t => s.abortsWith t Abort.auth s.ldFull)

/-- CLOSE, START, LOAD_COMPLETE and the loader's timers (R166, R197, R210, R213, R219, R208). CLOSE makes every context that
the stream was writing VALID with its generation counted, and shows IMAGE_ID; an image that must carry a MAC and did not
pass aborts. START of a full image begins FINISH on a selected device (R195). When the PLLs are READY the load completes: every usable region that runs
with a VALID start context begins it, the others are not READY. STALL_TMO and TEMP_HOLD_MAX abort a stream; 0 means no
limit. IMAGE_TIMER runs from the first Memory Space Enable, and passing its deadline is told. -/
def Obligations.loadEnds : Prop :=
  (∀ s : State, (s.between 1 ∨ s.between 2) → (bitOf s.ld.flags 1 = 0 ∨ s.ld.macOk = true) → s.ld.wreg = [] →
    s.ld.written.Nodup → (∀ w ∈ s.ld.written, w.1 < 40 ∧ w.2 < 8 ∧
      ∀ x, x < 64 → s.bothEnds w.1 w.2 x (s.driveSlots w.1 w.2 x) = false) →
    Does .close s fun t => t.between 3 ∧ t.ldRd Ld.IMAGE_ID = s.ld.imageId % 2 ^ 32 ∧
      t.flag Pg.loader (irqBit 18) = true ∧ t.cfg = s.cfg ∧
      (∀ w ∈ s.ld.written, s.ctxState w.1 w.2 = 1 → t.ctxState w.1 w.2 = 2 ∧
        t.rgRd w.1 Rgn.GEN w.2 = (s.rgRd w.1 Rgn.GEN w.2 + 1) % 2 ^ 8) ∧
      (s.ldFull = true → s.ld.fenceSeen = false → t.ldRd Ld.RFENCE_LO = 0 ∧ t.ldRd Ld.RFENCE_HI = 0 ∧
        t.ldRd Ld.RFENCE_CTX = 0)) ∧
  (∀ s : State, s.between 1 → bitOf s.ld.flags 1 = 1 → s.ld.macOk = false →
    Does .close s fun t => s.abortsWith t Abort.auth s.ldFull) ∧
  (∀ (ctx : Word) (s : State), s.between 3 → s.ldFull = true → bitOf s.ld.flags 2 = 0 → s.ld.selected = false →
    Does (.startPacket ctx) s fun t => t.between 4 ∧ t = { s with ld := t.ld }) ∧
  (∀ (ctx : Word) (s : State), s.between 3 → s.ldFull = true → bitOf s.ld.flags 2 = 0 → s.ld.selected = true →
    s.ld.srcWrites = [] →
    Does (.startPacket ctx) s fun t => t.between 4 ∧ t.ldRd Ld.PHASE = 5 ∧
      t.ldRd Ld.START_CTX = ctx.toNat % 8 ∧ t.ldRd Ld.READBACK_EN = bitOf s.ld.flags 3 ∧
      t.ld.lastByte = some s.us ∧ t.body = ({ s with ld := t.ld } : State).body ∧ t.logQ = s.logQ) ∧
  (∀ s : State, s.ldRd Ld.PHASE = 5 → s.pllsReady = true → s.ld.srcWrites = [] → s.ldRd Ld.START_CTX < 8 →
    Does .loadComplete s fun t => t.ldRd Ld.LOADED = 1 ∧ t.ldRd Ld.PHASE = 6 ∧ t.ld.complete = true ∧
      t.flag Pg.loader (irqBit 17) = true ∧ ∀ i : Fin 40,
        if s.usable (En.region i) = true ∧ s.isOn (En.region i) = true ∧ s.isOn (En.plane i) = true ∧
            s.ctxValid i (s.ldRd Ld.START_CTX) = true then
          (t.rg i).live = true ∧ t.liveCtx i = s.ldRd Ld.START_CTX ∧ t.flag (Pg.region i) Hdr.READY = true ∧
            (t.rg i).staging = none ∧ (t.rg i).active = 1 - (s.rg i).active ∧
            t.rgRd i Rgn.SW_SEQ = (s.rgRd i Rgn.SW_SEQ + 1) % 2 ^ 32
        else t.flag (Pg.region i) Hdr.READY = false ∧ t.liveCtx i = s.liveCtx i) ∧
  (∀ s : State, s.streamOpen = true → s.noSyncBehind → s.ldRd Ld.STALL_TMO ≠ 0 →
    Does .stallTimeout s fun t => s.abortsWith t Abort.stall s.ldFull) ∧
  (∀ s : State, (s.streamOpen = false ∧ s.nothingBehind) ∨ s.ldRd Ld.STALL_TMO = 0 → Does .stallTimeout s fun t => t = s) ∧
  (∀ s : State, s.streamOpen = true → s.noSyncBehind → s.ldRd Ld.TEMP_HOLD_MAX ≠ 0 → s.flag Pg.loader Ld.TEMP_HOLD = true →
    Does .tempHoldTimeout s fun t => s.abortsWith t Abort.temp s.ldFull ∧ t.flag Pg.loader Ld.TEMP_HOLD = false) ∧
  (∀ s : State, s.flag Pg.loader Ld.TEMP_HOLD = false ∨ s.ldRd Ld.TEMP_HOLD_MAX = 0 →
    Does .tempHoldTimeout s fun t => t = s) ∧
  (∀ s : State, Does .memorySpaceEnable s fun t => t = { s with ld := t.ld } ∧
    t.ld = { s.ld with enumerated := some (s.ld.enumerated.getD s.us) }) ∧
  (∀ s : State, s.ld.enumerated.isSome = true → s.flag Pg.loader Ld.LOADED = false → Does .imageLate s fun t =>
    t.ldRd Ld.IMAGE_LATE = 1 ∧ t.flag Pg.loader (irqBit 21) = true ∧
    s.enters t Pg.loader 0x23 Sev.info Ag.hlp s.imageTimer ∧ t.body = s.body) ∧
  (∀ s : State, s.ld.enumerated = none ∨ s.flag Pg.loader Ld.LOADED = true → Does .imageLate s fun t => t = s)

/-- Readback and CFP's mailbox commands (R221, R222, R225). RB_GO starts a readback of the frame RB_FAR then names, and its end delivers the frame with its
CRC and the reason where it was refused: a bad address, a region whose image forbade it, a plane or slab that is off.
LOAD_STATUS answers the three status words, ABORT_STREAM aborts the open stream, and UNCONFIGURE takes a device whose loader
is READY to phase LOAD: global reset, no live context, no armed milestone, LOADED and the fence cleared, while the contexts
of layer C stay. A command with a LENGTH is answered BAD_LENGTH. -/
def Obligations.readbackAndMailbox : Prop :=
  (∀ (ag : Agent) (s : State), s.grants ag Pg.loader → Does (.readback ag) s fun t =>
    (s.flag Pg.loader Ld.RB_BUSY = false → t.flag Pg.loader Ld.RB_BUSY = true ∧ t.ld.rbFar = s.ldRd Ld.RB_FAR ∧
      t.body = ({ s with ld := t.ld } : State).body ∧ s.onlyFields t [(Pg.loader, Ld.RB_BUSY, 0)]) ∧
    (s.flag Pg.loader Ld.RB_BUSY = true → t.flag Pg.loader Hdr.WRITE_IGNORED = true ∧ t.body = s.body ∧
      s.onlyFields t [(Pg.loader, Hdr.WRITE_IGNORED, 0)]) ∧ t.logQ = s.logQ) ∧
  (∀ s : State, s.flag Pg.loader Ld.RB_BUSY = false → Does .readbackDone s fun t => t = s) ∧
  (∀ s : State, s.flag Pg.loader Ld.RB_BUSY = true → Does .readbackDone s fun t =>
    let far := s.ld.rbFar
    let f := farOf far
    t.flag Pg.loader Ld.RB_BUSY = false ∧ t.ldRd Ld.RB_DONE = 1 ∧ t.flag Pg.loader (irqBit 22) = true ∧
    mget 0 t.ld.rbBuf 640 = frameCrc far ((List.range 640).map fun k => mget 0 t.ld.rbBuf k) ∧
    (farOk far = false → t.ldRd Ld.RB_WHY = 2 ∧ ∀ k, k < 640 → mget 0 t.ld.rbBuf k = 0) ∧
    (farOk far = true → f.minor ≤ 15 → s.ld.rbLocked.contains f.region = true → t.ldRd Ld.RB_WHY = 1) ∧
    (farOk far = true → f.minor ≤ 15 → s.ld.rbLocked.contains f.region = false → bitOf (s.scRd Scp.POLICY) 3 = 0 →
      (s.isOn (En.plane f.region) = false → t.ldRd Ld.RB_WHY = 3) ∧
      (s.isOn (En.plane f.region) = true → ∀ r, r < 320 →
        let v := (wordDecode (mget {} s.cfg (cfgKey f.region f.ctx f.x f.minor r))).2
        mget 0 t.ld.rbBuf (2 * r) = v % 2 ^ 32 ∧ mget 0 t.ld.rbBuf (2 * r + 1) = v / 2 ^ 32)) ∧
    t.cfg = s.cfg) ∧
  (∀ (c : Fin 3) (m : MailCmd) (s : State), s.serving 0 c 0x0001 0 m → Does (.loadStatus c) s fun t =>
    t.answered 0 c m Res.ok [s.wordAt Pg.loader 0x040 0, s.wordAt Pg.loader 0x044 0, s.wordAt Pg.loader 0x048 0] ∧
    t = { s with chans := t.chans }) ∧
  (∀ (c : Fin 3) (m : MailCmd) (n : Nat) (s : State), n ≠ 0 →
    (s.serving 0 c 0x0001 n m → Does (.loadStatus c) s fun t => t.answered 0 c m Res.badLength [] ∧
      t = { s with chans := t.chans }) ∧
    (s.serving 0 c 0x0002 n m → Does (.abortStream c) s fun t => t.answered 0 c m Res.badLength [] ∧
      t = { s with chans := t.chans }) ∧
    (s.serving 0 c 0x0003 n m → Does (.unconfigure c) s fun t => t.answered 0 c m Res.badLength [] ∧
      t = { s with chans := t.chans })) ∧
  (∀ (c : Fin 3) (m : MailCmd) (s : State), s.serving 0 c 0x0002 0 m → Does (.abortStream c) s fun t =>
    t.answered 0 c m Res.ok [] ∧ (s.streamOpen = true → s.noSyncBehind → s.abortsWith t Abort.host s.ldFull) ∧
    (s.streamOpen = false → s.nothingBehind → t = { s with chans := t.chans })) ∧
  (∀ (c : Fin 3) (m : MailCmd) (s : State), s.serving 0 c 0x0003 0 m → s.flag Pg.loader Ld.READY = false →
    Does (.unconfigure c) s fun t => t.answered 0 c m Res.ok [] ∧ t = { s with chans := t.chans }) ∧
  (∀ (c : Fin 3) (m : MailCmd) (s : State), s.serving 0 c 0x0003 0 m → s.flag Pg.loader Ld.READY = true →
    Does (.unconfigure c) s fun t => t.answered 0 c m Res.ok [] ∧ t.ldRd Ld.PHASE = 4 ∧ t.ldRd Ld.LOADED = 0 ∧
      t.ldRd Ld.CFG_ERR = 0 ∧ t.ldRd Ld.RFENCE_LO = 0 ∧ t.ldRd Ld.RFENCE_HI = 0 ∧ t.ldRd Ld.RFENCE_CTX = 0 ∧
      t.tp.globalReset = true ∧ t.tp.started = false ∧ t.tp.released = false ∧ t.ld.complete = false ∧
      (∀ i : Fin 40, (t.rg i).live = false ∧ (t.rg i).staging = none ∧ t.flag (Pg.region i) Hdr.READY = false) ∧
      (∀ e : Fin 256, t.msArmed e = false) ∧ t.ms.due = [] ∧ t.ms.decided = [] ∧ t.ms.issued = [] ∧
      (∀ (i : Fin 40) (k : Fin 8), t.ctxState i k = s.ctxState i k) ∧ t.cfg = s.cfg)

/-! ### Trigger engines (chapter 08) -/

/-- How an engine issues, stalls and traps (R238, R242, R251, R255, R256). The command of an instruction does nothing while
the engine does not issue, or where the word at PC is another instruction. A word that cannot be read, and one that is
illegal, trap; an empty input or a full output FIFO makes the engine wait without going on. TRAP stores its argument and
traps with cause SOFT; RTT outside a handler traps, and inside one returns to EPC or to the instruction after it. A vector
instruction that would step a generator out of its range traps AG_BAD, and one that consumes a poisoned lane traps POISON;
which comes first is the model's choice (log entry 104). -/
def Obligations.engineTraps : Prop :=
  (∀ (c : Fin 104 → Instr) (op : Nat) (e : Fin 104) (s : State), (c, op) ∈ teCommands →
    (s.teIssues e = false → Does (c e) s fun t => t = s) ∧
    (∀ i, s.teIssues e = true → wordDecode (mget {} s.im (imKey e (s.teRd e Te.PC))) = (.clean, i) →
      (Iw.op i ≠ op → Does (c e) s fun t => t = s) ∧
      (Iw.op i = op → teLegal (s.teRd e Te.PC) i = false → Does (c e) s fun t => s.traps t e Trap.illegal) ∧
      (∀ w, Iw.op i = op → teLegal (s.teRd e Te.PC) i = true → s.teStall e i = some w → Does (c e) s fun t =>
        t.estate e = Es.waiting ∧ t.te e = { s.te e with wait := w } ∧ t.logQ = s.logQ ∧
        s.onlyFields t [(Pg.engine e, Te.ESTATE, 0)])) ∧
    (s.teIssues e = true → (wordDecode (mget {} s.im (imKey e (s.teRd e Te.PC)))).1 = .poison →
      Does (c e) s fun t => s.traps t e Trap.imemUe)) ∧
  (∀ (e : Fin 104) (i : Nat) (s : State), s.teIssues e = true →
    wordDecode (mget {} s.im (imKey e (s.teRd e Te.PC))) = (.clean, i) →
    (teLegal (s.teRd e Te.PC) i = false → Does (.illegalInstruction e) s fun t => s.traps t e Trap.illegal) ∧
    (teLegal (s.teRd e Te.PC) i = true → Does (.illegalInstruction e) s fun t => t = s)) ∧
  (∀ (e : Fin 104) (i : Nat) (s : State), s.issues e i → Iw.op i = 0x0F → Does (.teTrap e) s fun t =>
    s.traps t e Trap.soft ∧ t.teRd e Te.TRAP_ARG = Iw.imm i % 2 ^ 8) ∧
  (∀ (e : Fin 104) (i : Nat) (s : State), s.issues e i → Iw.op i = 0x0E →
    (s.teRd e Te.IN_HANDLER = 0 → Does (.teRtt e) s fun t => s.traps t e Trap.badRtt) ∧
    (s.teRd e Te.IN_HANDLER = 1 → Does (.teRtt e) s fun t => s.clocked t e ∧ t.teRd e Te.IN_HANDLER = 0 ∧
      (Iw.f i = 0 → t.teRd e Te.PC = s.teRd e Te.EPC % 2 ^ 11 ∧ (t.te e).loops = (s.te e).loops) ∧
      (Iw.f i = 1 → t.teRd e Te.PC = (loopNext (s.teRd e Te.EPC) (s.te e).loops).1 % 2 ^ 11 ∧
        (t.te e).loops = (loopNext (s.teRd e Te.EPC) (s.te e).loops).2) ∧ s.teOnly t e [(Te.IN_HANDLER, 0)])) ∧
  (∀ (c : Fin 104 → Instr) (op : Nat) (e : Fin 104) (i : Nat) (s : State), (c, op) ∈ teCommands → 0x10 ≤ op → op ≠ 0x15 →
    s.issues e i → Iw.op i = op →
    (s.agUpdates e (teSources i ++ (teDest i).toList.map fun d => (d, Iw.ud i)) = none →
      Does (c e) s fun t => s.traps t e Trap.agBad) ∧
    (∀ vs us, s.vector e i vs us → ¬ unpoisoned vs → op ≠ 0x1B → Does (c e) s fun t => s.traps t e Trap.poison))

/-- Starts, halts and waits (R92, R245, R253, R254). A start request waits for a bucket after its write: after the
milestones of that bucket on the engine (u is the state they leave) it starts the engine at START_PC, ending a self-test
slice on it, or is refused with the first reason in START_WHY. A halt request stops issue at the next edge. WAIT
makes the engine wait, and the end it names lets it run again. HALT and a stalled FIFO's time limit end the run. That a
refusal is judged at the edge and logged with the requester is the model's reading (log entries 15 and 36). -/
def Obligations.engineRuns : Prop :=
  (∀ (ag : Agent) (e : Fin 104) (pc : BitVec 11) (s : State), s.grants ag (Pg.engine e) →
    (Does (.startGo ag e pc) s fun t => t.teRd e Te.START_PC = pc.toNat ∧ t.teRd e Te.START_PEND = 1 ∧
      t.te e = { s.te e with startReq := some (ag.val, s.stamp) } ∧ t.estate e = s.estate e ∧ t.logQ = s.logQ ∧
      t.body = ({ s with tes := t.tes } : State).body ∧
      s.onlyFields t [(Pg.engine e, Te.START_PC, 0), (Pg.engine e, Te.START_PEND, 0)]) ∧
    (Does (.haltGo ag e) s fun t => t.te e = { s.te e with haltReq := true } ∧ t.regs = s.regs ∧ t.logQ = s.logQ ∧
      t.body = ({ s with tes := t.tes } : State).body)) ∧
  (∀ (e : Fin 104) (ag : Nat) (since : Option Nat) (s u : State), u = s.engineFire e [5, 4] →
    (u.te e).startReq = some (ag, since) → u.bucketSince since = true →
    (u.startWhy e = none → Does (.teStartApply e) s fun t => t.estate e = Es.running ∧
      t.teRd e Te.PC = u.teRd e Te.START_PC % 2 ^ 11 ∧ t.teRd e Te.START_PEND = 0 ∧ t.teRd e Te.CYCLES = 0 ∧
      t.teRd e Te.STALLS = 0 ∧ t.teRd e Te.IN_HANDLER = 0 ∧ t.teRd e Te.CAUSE = 0 ∧
      (t.te e).startReq = none ∧ (t.te e).loops = [] ∧ (t.te e).wait = .none ∧
      (∀ c ∈ t.wk.slices, c ∈ u.wk.slices) ∧
      ((∀ c ∈ u.wk.slices, c.kind = 3 → c.entry ≠ En.engine e) →
        t.te e = { u.te e with startReq := none, loops := [], wait := .none } ∧ t.logQ = u.logQ ∧
        t.body = ({ u with tes := t.tes } : State).body)) ∧
    (∀ why, u.startWhy e = some why → Does (.teStartApply e) s fun t => t.estate e = u.estate e ∧
      t.teRd e Te.START_PEND = 0 ∧ t.teRd e Te.START_REFUSED = 1 ∧ t.teRd e Te.START_WHY = why ∧
      t.flag (Pg.engine e) (irqBit 22) = true ∧ u.enters t (Pg.engine e) 0x26 Sev.info ag why ∧
      t.te e = { u.te e with startReq := none } ∧ t.body = ({ u with tes := t.tes } : State).body)) ∧
  (∀ (e : Fin 104) (s u : State), u = s.engineFire e [5, 4] →
    (∀ q, (u.te e).startReq = some q → u.bucketSince q.2 = false) → Does (.teStartApply e) s fun t => t = u) ∧
  (∀ (e : Fin 104) (s u : State), u = s.engineFire e [5, 4] → (u.te e).haltReq = true →
    Does (.teHaltApply e) s fun t => (t.te e).haltReq = false ∧
      (u.teBusy e = true → t.estate e = Es.halted ∧ t.flag (Pg.engine e) (irqBit 16) = true) ∧
      (u.teBusy e = false → t.regs = u.regs) ∧ t.teRd e Te.PC = u.teRd e Te.PC ∧ t.logQ = u.logQ ∧
      t.body = ({ u with tes := t.tes } : State).body) ∧
  (∀ (e : Fin 104) (s u : State), u = s.engineFire e [5, 4] → (u.te e).haltReq = false →
    Does (.teHaltApply e) s fun t => t = u) ∧
  (∀ (e : Fin 104) (s : State), s.firesOn [5, 4] ((s.logicalOf e).getD 96) = [] ∨ s.logicalOf e = none →
    s.engineFire e [5, 4] = s) ∧
  (∀ (e : Fin 104) (i : Nat) (s : State), s.issues e i → Iw.op i = 0x01 → Does (.teHalt e) s fun t =>
    t.estate e = Es.halted ∧ t.flag (Pg.engine e) (irqBit 16) = true ∧
    t.teRd e Te.PC = (loopNext (s.teRd e Te.PC) (s.te e).loops).1 % 2 ^ 11 ∧ t.logQ = s.logQ) ∧
  (∀ (e : Fin 104) (i : Nat) (s : State), s.issues e i → Iw.op i = 0x02 →
    (Iw.f i ≠ 1 ∨ Iw.imm i % 2 ^ 16 < s.turnLen → Does (.teWait e) s fun t => t.estate e = Es.waiting ∧
      (t.te e).wait = .wait (Iw.f i) (Iw.imm i) s.time64 ∧
      t.teRd e Te.PC = (loopNext (s.teRd e Te.PC) (s.te e).loops).1 % 2 ^ 11 ∧ s.teOnly t e []) ∧
    (Iw.f i = 1 → s.turnLen ≤ Iw.imm i % 2 ^ 16 → Does (.teWait e) s fun t => s.traps t e Trap.illegal)) ∧
  (∀ (e : Fin 104) (f imm since : Nat) (s : State), (s.te e).wait = .wait f imm since → s.estate e = Es.waiting →
    s.teCore e = true → (s.te e).moving = false →
    (s.waitOver f imm since = true → Does (.waitEnd e) s fun t => t.estate e = Es.running ∧
      t.te e = { s.te e with wait := .none } ∧ t.logQ = s.logQ ∧ t.body = ({ s with tes := t.tes } : State).body ∧
      s.onlyFields t [(Pg.engine e, Te.ESTATE, 0)]) ∧
    (s.waitOver f imm since = false → Does (.waitEnd e) s fun t => t = s)) ∧
  (∀ (e : Fin 104) (f : Nat) (s : State), s.teCore e = true → s.estate e = Es.waiting → (s.te e).wait = .popIn f →
    ((s.te e).fifo f).words = [] →
    (s.teRd e Te.IN_TMO ≠ 0 → Does (.fifoStallTimeout e) s fun t => s.traps t e Trap.inTmo) ∧
    (s.teRd e Te.IN_TMO = 0 → Does (.fifoStallTimeout e) s fun t => t = s)) ∧
  (∀ (e : Fin 104) (f : Nat) (s : State), s.teCore e = true → s.estate e = Es.waiting → (s.te e).wait = .pushOut f →
    let full := 32 < ((s.te e).fifo (2 + f)).words.length +
      tePushes (wordDecode (mget {} s.im (imKey e (s.teRd e Te.PC)))).2
    (full → s.teRd e Te.OUT_TMO ≠ 0 → Does (.fifoStallTimeout e) s fun t => s.traps t e Trap.outTmo) ∧
    (¬ full ∨ s.teRd e Te.OUT_TMO = 0 → Does (.fifoStallTimeout e) s fun t => t = s))

/-- The control instructions (Table 08.5, R245), each where it issues: what it writes, where the engine goes on, and that
nothing else changes. LOOP with a count of 0 skips its body, and a fifth level traps LOOP_DEPTH; a taken branch leaves every
loop that does not contain its target; a PUSHCTL tag above 72 is a free tag of 0 to 72 (log entry 33). -/
def Obligations.controlInstructions : Prop :=
  ∀ (e : Fin 104) (i : Nat) (s : State), s.issues e i →
    (Iw.op i = 0x00 → Does (.teNop e) s fun t => s.goesOn t e ∧ s.teOnly t e []) ∧
    (Iw.op i = 0x03 →
      let n := if Iw.imm i % 2 ^ 16 = 0 then s.teRd e Te.SREG (Iw.rs i) % 2 ^ 16 else Iw.imm i % 2 ^ 16
      (n = 0 → Does (.teLoop e) s fun t => s.clocked t e ∧ t.teRd e Te.PC = (Iw.addr i + 1) % 2 ^ 11 ∧
        (t.te e).loops = (s.te e).loops ∧ s.teOnly t e []) ∧
      (n ≠ 0 → (s.te e).loops.length < 4 → Does (.teLoop e) s fun t => s.clocked t e ∧
        t.teRd e Te.PC = (s.teRd e Te.PC + 1) % 2 ^ 11 ∧
        (t.te e).loops = ⟨s.teRd e Te.PC + 1, Iw.addr i, n⟩ :: (s.te e).loops ∧ s.teOnly t e []) ∧
      (n ≠ 0 → 4 ≤ (s.te e).loops.length → Does (.teLoop e) s fun t => s.traps t e Trap.loopDepth)) ∧
    (let jumps (t : State) := s.clocked t e ∧ t.teRd e Te.PC = Iw.addr i ∧
        (t.te e).loops = (s.te e).loops.filter (fun l => l.first ≤ Iw.addr i && Iw.addr i ≤ l.last) ∧ s.teOnly t e []
      let goes (t : State) := s.goesOn t e ∧ s.teOnly t e []
      let x := s.teRd e Te.SREG (Iw.rs i)
      (Iw.op i = 0x04 → Does (.teJmp e) s jumps) ∧
      (Iw.op i = 0x05 → x = 0 → Does (.teBrz e) s jumps) ∧ (Iw.op i = 0x05 → x ≠ 0 → Does (.teBrz e) s goes) ∧
      (Iw.op i = 0x06 → x ≠ 0 → Does (.teBrnz e) s jumps) ∧ (Iw.op i = 0x06 → x = 0 → Does (.teBrnz e) s goes)) ∧
    (Iw.op i = 0x07 → Does (.teSli e) s fun t => s.goesOn t e ∧ t.teRd e Te.SREG (Iw.rd i) = Iw.imm i ∧
      s.teOnly t e [(Te.SREG, Iw.rd i)]) ∧
    (Iw.op i = 0x08 → Does (.teSadd e) s fun t => s.goesOn t e ∧
      t.teRd e Te.SREG (Iw.rd i) = (s.teRd e Te.SREG (Iw.rs i) + Iw.imm i) % 2 ^ 32 ∧
      s.teOnly t e [(Te.SREG, Iw.rd i)]) ∧
    (Iw.op i = 0x09 → Does (.teSetag e) s fun t => s.goesOn t e ∧
      t.teRd e (agField (Iw.f i)) (Iw.g i) = Iw.imm i % 2 ^ (agField (Iw.f i)).width ∧
      s.teOnly t e [(agField (Iw.f i), Iw.g i)]) ∧
    (Iw.op i = 0x0A → Does (.teSetagr e) s fun t => s.goesOn t e ∧
      t.teRd e (agField (Iw.f i)) (Iw.g i) = s.teRd e Te.SREG (Iw.rs i) % 2 ^ (agField (Iw.f i)).width ∧
      s.teOnly t e [(agField (Iw.f i), Iw.g i)]) ∧
    (Iw.op i = 0x0B → Does (.teGetag e) s fun t => s.goesOn t e ∧ t.teRd e Te.SREG (Iw.rd i) =
      (if Iw.f i = 3 then fieldOf 32 (signedOf 12 (s.teRd e Te.AG_STRIDE (Iw.g i)))
        else s.teRd e (agField (Iw.f i)) (Iw.g i)) % 2 ^ 32 ∧ s.teOnly t e [(Te.SREG, Iw.rd i)]) ∧
    (Iw.op i = 0x0C → Does (.tePushctl e) s fun t => s.goesOn t e ∧ s.teOnly t e [] ∧
      ∃ tag, tag ≤ 72 ∧ (Iw.imm i % 128 ≤ 72 → tag = Iw.imm i % 128) ∧
        ∀ f, mget none (t.te e).ctl f =
          if f = Iw.g i then some (tag + bitOf (Iw.imm i) 7 * 128) else mget none (s.te e).ctl f) ∧
    (Iw.op i = 0x0D → Does (.teRtag e) s fun t => s.goesOn t e ∧
      t.teRd e Te.SREG (Iw.rd i) = mget 0 (s.te e).popped (Iw.g i) % 2 ^ 32 ∧ s.teOnly t e [(Te.SREG, Iw.rd i)])

/-- The accumulator instructions (R229 to R231, Table 08.5), each where it issues on lanes that need no correction and carry
no poison: MAC, MSU, MUL and LDA write their bank with saturation, CLRA clears it, and STA stores the shifted and rounded
lanes, saturated to its width: the low 18 bits to its destination and for the widths of 24 and 32 the rest beside them, to
V(d XOR 1) or to the row that its generator gives next. BFPA shifts a bank by the least headroom of its lanes. -/
def Obligations.accumulatorInstructions : Prop :=
  (∀ (e : Fin 104) (i : Nat) (xs ys : List Lane) (us : List (Nat × Nat)) (s : State), s.vector e i [xs, ys] us →
    unpoisoned [xs, ys] →
    let makes (f : Int → Int → Int) (t : State) := s.stepped t e i us ∧ s.accumulates t e (Iw.k i)
      (List.zipWith f (s.accs e (Iw.k i)) (List.zipWith (fun x y => x.1 * y.1) xs ys))
    (Iw.op i = 0x10 → Does (.teMac e) s (makes fun a p => a + p)) ∧
    (Iw.op i = 0x11 → Does (.teMsu e) s (makes fun a p => a - p)) ∧
    (Iw.op i = 0x12 → Does (.teMul e) s (makes fun _ p => p))) ∧
  (∀ (e : Fin 104) (i : Nat) (xs : List Lane) (us : List (Nat × Nat)) (s : State), Iw.op i = 0x14 → s.vector e i [xs] us →
    unpoisoned [xs] → Does (.teLda e) s fun t => s.stepped t e i us ∧
      s.accumulates t e (Iw.k i) (xs.map fun x => x.1 * (2 ^ Iw.sh i : Nat))) ∧
  (∀ (e : Fin 104) (i : Nat) (us : List (Nat × Nat)) (s : State), Iw.op i = 0x13 → s.vector e i [] us →
    Does (.teClra e) s fun t => s.stepped t e i us ∧ s.accumulates t e (Iw.k i) (List.replicate 32 0)) ∧
  (∀ (e : Fin 104) (i : Nat) (us : List (Nat × Nat)) (s : State), Iw.op i = 0x1E → s.vector e i [] us →
    Does (.teBfpa e) s fun t =>
      let h := ((s.accs e (Iw.k i)).map headroom).foldl min 47
      s.goesOn t e ∧ t.teRd e Te.SREG (Iw.sreg i) = h ∧ t.accs e (1 - Iw.k i) = s.accs e (1 - Iw.k i) ∧
      t.accs e (Iw.k i) = (s.accs e (Iw.k i)).map (fun a : Int => a * ((2 ^ h : Nat) : Int)) ∧ t.dm = s.dm ∧
      s.teOnly t e [(Te.SREG, Iw.sreg i)]) ∧
  (∀ (e : Fin 104) (i : Nat) (s : State), s.issues e i → Iw.op i = 0x15 →
    let raw := (s.accs e (Iw.k i)).map fun a => staValue a (Iw.sh i) (Iw.rnd i)
    let vs := raw.map (clampTo (staWidth (Iw.w i)))
    let low := vs.map fun v => (signedOf 18 (fieldOf 18 v), false)
    let high := vs.map fun v => (v / 2 ^ 18, false)
    let told (t : State) := raw ≠ vs → t.teRd e Te.ST_SAT = 1 ∧ t.flag (Pg.engine e) (irqBit 18) = true ∧
      t.teRd e Te.ST_SAT_CNT = satAdd 16 (s.teRd e Te.ST_SAT_CNT) 1 % 2 ^ 16
    (Iw.d i < 8 → Does (.teSta e) s fun t => s.goesOn t e ∧ told t ∧ t.dm = s.dm ∧ t.logQ = s.logQ ∧
      (∀ k, k < 2 → t.accs e k = s.accs e k) ∧ ∀ v, v < 8 → t.vreg e v =
        if v = Iw.d i then low else if Iw.w i ≠ 0 ∧ v = Iw.d i ^^^ 1 then high else s.vreg e v) ∧
    (12 ≤ Iw.d i → Iw.w i = 0 → Does (.teSta e) s fun t => s.goesOn t e ∧ told t ∧
      s.stores t e (Iw.d i) 0 low ∧ t.logQ = s.logQ) ∧
    (8 ≤ Iw.d i → Iw.d i < 12 →
      let g := Iw.d i - 8
      let row := s.agAddr e g
      let idx := s.teRd e Te.AG_IDX g
      (Iw.w i = 0 → Iw.ud i = false → Does (.teSta e) s fun t => s.goesOn t e ∧ told t ∧
        s.stores t e (Iw.d i) row low ∧ t.teRd e Te.AG_IDX g = idx) ∧
      (∀ i1, Iw.w i = 0 → Iw.ud i = true → s.agNext e g idx = some i1 → Does (.teSta e) s fun t => s.goesOn t e ∧
        told t ∧ s.stores t e (Iw.d i) row low ∧ t.teRd e Te.AG_IDX g = i1 % 2 ^ 11) ∧
      (∀ i1 i2, Iw.w i ≠ 0 → s.agNext e g idx = some i1 → s.agNext e g i1 = some i2 →
        (s.teRd e Te.AG_BASE g + i1) % 2048 ≠ row → Does (.teSta e) s fun t => s.goesOn t e ∧ told t ∧
          t.teRd e Te.AG_IDX g = (if Iw.ud i then i2 % 2 ^ 11 else idx) ∧
          (∀ j, j < 32 → mget 0 t.dm (dmKey e row j) = laneWord (low.getD j (0, false)) ∧
            mget 0 t.dm (dmKey e ((s.teRd e Te.AG_BASE g + i1) % 2048) j) = laneWord (high.getD j (0, false))) ∧
          ∀ k, (∀ j, j < 32 → k ≠ dmKey e row j ∧ k ≠ dmKey e ((s.teRd e Te.AG_BASE g + i1) % 2048) j) →
            mget 0 t.dm k = mget 0 s.dm k) ∧
      (s.agNext e g idx = none → (Iw.w i ≠ 0 ∨ Iw.ud i = true) → Does (.teSta e) s fun t => s.traps t e Trap.agBad)))

/-- The lane instructions (R233, R240, R241, Table 08.5), each where it issues on lanes that need no correction: ADDV, SUBV,
MAXV, MINV and ABSV with 18-bit saturation on lanes without poison, MOV with the poison it moves, EXPA and NORMA with the
headroom of an accumulator bank, and CLRP, which takes the poison of a vector register. -/
def Obligations.laneInstructions : Prop :=
  (∀ (e : Fin 104) (i : Nat) (xs ys : List Lane) (us : List (Nat × Nat)) (s : State), s.vector e i [xs, ys] us →
    unpoisoned [xs, ys] →
    let makes (f : Int → Int → Int) (t : State) := s.stepped t e i us ∧
      s.stores t e (Iw.d i) (s.agAddr e (Iw.d i - 8))
        ((List.zipWith (fun x y => f x.1 y.1) xs ys).map fun z => (clampTo 18 z, false))
    (Iw.op i = 0x16 → Does (.teAddv e) s (makes fun a b => a + b)) ∧
    (Iw.op i = 0x17 → Does (.teSubv e) s (makes fun a b => a - b)) ∧
    (Iw.op i = 0x18 → Does (.teMaxv e) s (makes max)) ∧
    (Iw.op i = 0x19 → Does (.teMinv e) s (makes min))) ∧
  (∀ (e : Fin 104) (i : Nat) (xs : List Lane) (us : List (Nat × Nat)) (s : State), s.vector e i [xs] us →
    (Iw.op i = 0x1A → unpoisoned [xs] → Does (.teAbsv e) s fun t => s.stepped t e i us ∧
      s.stores t e (Iw.d i) (s.agAddr e (Iw.d i - 8)) (xs.map fun x => (clampTo 18 (x.1.natAbs : Int), false))) ∧
    (Iw.op i = 0x1B → Does (.teMov e) s fun t => s.stepped t e i us ∧
      s.stores t e (Iw.d i) (s.agAddr e (Iw.d i - 8)) xs)) ∧
  (∀ (e : Fin 104) (i : Nat) (us : List (Nat × Nat)) (s : State), s.vector e i [] us →
    (Iw.op i = 0x1C → Does (.teExpa e) s fun t => s.stepped t e i us ∧
      s.stores t e (Iw.d i) (s.agAddr e (Iw.d i - 8))
        ((s.accs e (Iw.k i)).map fun a => ((headroom a : Int), false))) ∧
    (Iw.op i = 0x1D → Does (.teNorma e) s fun t => s.stepped t e i us ∧
      t.accs e (Iw.k i) = (s.accs e (Iw.k i)).map (fun a : Int => a * ((2 ^ headroom a : Nat) : Int)) ∧
      s.stores t e (Iw.d i) (s.agAddr e (Iw.d i - 8))
        ((s.accs e (Iw.k i)).map fun a => ((headroom a : Int), false))) ∧
    (Iw.op i = 0x1F → Does (.teClrp e) s fun t => s.goesOn t e ∧ s.teOnly t e [] ∧ t.dm = s.dm ∧ ∀ v, v < 8 →
      t.vreg e v = if v = Iw.a i then (s.vreg e v).map (fun x => (x.1, false)) else s.vreg e v))

/-- The stream FIFOs (R247 to R252). A fabric word joins the assembly register of an attached input FIFO, and the register
closes into an engine word when it is full or LAST is written; a full FIFO drops the word and says so. A read takes the
fabric word that an output FIFO shows, and the engine word with its last. A flush empties the FIFOs of its mask.
The memories of an engine and its sparing (R234 to R239, R257, R258). A maintenance slot and an instruction scrub read
go on to the next unit; a forced slot is counted, whether or not the walk runs. A window write stores a lane with its check bits, or the poison pattern;
a read answers it. An instruction word is written in halves while the engine does not run. At the first bucket of the lay-by (or at
the turn boundary of a turn without one) a failed engine with a spare in its row has the engines up to the spare stopped; when the copy is over, the spare is IN_USE and the failed engine RETIRED;
without a spare it is RETIRED at once. -/
def Obligations.engineFifosAndMemories : Prop :=
  (∀ (r : Fin 40) (n : Fin 96) (f : Fin 2) (d : Word) (wr last poison : Bool) (e : Fin 104) (s : State),
    s.fifoAttached r 3 n f = true → s.hostEngine n = some e.val → s.isOn (En.engine e) = true →
    let x := (s.te e).fifo f
    (s.fifoFull e f = false → wr = true → last = false → x.asmN + 1 < (if s.fifoLane e f then 32 else 18) →
      Does (.fifoWrite r n f d wr last poison) s fun t => ((t.te e).fifo f).words = x.words ∧
        ((t.te e).fifo f).asmN = x.asmN + 1 ∧
        ((t.te e).fifo f).asm = x.asm +
          (if s.fifoLane e f then d.toNat % 2 ^ 18 * 2 ^ (18 * x.asmN) else d.toNat * 2 ^ (32 * x.asmN)) ∧
        t.logQ = s.logQ ∧ t.body = ({ s with tes := t.tes } : State).body) ∧
    (s.fifoFull e f = false → wr = false → last = true → Does (.fifoWrite r n f d wr last poison) s fun t =>
      ((t.te e).fifo f).words = x.words ++
        [⟨x.asm, if s.fifoLane e f then ceilDiv (9 * x.asmN) 4 else 4 * x.asmN, true, x.asmP⟩] ∧
      ((t.te e).fifo f).asmN = 0 ∧ t.logQ = s.logQ ∧ t.body = ({ s with tes := t.tes } : State).body) ∧
    (s.fifoFull e f = true → (wr = true ∨ last = true) → Does (.fifoWrite r n f d wr last poison) s fun t =>
      (t.te e).fifo f = x ∧ t.teRd e Te.IN_DROP = 1 ∧ t.flag (Pg.engine e) (irqBit 19) = true ∧
      t.teRd e Te.IN_DROP_CNT = satAdd 16 (s.teRd e Te.IN_DROP_CNT) 1 % 2 ^ 16)) ∧
  (∀ (r : Fin 40) (n : Fin 96) (f : Fin 2) (d : Word) (wr last poison : Bool) (s : State),
    (s.fifoAttached r 3 n f = false → Does (.fifoWrite r n f d wr last poison) s fun t => t = s) ∧
    (s.fifoAttached r 4 n f = false → Does (.fifoRead r n f) s fun t => t = s) ∧
    (s.hostEngine n = none → (Does (.fifoWrite r n f d wr last poison) s fun t => t = s) ∧
      Does (.fifoRead r n f) s fun t => t = s)) ∧
  (∀ (r : Fin 40) (n : Fin 96) (f : Fin 2) (e : Fin 104) (w : FWord) (ws : List FWord) (s : State),
    s.fifoAttached r 4 n f = true → s.hostEngine n = some e.val → s.isOn (En.engine e) = true →
    ((s.te e).fifo (2 + f.val)).words = w :: ws → Does (.fifoRead r n f) s fun t =>
      (t.te e).fifo (2 + f.val) =
        (if outCount (s.fifoLane e (2 + f.val)) w ≤ ((s.te e).fifo (2 + f.val)).out + 1
          then { (s.te e).fifo (2 + f.val) with words := ws, out := 0 }
          else { (s.te e).fifo (2 + f.val) with out := ((s.te e).fifo (2 + f.val)).out + 1 }) ∧
      t.logQ = s.logQ ∧ t.body = ({ s with tes := t.tes } : State).body) ∧
  (∀ (ag : Agent) (e : Fin 104) (mask : BitVec 4) (s : State), s.grants ag (Pg.engine e) →
    Does (.fifoFlush ag e mask) s fun t => (∀ f : Fin 4, (t.te e).fifo f =
      if mask.getLsb f then {} else (s.te e).fifo f) ∧ t.logQ = s.logQ ∧
      t.body = ({ s with tes := t.tes } : State).body ∧ s.onlyPages t [Pg.engine e]) ∧
  (∀ (e : Fin 104) (s : State), s.teCore e = false ∨ s.teRd e Te.SCRUB_EN = 0 →
    (Does (.engineMaintenanceSlot e) s fun t => t = s) ∧ (Does (.imemScrubRead e) s fun t => t = s) ∧
    (s.teCore e = false → Does (.forcedSlot e) s fun t => t = s) ∧
    (s.teCore e = true → Does (.forcedSlot e) s fun t => t.body = s.body ∧ t.logQ = s.logQ ∧
      t.teRd e Te.FORCED_CNT = satAdd 16 (s.teRd e Te.FORCED_CNT) 1 % 2 ^ 16 ∧
      s.onlyFields t [(Pg.engine e, Te.FORCED_CNT, 0)])) ∧
  (∀ (e : Fin 104) (s : State), s.teCore e = true → s.teRd e Te.SCRUB_EN = 1 →
    (Does (.engineMaintenanceSlot e) s fun t => (t.te e).scrub = ((s.te e).scrub + 1) % 2064) ∧
    (Does (.imemScrubRead e) s fun t => (t.te e).imScrub = ((s.te e).imScrub + 1) % 2064) ∧
    (Does (.forcedSlot e) s fun t => (t.te e).scrub = ((s.te e).scrub + 1) % 2064 ∧
      t.teRd e Te.FORCED_CNT = satAdd 16 (s.teRd e Te.FORCED_CNT) 1 % 2 ^ 16)) ∧
  (∀ (ag : Agent) (e : Fin 104) (row : Fin 2048) (l : Fin 32) (v : Word) (s : State), s.grants ag (Pg.engine e) →
    (Does (.dataWindowAccess ag e row l true v) s fun t =>
      (∀ k, mget 0 t.dm k = if k = dmKey e row l then
        (if v.getLsb 31 then lanePoison else laneEncode (v.toNat % 2 ^ 18)) else mget 0 s.dm k) ∧
      t.regs = s.regs ∧ t.logQ = s.logQ ∧ t.body = ({ s with dm := t.dm } : State).body) ∧
    (∀ d n, laneDecode (mget 0 s.dm (dmKey e row l)) = (.clean, d, n) → Does (.dataWindowAccess ag e row l false v) s
      fun t => t.bus = { resp := .ok, data := fieldOf 31 (signedOf 18 d), poison := false } ∧ t.body = s.body ∧
        t.regs = s.regs ∧ t.logQ = s.logQ) ∧
    (∀ d n, laneDecode (mget 0 s.dm (dmKey e row l)) = (.poison, d, n) → Does (.dataWindowAccess ag e row l false v) s
      fun t => t.bus = { resp := .ok, data := 2 ^ 31, poison := true } ∧ t.body = s.body)) ∧
  (∀ (ag : Agent) (e : Fin 104) (a : Fin 2048) (high : Bool) (v : Word) (s : State), s.grants ag (Pg.engine e) →
    (s.teBusy e = false → Does (.instructionWindowWrite ag e a high v) s fun t =>
      mget {} t.im (imKey e a) =
        cleanWord (putBits (wordDecode (mget {} s.im (imKey e a))).2 (if high then 32 else 0) 32 v.toNat) ∧
      (∀ k, k ≠ imKey e a → mget {} t.im k = mget {} s.im k) ∧ t.teRd e Te.RELOAD_NEEDED = 0 ∧ t.logQ = s.logQ ∧
      t.body = ({ s with im := t.im } : State).body ∧ s.onlyFields t [(Pg.engine e, Te.RELOAD_NEEDED, 0)]) ∧
    (s.teBusy e = true → Does (.instructionWindowWrite ag e a high v) s fun t =>
      t.flag (Pg.engine e) Hdr.WRITE_IGNORED = true ∧ t.im = s.im ∧ t.body = s.body ∧ t.logQ = s.logQ ∧
      s.onlyFields t [(Pg.engine e, Hdr.WRITE_IGNORED, 0)])) ∧
  (∀ (e : Fin 104) (intact : Bool) (s : State), s.quietPoint = false ∨ s.estate e ≠ Es.failed ∨
    s.blk (En.engine e) = St.retired ∨ (s.te e).moving = true → Does (.engineMove e intact) s fun t => t = s) ∧
  (∀ (e : Fin 104) (s : State), s.estate e ≠ Es.failed ∨ (s.te e).moving = false →
    Does (.engineMoved e) s fun t => t = s) ∧
  (∀ (e : Fin 104) (intact : Bool) (s : State), s.quietPoint = true → s.estate e = Es.failed →
    (s.te e).moving = false →
    (∀ q, s.blk (En.engine e) ≠ St.retired → s.blk (En.engine e) ≠ St.spare → s.rowSpare e = some q →
      Does (.engineMove e intact) s fun t => (∀ u : Fin 104, t.te u =
        if e ≤ u ∧ u.val ≤ q then { s.te u with moving := true, intact := intact } else s.te u) ∧ t.regs = s.regs ∧
        t.logQ = s.logQ) ∧
    (s.blk (En.engine e) ≠ St.retired → (s.blk (En.engine e) = St.spare ∨ s.rowSpare e = none) →
      Does (.engineMove e intact) s fun t => t.blk (En.engine e) = St.retired ∧
        t.wb (En.engine e) Wbe.LINK = 0xFFFF)) ∧
  (∀ (e : Fin 104) (q : Nat) (s : State), s.estate e = Es.failed → (s.te e).moving = true → s.rowSpare e = some q →
    Does (.engineMoved e) s fun t => t.blk (En.engine e) = St.retired ∧ t.blk (En.engine q) = St.inUse ∧
      t.wb (En.engine e) Wbe.LOGICAL = 0xFFFF ∧ t.flag Pg.walker (irqBit 23) = true ∧
      (∀ u, e.val ≤ u → u ≤ q → (t.te u).moving = false) ∧
      ∀ u, e.val ≤ u → u < q → t.wb (En.engine (u + 1)) Wbe.LOGICAL =
        (if s.wb (En.engine u) Wbe.LOGICAL < 96 then s.wb (En.engine u) Wbe.LOGICAL else 0xFFFF))

/-! ### Packers and shallots (chapters 09 and 10) -/

/-- Packers (R262 to R278). A descriptor written on the RB port of a running region is queued with the time of its write,
or refused: the queue full, or part of it masked. The descriptor at the head of an empty packer is checked, read and coded;
one that fails its check, and one with a poisoned source, is dropped with its reason and leaves a record; a payload longer
than its source is coded RAW instead. Then the trailer is formed, and the event goes to the network as one packet or is
dropped for want of a slot. A block of BFP6 takes three words, and AMP and RAW as many as Table 09.5 says. Of several
reasons the lowest is taken (log entry 23). -/
def Obligations.packers : Prop :=
  (∀ (i : Fin 40) (d : BitVec 512) (m : BitVec 8) (s : State),
    (s.rbPort i = false → Does (.descriptorWrite i d m) s fun t => t = s) ∧
    (s.rbPort i = true → (s.pk i).queue.length < 64 → m = 0xFF → Does (.descriptorWrite i d m) s fun t =>
      t.pk i = { s.pk i with queue := (s.pk i).queue ++ [⟨d.toNat, s.turn, s.bucket⟩] } ∧
      t.pkRd i Pk.DQ_FILL = (s.pk i).queue.length + 1 ∧
      t.pkRd i Pk.EVT_CNT_LO + t.pkRd i Pk.EVT_CNT_HI * 2 ^ 32 =
        (s.pkRd i Pk.EVT_CNT_LO + s.pkRd i Pk.EVT_CNT_HI * 2 ^ 32 + 1) % 2 ^ 48 ∧ t.logQ = s.logQ ∧
      (∀ j, j ≠ i.val → t.pk j = s.pk j) ∧ t.body = ({ s with packers := t.packers } : State).body ∧
      s.onlyFields t [(Pg.packer i, Pk.DQ_FILL, 0), (Pg.packer i, Pk.DQ_HWM, 0), (Pg.packer i, Pk.BUSY, 0),
        (Pg.packer i, Pk.EVT_CNT_LO, 0), (Pg.packer i, Pk.EVT_CNT_HI, 0)]) ∧
    (s.rbPort i = true → (64 ≤ (s.pk i).queue.length ∨ m ≠ 0xFF) → Does (.descriptorWrite i d m) s fun t =>
      let why := if 64 ≤ (s.pk i).queue.length then 4 else 5
      t.pkRd i Pk.DESC_DROP = 1 ∧ t.pkRd i Pk.DESC_DROP_CNT = satAdd 16 (s.pkRd i Pk.DESC_DROP_CNT) 1 % 2 ^ 16 ∧
      t.flag (Pg.packer i) (irqBit 17) = true ∧ t.pkRd i Pk.LAST_WHY = why ∧ t.pkRd i Pk.LAST_EVNO_LO = 0 ∧
      t.pkRd i Pk.LAST_EVNO_HI = 0 ∧ t.body = s.body ∧
      s.enters t (Pg.packer i) 0x21 Sev.info Ag.hlp ((why + (s.pk i).queue.length * 2 ^ 4) % 2 ^ 32) ∧
      s.onlyFields t ([(Pg.packer i, Pk.DESC_DROP, 0), (Pg.packer i, Pk.DESC_DROP_CNT, 0), (Pg.packer i, irqBit 17, 0),
        (Pg.packer i, Pk.LAST_WHY, 0), (Pg.packer i, Pk.LAST_EVNO_LO, 0), (Pg.packer i, Pk.LAST_EVNO_HI, 0)] ++
          logFields (Pg.packer i)))) ∧
  (∀ (i : Fin 40) (s : State), s.regionRuns i = false ∨ (s.pk i).queue = [] ∨ (s.pk i).work ≠ none ∨
    2 ≤ (s.pk i).banks.length → Does (.packStart i) s fun t => t = s) ∧
  (∀ (i : Fin 40) (k : Desc) (ks : List Desc) (s : State), s.regionRuns i = true → (s.pk i).queue = k :: ks →
    (s.pk i).work = none → (s.pk i).banks.length < 2 →
    let bypass := decide (s.profile (En.packer i) = Prof.latency ∨ s.profile (En.packer i) = Prof.thasol)
    let mode := if bypass then 0 else Dc.mode k.d
    let evno := Dc.evno k.d
    let len := Dc.len k.d
    let works (t : State) (f : Framing) (ws : List Nat) : Prop :=
      t.pk i = { s.pk i with queue := ks, work := some ⟨headerWords i k f ++ ws, k, f.why⟩ } ∧
        t.pkRd i Pk.CUR_MODE = mode ∧ t.rb = s.rb ∧ t.body = ({ s with packers := t.packers } : State).body ∧
        s.onlyPages t [Pg.packer i, Pg.log]
    let read (t : State) (n : Nat) : Prop := t.pkRd i Pk.IN_BYTES_LO + t.pkRd i Pk.IN_BYTES_HI * 2 ^ 32 =
      (s.pkRd i Pk.IN_BYTES_LO + s.pkRd i Pk.IN_BYTES_HI * 2 ^ 32 + 8 * n) % 2 ^ 64
    let done (t : State) : Prop := t.pkRd i Pk.SRC_DONE_LO = evno % 2 ^ 32 ∧ t.pkRd i Pk.SRC_DONE_HI = evno / 2 ^ 32 % 2 ^ 16
    (∀ why, s.descWhy i k.d = some why → Does (.packStart i) s fun t => s.dropsEvent t i why evno ∧
      (why = 3 → 11 < Dc.dx k.d → t.pk i = { s.pk i with queue := ks }) ∧
      (why = 2 ∨ Dc.dx k.d ≤ 11 → works t ⟨mode, false, bypass, why, 0⟩ [])) ∧
    (s.descWhy i k.d = none → s.isOn (En.slab i) = true → ∀ ws, s.sourceReads i k.d len ws →
      let out := payloadOf mode (Dc.q k.d) (Dc.thr k.d) (Dc.signed k.d) ws
      ((mode = 1 ∨ mode = 2 ∨ mode = 5 → out.length ≤ len) → Does (.packStart i) s fun t =>
        works t ⟨mode, false, bypass, 0, out.length⟩ out ∧ read t len ∧ done t ∧ t.logQ = s.logQ) ∧
      (mode = 1 ∨ mode = 2 ∨ mode = 5 → len < out.length → Does (.packStart i) s fun t =>
        works t ⟨0, true, false, 0, len⟩ ws ∧ read t (2 * len) ∧ done t ∧ t.pkRd i Pk.FALLBACK = 1 ∧
        t.pkRd i Pk.FALLBACK_CNT = satAdd 16 (s.pkRd i Pk.FALLBACK_CNT) 1 % 2 ^ 16 ∧
        t.flag (Pg.packer i) (irqBit 18) = true ∧
        s.enters t (Pg.packer i) 0x22 Sev.info Ag.hlp (mode + evno % 2 ^ 28 * 2 ^ 4))) ∧
    (s.descWhy i k.d = none → s.isOn (En.slab i) = true → ∀ j ws, j < len → s.sourceReads i k.d j ws →
      (wordDecode (mget {} s.rb (rbKey i (s.sourceWord i (Dc.src k.d) j)))).1 = .poison → Does (.packStart i) s fun t =>
        s.dropsEvent t i 1 evno ∧ t.pkRd i Pk.POISON_DROP = 1 ∧ t.flag (Pg.packer i) (irqBit 19) = true ∧
        t.pkRd i Pk.POISON_CNT = satAdd 16 (s.pkRd i Pk.POISON_CNT) 1 % 2 ^ 16 ∧
        works t ⟨mode, false, bypass, 1, 0⟩ [] ∧ read t (j + 1) ∧
        (mget none s.lastLogs ((Pg.packer i * 256 + 0x20) * 2 ^ 16 + 1) ≠ some s.time64 →
          s.enters t (Pg.packer i) 0x20 Sev.uncorrected Ag.hlp (1 + evno % 2 ^ 28 * 2 ^ 4)))) ∧
  (∀ (i : Fin 40) (s : State),
    (s.regionRuns i = false ∨ (s.pk i).work = none → Does (.trailerFormed i) s fun t => t = s) ∧
    (∀ e, s.regionRuns i = true → (s.pk i).work = some e → Does (.trailerFormed i) s fun t =>
      t.pk i = { s.pk i with work := none, banks := (s.pk i).banks ++
        [{ e with words := e.words ++ [trailerWord (e.words.length - 3) e.words] }] } ∧
      t.logQ = s.logQ ∧ t.body = ({ s with packers := t.packers } : State).body ∧
      s.onlyFields t [(Pg.packer i, Pk.DQ_FILL, 0), (Pg.packer i, Pk.DQ_HWM, 0), (Pg.packer i, Pk.BUSY, 0)]) ∧
    (s.regionRuns i = false ∨ s.netRuns = false ∨ (s.pk i).banks = [] → Does (.eventSend i) s fun t => t = s) ∧
    (∀ e es, s.regionRuns i = true → s.netRuns = true → (s.pk i).banks = e :: es →
      let d := e.desc.d
      let p := eventPacket ⟨Dc.dx d, Dc.dy d, Dc.ep d⟩ (regionPlace i 2) (Dc.daddr d) e.words
      let src := regionPlace i 2
      (s.injectWhy p src = .sent → Does (.eventSend i) s fun t => t.pk i = { s.pk i with banks := es } ∧
        s.offers t (s.onFlow p src) src ∧
        t.mesh = { s.mesh with flight := t.mesh.flight, offered := s.mesh.offered + 1 } ∧ t.logQ = s.logQ ∧
        t.pkRd i Pk.OUT_BYTES_LO + t.pkRd i Pk.OUT_BYTES_HI * 2 ^ 32 =
          (s.pkRd i Pk.OUT_BYTES_LO + s.pkRd i Pk.OUT_BYTES_HI * 2 ^ 32 + 8 * e.words.length) % 2 ^ 64 ∧
        t.body = ({ s with packers := t.packers, mesh := t.mesh } : State).body ∧ s.onlyPages t [Pg.packer i]) ∧
      (s.injectWhy p src = .noRoute → Does (.eventSend i) s fun t => t.pk i = { s.pk i with banks := es } ∧
        t.mesh = s.mesh ∧ t.pkRd i Pk.DROP_CNT = s.pkRd i Pk.DROP_CNT) ∧
      (s.injectWhy p src = .noSlot → Does (.eventSend i) s fun t => t.pk i = { s.pk i with banks := es } ∧
        t.mesh = s.mesh ∧ (e.why = 0 → s.dropsEvent t i 6 (Dc.evno d)) ∧
        (e.why ≠ 0 → t.pkRd i Pk.DROP_CNT = s.pkRd i Pk.DROP_CNT)))) ∧
  (∀ (q thr : Nat) (sgn : Bool) (ws : List Nat), payloadOf 0 q thr sgn ws = ws ∧
    (payloadOf 3 q thr sgn ws).length = 3 * ceilDiv ws.length 4 ∧
    (q ≤ 8 → (payloadOf 4 q thr sgn ws).length = ceilDiv (ws.length * (16 - q)) 16))

/-- Hits, sets and roads (R288, R289, R298 to R309, R311). A hit of an attached port joins the set of its bucket, up to the limit
of its layer; while BUSY it is discarded and counted. A set closes in the bucket after its own and is matched at the
majority: its roads are the valid patterns that match in THRESH layers and in every layer of REQ_MASK. A road port gives a
set its window: the first roads that fit, then the trailer; in BANDWIDTH roads go on from window to window. A word of the
road buffer that is uncorrectable comes with POISON (R311). -/
def Obligations.shallotMatching : Prop :=
  (∀ (k : Fin 12) (port : Fin 8) (hs : List (Fin 8 × BitVec 16)) (s : State),
    (s.shAttached (portRegion k port) 5 k = false ∨ s.isOn (En.shallot k) = false →
      Does (.hitWrite k port hs) s fun t => t = s) ∧
    (s.shAttached (portRegion k port) 5 k = true → s.isOn (En.shallot k) = true → s.shBusy k = true →
      Does (.hitWrite k port hs) s fun t => t.shRd k Shl.HIT_DISC_CNT =
        satAdd 16 (s.shRd k Shl.HIT_DISC_CNT) (min 4 hs.length) % 2 ^ 16 ∧ t.body = s.body ∧ t.logQ = s.logQ ∧
        s.onlyFields t [(Pg.shallot k, Shl.HIT_DISC_CNT, 0)])) ∧
  (∀ (k : Fin 12) (port : Fin 8) (l : Fin 8) (ss : BitVec 16) (s : State),
    s.shAttached (portRegion k port) 5 k = true → s.isOn (En.shallot k) = true → s.shBusy k = false →
    let cur := ((s.sh k).sets.find? fun x => x.t64 = s.time64).getD { t64 := s.time64, bucket := s.bucket }
    let rest := (s.sh k).sets.filter fun x => x.t64 ≠ s.time64
    let thr := cur.thr || s.shThrottled k
    ((cur.hits.filter fun h => h.1 = l.val).length < s.hitLimit k → Does (.hitWrite k port [(l, ss)]) s fun t =>
      (t.sh k).sets = rest ++ [{ cur with thr := thr, hits := cur.hits ++ [(l.val, ss.toNat)] }] ∧ t.logQ = s.logQ ∧
      t.regs = s.regs ∧ t.body = ({ s with shallots := t.shallots } : State).body) ∧
    (s.hitLimit k ≤ (cur.hits.filter fun h => h.1 = l.val).length → Does (.hitWrite k port [(l, ss)]) s fun t =>
      (t.sh k).sets = rest ++ [{ cur with thr := thr, hovf := cur.hovf ||| 2 ^ l.val }] ∧
      (cur.hovf = 0 → t.shRd k Shl.HIT_OVF_CNT = satAdd 16 (s.shRd k Shl.HIT_OVF_CNT) 1 % 2 ^ 16 ∧
        t.flag (Pg.shallot k) (irqBit 18) = true) ∧
      (cur.hovf ≠ 0 → t.shRd k Shl.HIT_OVF_CNT = s.shRd k Shl.HIT_OVF_CNT)) ∧
    ∀ hs, hs.length ≤ 3 → Does (.hitWrite k port ((l, ss) :: hs)) s fun t =>
      ∃ u, exec (.hitWrite k port [(l, ss)]) s = .next u ∧ exec (.hitWrite k port hs) u = .next t) ∧
  (∀ (k : Fin 12) (s : State),
    let may := s.timed = true ∧ s.isOn (En.shallot k) = true ∧ s.flag (Pg.shallot k) Hdr.EN = true ∧ s.time64 ≠ 0 ∧
      (s.sh k).closed = none ∧ ∀ r ∈ (s.sh k).results, r.set.t64 + 1 ≠ s.time64
    (¬ may → Does (.setClose k) s fun t => t = s) ∧
    (may → Does (.setClose k) s fun t => (∃ x, (t.sh k).closed = some x ∧ x.t64 + 1 = s.time64 ∧
        x.seq = s.shRd k Shl.SET_SEQ ∧ x.fill = decide (s.sstate k ≠ 2) ∧
        (∀ y, (s.sh k).sets.find? (fun y => y.t64 + 1 = s.time64) = some y → x.hits = y.hits ∧ x.hovf = y.hovf ∧
          x.bucket = y.bucket) ∧
        ((s.sh k).sets.find? (fun y => y.t64 + 1 = s.time64) = none → x.hits = [] ∧ x.hovf = 0 ∧
          x.bucket = if s.bucket = 0 then s.turnLen - 1 else s.bucket - 1)) ∧
      t.shRd k Shl.SET_SEQ = (s.shRd k Shl.SET_SEQ + 1) % 2 ^ 32 ∧ t.logQ = s.logQ ∧
      (s.sstate k ≠ 2 ∨ (∀ c ∈ s.wk.slices, c.kind = 4 → c.entry ≠ En.shallot k) →
        t.body = ({ s with shallots := t.shallots } : State).body ∧
        s.onlyFields t [(Pg.shallot k, Shl.SET_SEQ, 0)]))) ∧
  (∀ (k : Fin 12) (x : HitSet) (s : State), (s.sh k).closed = some x → s.isOn (En.shallot k) = true →
    let roads := if x.fill || x.hits.isEmpty then [] else s.roadsOf k x.hits
    let stream := decide (s.profile (En.shallot k) = Prof.bandwidth)
    let cap := 4 * (2 * s.shC k - 1)
    Does (.majority k) s fun t => (t.sh k).closed = none ∧ (t.sh k).fixed = false ∧
      (∃ r, (t.sh k).results = (s.sh k).results ++ [r] ∧ r.set = x ∧ r.nroads = roads.length ∧ r.stream = stream ∧
        r.bank = s.shRd k Shl.ACT_BANK ∧ r.fixed = (s.sh k).fixed ∧
        r.roads = roads.take (if stream then min cap (4096 - bufferWords (s.sh k).results) else cap)) ∧
      t.shRd k Shl.ROAD_CNT_LO + t.shRd k Shl.ROAD_CNT_HI * 2 ^ 32 =
        (s.shRd k Shl.ROAD_CNT_LO + s.shRd k Shl.ROAD_CNT_HI * 2 ^ 32 + roads.length) % 2 ^ 48 ∧
      t.logQ = s.logQ ∧ t.body = ({ s with shallots := t.shallots } : State).body ∧
      s.onlyFields t [(Pg.shallot k, Shl.ROAD_CNT_LO, 0), (Pg.shallot k, Shl.ROAD_CNT_HI, 0)]) ∧
  (∀ (k : Fin 12) (s : State), (s.sh k).closed = none ∨ s.isOn (En.shallot k) = false →
    Does (.majority k) s fun t => t = s) ∧
  (∀ (k : Fin 12) (hits : List (Nat × Nat)) (n m : Nat) (s : State), mwf 0 s.arows = true → n < patterns →
    let row := mget 0 s.arows (arowKey k n)
    (⟨n, m⟩ ∈ s.roadsOf k hits ↔ bitOf row 160 = 1 ∧ m = rowMatch hits row ∧ threshOf (s.shRd k Shl.THRESH) ≤ onesIn m 8 ∧
      m &&& s.shRd k Shl.REQ_MASK = s.shRd k Shl.REQ_MASK)) ∧
  (∀ (hits : List (Nat × Nat)) (row l : Nat), l < 8 → (bitOf (rowMatch hits row) l = 1 ↔
    ∃ h ∈ hits, h.1 = l ∧ layerMatch h.2 (bitsOf row (16 * l) 16) (bitsOf row (128 + 4 * l) 4) = true)) ∧
  (∀ h ss mask : Nat, h < 2 ^ 16 → ss < 2 ^ 16 → mask < 16 →
    (layerMatch h ss mask = true ↔ (h ^^^ ss) &&& (0xFFF0 ||| (15 - mask)) = 0)) ∧
  (∀ (r : RoadSet) (j w : Nat) (last : Bool), let n := onesIn (mget 0 r.struck j) 80
    (n ≤ 2 → bufferWord r j w last = ⟨w, last, false⟩) ∧ (n = 3 → (bufferWord r j w last).poison = true)) ∧
  (∀ (k : Fin 12) (port : Fin 8) (edges : Nat) (s : State), s.timed = false ∨ s.isOn (En.shallot k) = false ∨
    s.flag (Pg.shallot k) Hdr.EN = false → Does (.roadWindow k port edges) s fun t => t = s) ∧
  (∀ (k : Fin 12) (port : Fin 8) (edges : Nat) (s : State), s.timed = true → s.isOn (En.shallot k) = true →
    s.flag (Pg.shallot k) Hdr.EN = true →
    let due := (s.sh k).results.find? fun r => !r.stream && r.set.t64 + s.roadDelay k = s.time64
    ((∀ r ∈ (s.sh k).results, r.stream = false) → due = none → Does (.roadWindow k port edges) s fun t =>
      mget [] (t.sh k).out port = [] ∧ t.regs = s.regs ∧ t.logQ = s.logQ) ∧
    (∀ r, (∀ r ∈ (s.sh k).results, r.stream = false) → due = some r →
      let ws := roadWords k r 0 (edges - 1)
      Does (.roadWindow k port edges) s fun t =>
        mget [] (t.sh k).out port = ws ++ [setTrailer r ws.length (decide (ws.length < r.nroads))] ∧
        (ws.length < r.nroads → r.told = false → t.flag (Pg.shallot k) (irqBit 19) = true ∧
          t.shRd k Shl.ROAD_OVF_CNT = satAdd 16 (s.shRd k Shl.ROAD_OVF_CNT) 1 % 2 ^ 16 ∧
          s.enters t (Pg.shallot k) 0x23 Sev.info Ag.hlp (r.set.seq % 256 + 2 ^ port.val * 2 ^ 8)) ∧
        (r.nroads ≤ ws.length ∨ r.told = true → t.regs = s.regs ∧ t.logQ = s.logQ) ∧
        t.body = ({ s with shallots := t.shallots } : State).body) ∧
    (∀ r a, (s.sh k).results = [r] → r.stream = true → r.set.t64 + s.roadDelay k ≤ s.time64 →
      mget (0, 0) (s.sh k).progress port = (r.set.t64, a) → a ≤ r.roads.length →
      (r.roads.length - a < edges → Does (.roadWindow k port edges) s fun t => mget [] (t.sh k).out port =
        roadWords k r a edges ++ [setTrailer r r.roads.length (decide (r.roads.length < r.nroads))]) ∧
      (edges ≤ r.roads.length - a → Does (.roadWindow k port edges) s fun t =>
        mget [] (t.sh k).out port = roadWords k r a edges ∧ t.regs = s.regs ∧ t.logQ = s.logQ ∧
        mget (0, 0) (t.sh k).progress port = (r.set.t64, a + edges))))

/-- Pattern banks (R291 to R296, R312 to R315). A word written through the window goes to the bank that it shows and leaves
that bank WRITING; a half waits for its other half; a write that is not naturally aligned does nothing (R6). A bank that is verified, active or named by a commit takes no write but
that of a lost record. VERIFY_GO and COMMIT_GO act on the states that Table 10.2 lets them act on, one verify at a time (R14; that VERIFY_GO acts on
a VERIFIED or BAD bank is log entry 159). A verify ends in VERIFIED or BAD by its CRC and its reserved fields, and with
AUTO_COMMIT bank 0 is verified once no verify of the other bank runs and committed when it passes. A fill begins in a bucket
after the one it was asked in, makes the bank active and writes every row from it. The scrub rewrites a
row that differs from its record, and at the third difference of one pass moves it to a spare row. A lost record whose four
words were written again returns. -/
def Obligations.shallotBanks : Prop :=
  (∀ (ag : Agent) (k : Fin 12) (off : BitVec 23) (v : BitVec 64) (s : State), s.grants ag (Pg.shallot k) →
    let bank := s.shRd k Shl.WIN_BANK
    let n := off.toNat / 32
    let key := goldKey k bank n (off.toNat / 8 % 4)
    let named := s.shRd k Shl.FILL_PEND = 1 ∧ (s.sh k).fillBank = bank
    let put (t : State) : Prop := ∀ j, mget {} t.gold j = if j = key then cleanWord v.toNat else mget {} s.gold j
    let aligned (n : Nat) := off.toNat % n = 0
    (∀ size8 : Bool, ¬ aligned (if size8 then 8 else 4) → Does (.patternWindowWrite ag k off size8 v) s fun t =>
      t.body = s.body ∧ t.regs = s.regs ∧ t.logQ = s.logQ) ∧
    (aligned 8 → s.bank k bank ≠ Bank.verifying → s.bank k bank ≠ Bank.active → ¬ named →
      Does (.patternWindowWrite ag k off true v) s fun t => put t ∧ t.bank k bank = Bank.writing ∧
        t.isLost k bank n = false ∧ t.logQ = s.logQ ∧
        t.body = ({ s with gold := t.gold, shallots := t.shallots } : State).body ∧
        s.onlyFields t [(Pg.shallot k, bankRow bank, 0)]) ∧
    (aligned 8 → s.bank k bank = Bank.verifying ∨ named ∨ (s.bank k bank = Bank.active ∧ s.isLost k bank n = false) →
      Does (.patternWindowWrite ag k off true v) s fun t => t.flag (Pg.shallot k) Hdr.WRITE_IGNORED = true ∧
        t.gold = s.gold ∧ t.logQ = s.logQ ∧ s.onlyFields t [(Pg.shallot k, Hdr.WRITE_IGNORED, 0)]) ∧
    (∀ m, aligned 8 → s.bank k bank = Bank.active → ¬ named → (s.sh k).lost = [(bank, n, m)] →
      Does (.patternWindowWrite ag k off true v) s fun t => put t ∧
        (t.sh k).lost = [(bank, n, m ||| 2 ^ (off.toNat / 8 % 4))] ∧ t.regs = s.regs ∧ t.logQ = s.logQ ∧
        t.arows = s.arows) ∧
    (aligned 4 → off.toNat / 4 % 2 = 0 → Does (.patternWindowWrite ag k off false v) s fun t =>
      (t.sh k).half = some (off.toNat / 8, v.toNat % 2 ^ 32) ∧ t.gold = s.gold ∧ t.regs = s.regs ∧ t.logQ = s.logQ) ∧
    (aligned 4 → off.toNat / 4 % 2 = 1 →
      (∀ lo, lo < 2 ^ 32 → (s.sh k).half = some (off.toNat / 8, lo) →
        Does (.patternWindowWrite ag k off false v) s fun t =>
          exec (.patternWindowWrite ag k (off - 4) true (BitVec.ofNat 64 (lo + v.toNat % 2 ^ 32 * 2 ^ 32))) s = .next t) ∧
      ((∀ lo, (s.sh k).half ≠ some (off.toNat / 8, lo)) → Does (.patternWindowWrite ag k off false v) s fun t =>
        t.flag (Pg.shallot k) Hdr.WRITE_IGNORED = true ∧ t.gold = s.gold ∧ t.logQ = s.logQ ∧
        s.onlyFields t [(Pg.shallot k, Hdr.WRITE_IGNORED, 0)]))) ∧
  (∀ (ag : Agent) (k : Fin 12) (b : Fin 2) (s : State), s.grants ag (Pg.shallot k) →
    let st := s.bank k b
    let pend := s.shRd k Shl.FILL_PEND = 1 ∨ (s.sh k).filling = true
    let named := s.shRd k Shl.FILL_PEND = 1 ∧ (s.sh k).fillBank = b.val
    (st = Bank.writing ∨ st = Bank.verified ∨ st = Bank.bad → (s.sh k).verify = none → ¬ named → Does (.verifyGo ag k b) s fun t =>
      t.bank k b = Bank.verifying ∧ t.sh k = { s.sh k with verify := some b.val } ∧ t.logQ = s.logQ ∧
      t.body = ({ s with shallots := t.shallots } : State).body ∧ s.onlyFields t [(Pg.shallot k, bankRow b, 0)]) ∧
    (st = Bank.empty ∨ st = Bank.verifying ∨ st = Bank.active ∨ (s.sh k).verify ≠ none ∨ named → Does (.verifyGo ag k b) s fun t =>
      t.flag (Pg.shallot k) Hdr.WRITE_IGNORED = true ∧ t.body = s.body ∧ t.logQ = s.logQ ∧
      s.onlyFields t [(Pg.shallot k, Hdr.WRITE_IGNORED, 0)]) ∧
    (pend → Does (.commitGo ag k b) s fun t => t.flag (Pg.shallot k) Hdr.WRITE_IGNORED = true ∧ t.body = s.body ∧
      t.logQ = s.logQ ∧ s.onlyFields t [(Pg.shallot k, Hdr.WRITE_IGNORED, 0)]) ∧
    (¬ pend → st ≠ Bank.verified → Does (.commitGo ag k b) s fun t => t.flag (Pg.shallot k) (irqBit 23) = true ∧
      t.body = s.body ∧ s.enters t (Pg.shallot k) 0x21 Sev.info Ag.hlp ((b.val + st * 2) % 2 ^ 32) ∧
      s.onlyFields t ((Pg.shallot k, irqBit 23, 0) :: logFields (Pg.shallot k))) ∧
    (¬ pend → st = Bank.verified → Does (.commitGo ag k b) s fun t => t.shRd k Shl.FILL_PEND = 1 ∧
      t.sh k = { s.sh k with fillBank := b.val, fillSince := s.stamp } ∧ t.logQ = s.logQ ∧
      t.body = ({ s with shallots := t.shallots } : State).body ∧
      s.onlyFields t [(Pg.shallot k, Shl.FILL_PEND, 0)])) ∧
  (∀ (k : Fin 12) (b : Fin 2) (s : State), s.isOn (En.shallot k) = true → (s.sh k).verify = some b.val →
    (∀ j, j < patterns * 4 → (wordDecode (mget {} s.gold (goldKey k b 0 0 + j))).1 = .clean) →
    let ws := (s.bankWords k b).map fun (e : Nat × EWord) => (e.1, (wordDecode e.2).2)
    let crc := crcSparse (patterns * 4) ws
    let reserved := ws.any fun w => (w.1 % 4 = 2 && w.2 / 2 ^ 33 ≠ 0) || (w.1 % 4 = 3 && w.2 ≠ 0)
    let pass := crc = s.shRd k (if b = 0 then Shl.EXP_CRC0 else Shl.EXP_CRC1) ∧ reserved = false
    Does (.verifyDone k) s fun t => t.shRd k Shl.GOT_CRC = crc % 2 ^ 32 ∧ t.flag (Pg.shallot k) (irqBit 16) = true ∧
      t.gold = s.gold ∧ t.arows = s.arows ∧
      (pass → t.bank k b = Bank.verified ∧ t.logQ = s.logQ) ∧
      (¬ pass → t.bank k b = Bank.bad ∧ s.enters t (Pg.shallot k) 0x20 Sev.info Ag.hlp (b.val + bit reserved * 2)) ∧
      ((s.sh k).auto = false → t.sh k = { s.sh k with verify := none } ∧
        t.shRd k Shl.FILL_PEND = s.shRd k Shl.FILL_PEND) ∧
      (let free := s.shRd k Shl.FILL_PEND = 0 ∧ (s.sh k).filling = false
       (s.sh k).auto = true → b = 0 →
        (pass ∧ free → t.sh k = { s.sh k with verify := none, fillBank := 0, fillSince := s.stamp } ∧ t.shRd k Shl.FILL_PEND = 1) ∧
        (¬ (pass ∧ free) → t.sh k = { s.sh k with verify := none, auto := false } ∧
          t.shRd k Shl.FILL_PEND = s.shRd k Shl.FILL_PEND)) ∧
      (let st := s.bank k 0
       let no := st = Bank.empty ∨ st = Bank.active ∨ (s.shRd k Shl.FILL_PEND = 1 ∧ (s.sh k).fillBank = 0)
       (s.sh k).auto = true → b = 1 →
        (no → t.sh k = { s.sh k with verify := none, auto := false } ∧ t.bank k 0 = st) ∧
        (¬ no → t.sh k = { s.sh k with verify := some 0 } ∧ t.bank k 0 = Bank.verifying))) ∧
  (∀ (k : Fin 12) (s : State),
    (s.isOn (En.shallot k) = false ∨ (s.sh k).verify = none → Does (.verifyDone k) s fun t => t = s) ∧
    (s.isOn (En.shallot k) = false ∨ (s.sh k).filling = false → Does (.fillDone k) s fun t => t = s) ∧
    (s.isOn (En.shallot k) = false ∨ s.shRd k Shl.FILL_PEND = 0 ∨
      s.bucketSince (s.sh k).fillSince = false ∨ (if (s.sh k).auto ∧ (s.sh k).fillBank = 0 then s.timed = false ∨ s.tp.started = false else s.quietPoint = false) →
      Does (.fillStart k) s fun t => t = s)) ∧
  (∀ (k : Fin 12) (b : Fin 2) (s : State), s.isOn (En.shallot k) = true → (s.sh k).fillBank = b.val →
    (s.shRd k Shl.FILL_PEND = 1 → s.bucketSince (s.sh k).fillSince = true →
      (if (s.sh k).auto ∧ b = 0 then s.timed = true ∧ s.tp.started = true else s.quietPoint = true) →
      Does (.fillStart k) s fun t => t.shRd k Shl.FILL_PEND = 0 ∧ t.bank k b = Bank.active ∧
        t.bank k (1 - b.val) =
          (if s.bank k (1 - b.val) = Bank.active then Bank.verified else s.bank k (1 - b.val)) ∧
        t.sh k = { s.sh k with filling := true, auto := (s.sh k).auto && decide (b ≠ 0) } ∧ t.logQ = s.logQ ∧
        t.body = ({ s with shallots := t.shallots } : State).body ∧
        s.onlyFields t [(Pg.shallot k, Shl.FILL_PEND, 0), (Pg.shallot k, Shl.BANK0_STATE, 0),
          (Pg.shallot k, Shl.BANK1_STATE, 0)]) ∧
    ((s.sh k).filling = true → (s.sh k).lost = [] → (∀ n, n < patterns → ∃ v, s.record k b n v) →
      Does (.fillDone k) s fun t => (∀ n v, n < patterns → s.record k b n v → mget 0 t.arows (arowKey k n) = v) ∧
        (∀ j, (∀ n, n < patterns → j ≠ arowKey k n) → mget 0 t.arows j = mget 0 s.arows j) ∧
        t.shRd k Shl.ACT_BANK = b.val ∧ t.shRd k Shl.ACT_VALID = 1 ∧ (t.sh k).filling = false ∧
        t.flag (Pg.shallot k) (irqBit 17) = true ∧ s.enters t (Pg.shallot k) 0x28 Sev.info Ag.hlp b.val ∧
        t.body = ({ s with arows := t.arows, shallots := t.shallots } : State).body)) ∧
  (∀ (k : Fin 12) (sl : Fin 4) (s : State), s.shRd k Shl.SCRUB_EN = 0 ∨ s.isOn (En.shallot k) = false ∨
    (s.sh k).filling = true ∨ s.shRd k Shl.ACT_VALID = 0 → Does (.patternScrub k sl) s fun t => t = s) ∧
  (∀ (k : Fin 12) (sl : Fin 4) (row v : Nat) (s : State), s.shRd k Shl.SCRUB_EN = 1 → s.isOn (En.shallot k) = true →
    (s.sh k).filling = false → s.shRd k Shl.ACT_VALID = 1 → mget 0 (s.sh k).scrub sl = row → row < 65536 →
    let bank := s.shRd k Shl.ACT_BANK
    let n := sl.val * 65536 + row
    let have_ := mget 0 s.arows (arowKey k n)
    let fixed (t : State) : Prop := (∀ j, mget 0 t.arows j = if j = arowKey k n then v else mget 0 s.arows j) ∧
      t.shRd k Shl.FIX_CNT = satAdd 16 (s.shRd k Shl.FIX_CNT) 1 % 2 ^ 16 ∧ t.shRd k Shl.LAST_PAT = n ∧
      (t.sh k).fixed = true ∧ t.flag (Pg.shallot k) (irqBit 20) = true ∧
      s.enters t (Pg.shallot k) 0x24 Sev.corrected Ag.hlp n ∧ mget 0 (t.sh k).scrub sl = row
    s.record k bank n v → s.isLost k bank n = false →
    (have_ = v → Does (.patternScrub k sl) s fun t => mget 0 (t.sh k).scrub sl = row + 1 ∧ t.arows = s.arows ∧
      t.regs = s.regs ∧ t.logQ = s.logQ ∧ t.body = ({ s with shallots := t.shallots } : State).body) ∧
    (have_ ≠ v → (s.sh k).diffs = [] → Does (.patternScrub k sl) s fun t => fixed t ∧
      (t.sh k).diffs = [(n, have_ ^^^ v, 1)]) ∧
    (have_ ≠ v → (s.sh k).diffs = [(n, have_ ^^^ v, 2)] → s.repairs = [] → Does (.patternScrub k sl) s fun t =>
      fixed t ∧ (t.sh k).diffs = [] ∧ t.repairs = [⟨En.shallot k, 5, false, false, n / 64, n + bank * 2 ^ 19⟩] ∧
      t.shRd k Shl.SPARES_FREE = (s.shRd k Shl.SPARES_FREE - 1) % 2 ^ 13 ∧
      t.flag (Pg.shallot k) (irqBit 21) = true ∧
      (s.logQ.length < 31 → s.enters t (Pg.shallot k) 0x25 Sev.corrected Ag.hlp n))) ∧
  (∀ (k : Fin 12) (s : State),
    let bank := s.shRd k Shl.ACT_BANK
    ((∀ n, (bank, n, 15) ∉ (s.sh k).lost) → Does (.lostPatternRestore k) s fun t => t = s) ∧
    (∀ n v, n < patterns → (s.sh k).lost = [(bank, n, 15)] → s.shRd k Shl.ACT_VALID = 1 →
      s.isOn (En.shallot k) = true → s.record k bank n v → Does (.lostPatternRestore k) s fun t =>
        (t.sh k).lost = [] ∧ t.shRd k Shl.LOST_CNT = 0 ∧ t.shRd k Shl.LAST_PAT = n ∧
        (∀ j, mget 0 t.arows j = if j = arowKey k n then v else mget 0 s.arows j) ∧
        t.flag (Pg.shallot k) (irqBit 20) = true ∧ s.enters t (Pg.shallot k) 0x24 Sev.corrected Ag.hlp n))

/-! ### Memory (chapter 11) -/

/-- The stores and the slabs (R262, R326 to R328, R332 to R339). A write of the descriptor address is a descriptor; an access
beyond the buffer is told and does nothing; while the slab is off a read gives poison; else a read gives the eight words of
the line, and a write stores the words of its mask. The scrub reads the next unit of its walk, puts each word that needed a
correction back, and an uncorrectable one as poison; a forced slot is counted, whether or not the walk runs. The first row that waits for its copy on a Waybook entry (R456) moves to
a spare with its words corrected and is recorded, or is recorded DEAD where no spare is left. A hot word expires. Parity that
disagrees with clean words is rebuilt. The passing of an interval is the command's (log entry 5). -/
def Obligations.stores : Prop :=
  (∀ (i : Fin 40) (a : BitVec 20) (we re : Bool) (m : BitVec 8) (d : BitVec 512) (s : State),
    (s.rbPort i = false → Does (.rbAccess i a we re m d) s fun t => t = s) ∧
    (s.rbPort i = true → a = 0xFFFFF → re = false → we = true → Does (.rbAccess i a we re m d) s fun t =>
      exec (.descriptorWrite i d m) s = .next t) ∧
    (s.rbPort i = true → a = 0xFFFFF → re = true → we = false → Does (.rbAccess i a we re m d) s fun t =>
      mget (0, 0) t.rbOut i = (0, 0) ∧ t = { s with rbOut := t.rbOut }) ∧
    (s.rbPort i = true → a ≠ 0xFFFFF → s.isOn (En.slab i) = false → re = true → Does (.rbAccess i a we re m d) s fun t =>
      mget (0, 0) t.rbOut i = (0, 0xFF) ∧ t = { s with rbOut := t.rbOut }) ∧
    (s.rbPort i = true → a ≠ 0xFFFFF → s.isOn (En.slab i) = true → rbLines ≤ a.toNat → (we || re) = true →
      Does (.rbAccess i a we re m d) s fun t => t.rb = s.rb ∧ (re = true → mget (0, 0) t.rbOut i = (0, 0xFF)) ∧
        t.rd (Pg.slab i) Slab.RB_RANGE = 1 ∧ t.flag (Pg.slab i) (irqBit 21) = true ∧
        t.rd (Pg.slab i) Slab.RANGE_CNT = satAdd 16 (s.rd (Pg.slab i) Slab.RANGE_CNT) 1 % 2 ^ 16) ∧
    (s.rbPort i = true → a.toNat < rbLines → s.isOn (En.slab i) = true → re = false →
      Does (.rbAccess i a true re m d) s fun t => t.rbOut = s.rbOut ∧
        (∀ j, j < 8 → mget {} t.rb (rbKey i (8 * a.toNat + j)) = if bitOf m.toNat j = 1
          then cleanWord (bitsOf d.toNat (64 * j) 64) else mget {} s.rb (rbKey i (8 * a.toNat + j))) ∧
        ∀ k, (∀ j, j < 8 → k ≠ rbKey i (8 * a.toNat + j)) → mget {} t.rb k = mget {} s.rb k) ∧
    (∀ ws : List (Nat × Bool), s.rbPort i = true → a.toNat < rbLines → s.isOn (En.slab i) = true → ws.length = 8 →
      (∀ j, j < 8 → ∀ w ∈ ws[j]?, wordDecode (mget {} s.rb (rbKey i (8 * a.toNat + j))) =
        (if w.2 then .poison else .clean, w.1) ∧ (w.2 = true → w.1 = 0)) →
      Does (.rbAccess i a false true m d) s fun t => t = { s with rbOut := t.rbOut } ∧ mget (0, 0) t.rbOut i =
        (ws.zipIdx.foldl (fun (n : Nat) (w : (Nat × Bool) × Nat) => n + w.1.1 * 2 ^ (64 * w.2)) 0,
          ws.zipIdx.foldl (fun (n : Nat) (w : (Nat × Bool) × Nat) => n + bit w.1.2 * 2 ^ w.2) 0))) ∧
  (∀ (i : Fin 40) (arr : Fin 3) (s : State), s.slabScrubs i = false →
    (Does (.slabScrub i arr) s fun t => t = s) ∧ (Does (.scrubLate i arr) s fun t => t = s) ∧
    (s.slabKeeps i = false → Does (.slabForcedSlot i) s fun t => t = s) ∧
    (s.slabKeeps i = true → Does (.slabForcedSlot i) s fun t => t.body = s.body ∧ t.logQ = s.logQ ∧
      t.rd (Pg.slab i) Slab.FORCED_CNT = satAdd 16 (s.rd (Pg.slab i) Slab.FORCED_CNT) 1 % 2 ^ 16 ∧
      s.onlyFields t [(Pg.slab i, Slab.FORCED_CNT, 0)])) ∧
  (∀ (i : Fin 40) (arr : Fin 3) (s : State), s.slabScrubs i = true →
    let u := mget 0 s.walks (3 * i + arr)
    (Does (.slabScrub i arr) s fun t =>
      mget 0 t.walks (3 * i + arr) = (if u + 1 < walkLength arr then u + 1 else 0) ∧
      (walkLength arr ≤ u + 1 → (arr = 0 →
          t.rd (Pg.slab i) Slab.RB_PASS = (s.rd (Pg.slab i) Slab.RB_PASS + 1) % 2 ^ 16) ∧
        (arr = 1 → t.rd (Pg.slab i) Slab.BM_PASS = (s.rd (Pg.slab i) Slab.BM_PASS + 1) % 2 ^ 16)) ∧
      (arr = 0 → u < rbLines → (∀ j, j < 8 → mget {} t.rb (rbKey i (8 * u + j)) =
          wordBack (mget {} s.rb (rbKey i (8 * u + j)))) ∧
        ∀ k, (∀ j, j < 8 → k ≠ rbKey i (8 * u + j)) → mget {} t.rb k = mget {} s.rb k) ∧
      t.dm = s.dm ∧ t.ddr = s.ddr ∧ t.cfg = s.cfg ∧ t.ff = s.ff) ∧
    (Does (.slabForcedSlot i) s fun t =>
      t.rd (Pg.slab i) Slab.FORCED_CNT = satAdd 16 (s.rd (Pg.slab i) Slab.FORCED_CNT) 1 % 2 ^ 16 ∧
      mget 0 t.walks (3 * i) =
        if mget 0 s.walks (3 * i) + 1 < walkLength 0 then mget 0 s.walks (3 * i) + 1 else 0) ∧
    (Does (.scrubLate i arr) s fun t => t.rd (Pg.slab i) Slab.SCRUB_LATE = 1 ∧
      t.flag (Pg.slab i) (irqBit 20) = true ∧ s.enters t (Pg.slab i) 0x25 Sev.info Ag.hlp arr ∧ t.body = s.body ∧
      s.onlyFields t ([(Pg.slab i, Slab.SCRUB_LATE, 0), (Pg.slab i, irqBit 20, 0)] ++ logFields (Pg.slab i)))) ∧
  (∀ (st : Store) (u : Nat) (s : State),
    let used := s.sparesUsed st
    let first := (s.moves.filter fun m => storeEntry m.1 = storeEntry st).head? = some (st, u)
    (¬ first → Does (.rowSpareDone st u) s fun t => t = s) ∧
    (first → used < s.storeSpares st → Does (.rowSpareDone st u) s fun t =>
      t.moves = s.moves.erase (st, u) ∧ t.flag Pg.walker (irqBit 23) = true ∧
      t.repairs = s.repairs ++ [⟨storeEntry st, storeKind st, false, false, used, storePlace st u used⟩] ∧
      t.wb (storeEntry st) Wbe.REPAIR_COUNT = satAdd 16 (s.wb (storeEntry st) Wbe.REPAIR_COUNT) 1 % 2 ^ 16 ∧
      ∀ i : Fin 40, st = .regionBuffer i → mwf {} s.rb = true →
        (∀ w, 64 * u ≤ w → w < 64 * (u + 1) → mget {} t.rb (rbKey i w) = wordBack (mget {} s.rb (rbKey i w))) ∧
        t.flag (Pg.slab i) (irqBit 18) = true ∧ t.rd (Pg.slab i) Slab.ROW_SPARED = 1) ∧
    (first → s.storeSpares st ≤ used → Does (.rowSpareDone st u) s fun t =>
      t.moves = s.moves.erase (st, u) ∧
      t.repairs = s.repairs ++ [⟨storeEntry st, storeKind st, false, true, 0, storePlace st u 0⟩] ∧
      (s.blk (storeEntry st) = St.usable ∨ s.blk (storeEntry st) = St.inUse →
        t.blk (storeEntry st) = St.degraded) ∧ t.rb = s.rb ∧ t.ddr = s.ddr ∧ t.dm = s.dm) ∧
    ((s.hotTable st)[u]? = none → Does (.hotWordExpiry st u) s fun t => t = s) ∧
    (∀ h, (s.hotTable st)[u]? = some h → Does (.hotWordExpiry st u) s fun t =>
      t.hotTable st = (s.hotTable st).erase h ∧ t.logQ = s.logQ ∧ t.body = ({ s with hots := t.hots } : State).body)) ∧
  (∀ (p : Fin 40) (tile : Nat) (s : State),
    let key := tileKey p (tile / 10) (tile % 10)
    let clean := ∀ r, r < 8 → (wordDecode (mget {} s.cfg (cWordKey p (8 * (tile / 10) + r)))).1 = .clean
    let may := s.isOn (En.plane p) = true ∧ tile / 10 < 327680 ∧ clean ∧ mget 0 s.wk.tiles key ≠ 0
    (may → Does (.menderWalk p tile) s fun t => (∀ j, mget 0 t.wk.tiles j = if j = key then 0 else mget 0 s.wk.tiles j) ∧
      t.rd Pg.walker Wk.PAR_REBUILD_CNT = satAdd 16 (s.rd Pg.walker Wk.PAR_REBUILD_CNT) 1 % 2 ^ 16 ∧ t.cfg = s.cfg ∧
      t.logQ = s.logQ ∧ t.body = ({ s with wk := t.wk } : State).body ∧
      s.onlyFields t [(Pg.walker, Wk.PAR_REBUILD_CNT, 0)]) ∧
    (¬ may → Does (.menderWalk p tile) s fun t => t = s))

/-- The DDR4 channels (R344 to R355). A channel that may train trains, while its PLL runs: TRAINED with no refresh debt, or its byte
lane failed and it is RETIRED. A tick adds to the debt of a rank, and at 8 spills; a REF that the mode of Table 11.9 lets issue takes one
from it. The patrol reads the next line and puts corrected words back; in LAYBY mode it does so in an observed lay-by once the
REFs are issued, or when its pass is behind (R350). A waiting event is written where the ring has room and
EVR_WP passes it; at its time-out it is written all the same or discarded. A ring is enabled where it lies in the usable
space. -/
def Obligations.ddrChannels : Prop :=
  (∀ (c : Fin 8) (s : State),
    (s.mayTrain c = true → Does (.ddrTrainingStart c) s fun t => t.ch c = { s.ch c with training := true } ∧
      t.regs = s.regs ∧ t.logQ = s.logQ ∧ t.body = ({ s with chns := t.chns } : State).body) ∧
    (s.mayTrain c = false → Does (.ddrTrainingStart c) s fun t => t = s) ∧
    (∀ l, (s.ch c).training = false ∨ s.ddrClock c = false → Does (.ddrTrainingDone c l) s fun t => t = s) ∧
    ((s.ch c).training = true → s.ddrClock c = true → Does (.ddrTrainingDone c none) s fun t => t.trained c = true ∧
      t.flag (Pg.ddr c) (irqBit 16) = true ∧ t.debt c 0 = 0 ∧ t.debt c 1 = 0 ∧ t.ch c = { s.ch c with training := false, patrolAt := s.us } ∧
      t.logQ = s.logQ ∧ t.body = ({ s with chns := t.chns } : State).body ∧ s.onlyFields t [(Pg.ddr c, Ddr.TRAINED, 0),
        (Pg.ddr c, irqBit 16, 0), (Pg.ddr c, Ddr.DEBT0, 0), (Pg.ddr c, Ddr.DEBT1, 0)]) ∧
    (∀ l, (s.ch c).training = true → s.ddrClock c = true → Does (.ddrTrainingDone c (some l)) s fun t => t.ddrRd c Ddr.TRAIN_FAIL = 1 ∧
      t.ddrRd c Ddr.FAIL_LANE = l.val ∧ t.flag (Pg.ddr c) (irqBit 21) = true ∧ t.blk (En.ddr c) = St.retired ∧
      s.enters t (Pg.ddr c) 0x25 Sev.degraded Ag.hlp l)) ∧
  (∀ (c : Fin 8) (r : Fin 2) (p : Bool) (s : State),
    let d := s.debt c r
    let fits := s.tRfc c * s.bucketKhz ≤ s.laybyRemain * 1000000
    let mode := s.profile (En.ddr c)
    let may := if mode = Prof.bandwidth then 1 ≤ d ∧ p = false
      else if mode = Prof.endurance ∧ s.inLayby = false then 4 ≤ d ∧ p = false
      else s.inLayby = true ∧ -8 < d ∧ fits
    (s.refreshes c r = false → (Does (.refreshTick c r) s fun t => t = s) ∧ Does (.refIssue c r p) s fun t => t = s) ∧
    (s.refreshes c r = true → -8 ≤ d → d < 8 → Does (.refreshTick c r) s fun t => t.debt c r = d + 1 ∧ t.body = s.body ∧
      t.logQ = s.logQ ∧ s.onlyFields t [(Pg.ddr c, debtRow r, 0)]) ∧
    (s.refreshes c r = true → d = 8 → Does (.refreshTick c r) s fun t => t.debt c r = 8 ∧
      t.ddrRd c Ddr.SPILL_CNT = satAdd 16 (s.ddrRd c Ddr.SPILL_CNT) 1 % 2 ^ 16 ∧ t.ddrRd c Ddr.REF_SPILL = 1 ∧
      t.flag (Pg.ddr c) (irqBit 18) = true ∧ ((s.ch c).spillTurn ≠ some s.turn →
        s.enters t (Pg.ddr c) 0x22 Sev.info Ag.hlp (1 + r.val * 2 ^ 8)) ∧
      ((s.ch c).spillTurn = some s.turn → (s.ch c).spills ≠ 0 → t.logQ = s.logQ)) ∧
    (s.refreshes c r = true → ¬ may → Does (.refIssue c r p) s fun t => t = s) ∧
    (s.refreshes c r = true → may → -8 ≤ d → d ≤ 8 → Does (.refIssue c r p) s fun t => t.debt c r = d - 1 ∧
      t.body = s.body ∧ t.logQ = s.logQ ∧ s.onlyFields t [(Pg.ddr c, debtRow r, 0)])) ∧
  (∀ (c : Fin 8) (s : State),
    let may := s.ddrRd c Ddr.PATROL_EN = 1 ∧ s.trained c = true ∧ s.isOn (En.ddr c) = true ∧
      s.ddrRd c Ddr.SELF_REFRESH = 0 ∧ s.patrolSlot c = true
    let line := (s.ch c).patrol
    (¬ may → Does (.patrolRead c) s fun t => t = s) ∧
    (may → Does (.patrolRead c) s fun t => (t.ch c).patrol = (if line + 1 < s.ddrLines c then line + 1 else 0) ∧
      (s.ddrLines c ≤ line + 1 → (t.ch c).patrolAt = s.us ∧ t.ddrRd c Ddr.PATROL_PASS = (s.ddrRd c Ddr.PATROL_PASS + 1) % 2 ^ 16) ∧
      (∀ j, j < 8 → mget {} t.ddr (ddrKey c (8 * line + j)) = wordBack (mget {} s.ddr (ddrKey c (8 * line + j)))) ∧
      ∀ k, (∀ j, j < 8 → k ≠ ddrKey c (8 * line + j)) → mget {} t.ddr k = mget {} s.ddr k) ∧
    (s.ddrRd c Ddr.PATROL_EN = 1 → s.trained c = true → Does (.patrolLate c) s fun t => t.ddrRd c Ddr.SCRUB_LATE = 1 ∧
      s.enters t (Pg.ddr c) 0x26 Sev.info Ag.hlp (s.ddrRd c Ddr.PATROL_PASS % 2 ^ 32) ∧ t.body = s.body ∧
      s.onlyFields t ((Pg.ddr c, Ddr.SCRUB_LATE, 0) :: logFields (Pg.ddr c))) ∧
    (s.ddrRd c Ddr.PATROL_EN ≠ 1 ∨ s.trained c = false → Does (.patrolLate c) s fun t => t = s)) ∧
  (∀ (c : Fin 8) (r : Fin 4) (ws : List (Nat × Bool)) (es : List (List (Nat × Bool))) (s : State),
    s.ringWaiting c r = ws :: es →
    let n := ceilDiv ws.length 8
    let size := s.ddrRd c Ddr.EVR_LINES r
    let wp := s.ddrRd c Ddr.EVR_WP r
    let place (k : Nat) := ddrKey c (8 * (s.ddrRd c Ddr.EVR_BASE r + (wp + k / 8) % size) + k % 8)
    let room := s.ddrRd c Ddr.EVR_EN r = 1 ∧ s.ringRoom c r n = true
    (room → s.trained c = true → Does (.ringEventWrite c r) s fun t => t.ringWaiting c r = es ∧
      t.ddrRd c Ddr.EVR_WP r = (wp + n) % size % 2 ^ 29 ∧
      (∀ k, k < 8 * n → mget {} t.ddr (place k) =
        if (ws.getD k (0, false)).2 then poisonWord else cleanWord (ws.getD k (0, false)).1) ∧
      ∀ j, (∀ k, k < 8 * n → j ≠ place k) → mget {} t.ddr j = mget {} s.ddr j) ∧
    (room → Does (.evrTimeout c r) s fun t => exec (.ringEventWrite c r) s = .next t) ∧
    (¬ room → (s.ddrRd c Ddr.EVR_EN r = 0 ∨ s.ddrRd c Ddr.EVR_EN r = 1) →
      (Does (.ringEventWrite c r) s fun t => t = s) ∧
      Does (.evrTimeout c r) s fun t => t.ringWaiting c r = es ∧ t.ddr = s.ddr ∧ t.ddrRd c Ddr.EV_DISCARD = 1 ∧
        t.ddrRd c Ddr.EVR_DISC_CNT = satAdd 16 (s.ddrRd c Ddr.EVR_DISC_CNT) 1 % 2 ^ 16 ∧
        t.flag (Pg.ddr c) (irqBit 22) = true)) ∧
  (∀ (c : Fin 8) (r : Fin 4) (s : State), s.ringWaiting c r = [] →
    (Does (.ringEventWrite c r) s fun t => t = s) ∧ Does (.evrTimeout c r) s fun t => t = s) ∧
  (∀ (ag : Agent) (c : Fin 8) (r : Fin 4) (v : Word) (s : State), s.grants ag (Pg.ddr c) →
    let lines := v.toNat % 2 ^ 29
    let fits := lines ≠ 0 ∧ s.ddrRd c Ddr.EVR_BASE r + lines ≤ s.ddrUsable c
    (s.ddrRd c Ddr.EVR_EN r = 0 → Does (.evrEnable ag c r v) s fun t => t.ddrRd c Ddr.EVR_LINES r = lines ∧
      (v.getLsb 29 = true → fits → t.ddrRd c Ddr.EVR_EN r = 1 ∧ t.ddrRd c Ddr.EVR_WP r = 0 ∧
        t.ddrRd c Ddr.EVR_RP r = 0) ∧
      (v.getLsb 29 = false ∨ ¬ fits → t.ddrRd c Ddr.EVR_EN r = 0 ∧
        s.onlyFields t [(Pg.ddr c, Ddr.EVR_LINES, r)]) ∧ t.body = s.body ∧ t.logQ = s.logQ) ∧
    (s.ddrRd c Ddr.EVR_EN r = 1 → Does (.evrEnable ag c r v) s fun t =>
      t.ddrRd c Ddr.EVR_EN r = (v.getLsb 29).toNat ∧ t.ddrRd c Ddr.EVR_LINES r = s.ddrRd c Ddr.EVR_LINES r ∧
      (lines ≠ s.ddrRd c Ddr.EVR_LINES r → t.flag (Pg.ddr c) Hdr.WRITE_IGNORED = true) ∧ t.body = s.body ∧
      t.logQ = s.logQ))

/-! ### The network (chapter 12) -/

/-- Requests (R361 to R364, R369, R375, R380, R381, R384). A packet with the wrong OP, or while the network does not run,
moves nothing; one that is refused at injection is counted. A REQ or a WRITE that finds no usable endpoint is answered with
its CODE; one for a NET port is delivered to the fabric. A READ is answered with the lines it names, or with the CODE of the
memory or engine that cannot serve it; a READ_SHARED makes its region a sharer where the directory has room, and a RELEASE
takes it out. A WRITE stores the words of its mask, poisoned ones as poison, and is answered; one to a shared line is
answered after the INV it sends is acknowledged. A packet that was on its way arrives, if none of its
flow is before it; one that is offered now crosses at once, or stands behind those of its flow (log entry 40). -/
def Obligations.requests : Prop :=
  (∀ (c : Instr) (op : Nat) (p : Packet) (s : State), packetOf c = some (op, p) →
    (Hd.op p.h ≠ op ∨ s.netRuns = false → Does c s fun t => t = s) ∧
    (Hd.op p.h = op → s.netRuns = true → s.flying p = none →
      (s.injectWhy p = .noRoute → Does c s fun t => t.body = s.body ∧ t.logQ = s.logQ ∧
        t.rd Pg.network Net.NO_ROUTE_CNT = satAdd 16 (s.rd Pg.network Net.NO_ROUTE_CNT) 1 % 2 ^ 16 ∧
        s.onlyFields t [(Pg.network, Net.NO_ROUTE_CNT, 0)]) ∧
      (s.injectWhy p = .noSlot → Does c s fun t => t.body = s.body ∧ t.flag Pg.network (irqBit 23) = true ∧
        t.rd Pg.network Net.NO_SLOT_CNT = satAdd 16 (s.rd Pg.network Net.NO_SLOT_CNT) 1 % 2 ^ 16) ∧
      (s.injectWhy p = .sent → s.flowBusy (sourceOf p.h) (s.onFlow p) = true → Does c s fun t =>
        s.offers t (s.onFlow p) (sourceOf p.h) ∧
        t = { s with mesh := { s.mesh with flight := t.mesh.flight, offered := s.mesh.offered + 1 } })) ∧
    (∀ w, s.flying p = some w → s.mesh.flight.find? (sameFlow w.src w.p) ≠ some w → Does c s fun t => t = s)) ∧
  (∀ (c : Instr) (op : Nat) (p q : Packet) (s u : State), packetOf c = some (op, p) → s.lands u op p q →
    p.net = Nw.req ∨ (p.net = Nw.dat ∧ op = 0) →
    let rsp := if p.net = Nw.dat then 0 else if op = 2 then 2 else 1
    (∀ code, u.endpointWhy (destOf p.h) = some code → Does c s fun t => u.responds t p.h rsp code) ∧
    (∀ i, unitAt (destOf p.h) = some (.port i) → u.endpointWhy (destOf p.h) = none → goodFlits p.flits → Does c s fun t =>
      u.delivers t i (if p.net = Nw.dat then datFlits q (p.flits.map flitWords) else oneFlit q)) ∧
    (∀ w, unitAt (destOf p.h) = some w → u.endpointWhy (destOf p.h) = none → goodFlits p.flits →
      w = .pcie ∨ (∃ j, w = .tx j ∨ w = .packer j) → Does c s fun t => u.responds t p.h rsp (if rsp = 2 then 0 else 2))) ∧
  (∀ (v : PortFlit) (n : NetPort), n.waiting = [] →
    (mget 0 n.used (4 * v.net + v.vc) < 4 → (portShow n [v]).shown = some v ∧ (portShow n [v]).coming = n.coming ++ [v] ∧
      mget 0 (portShow n [v]).used (4 * v.net + v.vc) = mget 0 n.used (4 * v.net + v.vc) + 1) ∧
    (4 ≤ mget 0 n.used (4 * v.net + v.vc) → portShow n [v] = { n with waiting := [v] })) ∧
  (∀ (c : Instr) (op k : Nat) (w : Unit') (p q : Packet) (s u : State), packetOf c = some (op, p) → s.lands u op p q →
    p.net = Nw.req → unitAt (destOf p.h) = some w → memKey w = some k →
    let h := p.h
    let line := Hd.reqAddr h / 64
    let n := Hd.reqLen h
    let lines (ws : List Nat) := (List.range n).map fun j => flitOf (((ws.drop (8 * j)).take 8).map fun x => (x, false))
    let clean (ws : List Nat) : Prop := ws.length = 8 * n ∧
      ∀ j, j < 8 * n → wordDecode (u.word k (8 * line + j)) = (.clean, ws.getD j 0)
    (∀ code, op < 2 → u.memWhy k line n = some code → Does c s fun t => ∃ v : State, v.responds t h 1 code ∧ v.body = u.body ∧
      (k < 100 → v.rd (Pg.slab k) Slab.NET_REF_CNT = satAdd 16 (u.rd (Pg.slab k) Slab.NET_REF_CNT) 1 % 2 ^ 16)) ∧
    (∀ ws, op = 0 ∨ (op = 1 ∧ sharerOf h = none) → u.memWhy k line n = none → clean ws →
      Does c s fun t => u.dataSent t h (lines ws) false) ∧
    (∀ ws i, op = 1 → sharerOf h = some i → u.memWhy k line n = none → clean ws → n = 1 →
      ((u.home k).dir.all (fun d => d.line ≠ line) = true → (u.home k).dir.length < 256 → Does c s fun t =>
        ∃ v : State, v.dataSent t h (lines ws) true ∧ (v.home k).dir = (u.home k).dir ++ [⟨line, 2 ^ i⟩] ∧
          v = { u with mesh := { u.mesh with homes := v.mesh.homes } }) ∧
      ((u.home k).dir.all (fun d => d.line ≠ line) = true → 256 ≤ (u.home k).dir.length → Does c s fun t =>
        ∃ v : State, v.dataSent t h (lines ws) false ∧ v.body = u.body ∧
          v.rd Pg.network Net.DIR_FULL_CNT = satAdd 16 (u.rd Pg.network Net.DIR_FULL_CNT) 1 % 2 ^ 16) ∧
      (∀ m, (u.home k).dir = [⟨line, m⟩] → Does c s fun t => ∃ v : State, v.dataSent t h (lines ws) true ∧
        (v.home k).dir = [⟨line, m ||| 2 ^ i⟩] ∧ v = { u with mesh := { u.mesh with homes := v.mesh.homes } })) ∧
    (∀ i m, op = 2 → sharerOf h = some i → n = 1 → (u.home k).dir = [⟨line, m⟩] → Does c s fun t =>
      ∃ v : State, v.responds t h 2 0 ∧ v = { u with mesh := { u.mesh with homes := v.mesh.homes } } ∧
        (v.home k).dir = if m - bitOf m i * 2 ^ i = 0 then [] else [⟨line, m - bitOf m i * 2 ^ i⟩]) ∧
    (op = 2 → sharerOf h = none → Does c s fun t => u.responds t h 2 0)) ∧
  (∀ (c : Instr) (op n e : Nat) (p q : Packet) (s u : State), packetOf c = some (op, p) → s.lands u op p q →
    p.net = Nw.req → unitAt (destOf p.h) = some (.engine n) → u.endpointWhy (destOf p.h) = none →
    u.hostEngine n = some e →
    let h := p.h
    let a := Hd.reqAddr h / 64 * 64
    let m := Hd.reqLen h
    (op = 2 → Does c s fun t => u.responds t h 2 0) ∧
    (op < 2 → 0x40000 < a + 64 * m → Does c s fun t => u.responds t h 1 2) ∧
    (∀ ds : List Nat, op < 2 → a + 64 * m ≤ 0x40000 → ds.length = 16 * m →
      (∀ j, j < 16 * m → ∃ z, laneDecode (mget 0 u.dm (dmKey e ((a + 4 * j) / 128) ((a + 4 * j) % 128 / 4))) =
        (.clean, ds.getD j 0, z)) → Does c s fun t => u.dataSent t h ((List.range m).map fun x => flitOf ((List.range 8).map
          fun j => (fieldOf 31 (signedOf 18 (ds.getD (16 * x + 2 * j) 0)) +
            fieldOf 31 (signedOf 18 (ds.getD (16 * x + 2 * j + 1) 0)) * 2 ^ 32, false))) false)) ∧
  (∀ (vc : Fin 4) (hd : BitVec 512) (fs : List DataFlit) (w : Unit') (p q : Packet) (s u : State),
    p = ⟨Nw.dat, vc, hd.toNat, flitsOf fs⟩ → s.lands u 0 p q → unitAt (destOf p.h) = some w →
    u.endpointWhy (destOf p.h) = none → goodFlits p.flits →
    let h := p.h
    let a := Hd.addr h
    let value (j : Nat) := bitsOf ((p.flits.map Flit.d).getD (j / 8) 0) (64 * (j % 8)) 64
    let bad (j : Nat) := (p.flits.map Flit.poison).getD (j / 8) false
    let on (j : Nat) := j < 8 * p.flits.length ∧ bitOf (Hd.wmask h) j = 1
    (∀ n e, w = .engine n → u.hostEngine n = some e →
      (a % 64 ≠ 0 → Does (.netWrite vc hd fs) s fun t => u.responds t h 0 1) ∧
      (a % 64 = 0 → 0x40000 < a + 64 * p.flits.length → Does (.netWrite vc hd fs) s fun t => u.responds t h 0 2) ∧
      (a % 64 = 0 → a + 64 * p.flits.length ≤ 0x40000 → Does (.netWrite vc hd fs) s fun t =>
        ({ u with dm := t.dm } : State).responds t h 0 0 ∧
        (∀ j b, on j → b < 2 → mget 0 t.dm (dmKey e ((a + 8 * j) / 128) ((a + 8 * j) % 128 / 4 + b)) =
          if bad j = true ∨ bitOf (value j) (32 * b + 31) = 1 then lanePoison
            else laneEncode (bitsOf (value j) (32 * b) 18)) ∧
        ∀ x, (∀ j b, on j → b < 2 → x ≠ dmKey e ((a + 8 * j) / 128) ((a + 8 * j) % 128 / 4 + b)) →
          mget 0 t.dm x = mget 0 u.dm x)) ∧
    (∀ k, memKey w = some k →
      (∀ code, u.memWhy k (a / 64) p.flits.length = some code → Does (.netWrite vc hd fs) s fun t =>
        ∃ v : State, v.responds t h 0 (if code = 2 ∧ a % 64 ≠ 0 then 1 else code) ∧ v.body = u.body) ∧
      (u.memWhy k (a / 64) p.flits.length = none → a % 64 ≠ 0 → Does (.netWrite vc hd fs) s fun t =>
        ∃ v : State, v.responds t h 0 1 ∧ v.body = u.body) ∧
      (u.memWhy k (a / 64) p.flits.length = none → a % 64 = 0 → Does (.netWrite vc hd fs) s fun t =>
        (∀ j, on j → t.word k (a / 8 + j) = if bad j then poisonWord else cleanWord (value j)) ∧
        (∀ x, (∀ j, on j → x ≠ a / 8 + j) → t.word k x = u.word k x) ∧
        ((u.home k).dir = [] → ({ u with rb := t.rb, ddr := t.ddr } : State).responds t h 0 0) ∧
        (∀ m r, p.flits.length = 1 → Hd.wmask h % 2 ^ 8 ≠ 0 → (u.home k).dir = [⟨a / 64, m⟩] → sharersOf m = [r] →
          let inv : Packet := ⟨Nw.snp, 1, headerOf 0 (regionPlace r 1) (homePlace k) 0 + a / 64 * 2 ^ 28, []⟩
          (t.home k).dir = [] ∧ (t.home k).waits = (u.home k).waits ++ [⟨[(a / 64, r)],
            ⟨Nw.rsp, 1, headerOf 0 (sourceOf h) (destOf h) (Hd.tag h), []⟩⟩] ∧
          (u.injectWhy inv = .sent → u.offers t (u.onFlow inv) (sourceOf inv.h)))))) ∧
  (∀ (vc : Fin 4) (hd : BitVec 128) (k : Nat) (w : Unit') (ws : List Nat) (q : Packet) (s u : State),
    let h := hd.toNat
    let p : Packet := ⟨Nw.req, vc, h, []⟩
    let line := Hd.reqAddr h / 64
    let n := Hd.reqLen h
    let lines := (List.range n).map fun j => flitOf (((ws.drop (8 * j)).take 8).map fun x => (x, false))
    unitAt (destOf h) = some w → memKey w = some k → u.memWhy k line n = none → ws.length = 8 * n →
    (∀ j, j < 8 * n → wordDecode (u.word k (8 * line + j)) = (.clean, ws.getD j 0)) →
    (s.lands u 0 p q → Does (.netRead vc hd) s fun t => u.dataSent t h lines false) ∧
    (∀ i, s.lands u 1 p q → sharerOf h = some i → n = 1 → (u.home k).dir = [] → Does (.netReadShared vc hd) s fun t =>
      ∃ v : State, v.dataSent t h lines true ∧ (v.home k).dir = [⟨line, 2 ^ i⟩] ∧
        v = { u with mesh := { u.mesh with homes := v.mesh.homes } }) ∧
    (∀ i m, s.lands u 2 p q → sharerOf h = some i → n = 1 → (u.home k).dir = [⟨line, m⟩] → bitOf m i = 1 → m ≠ 2 ^ i →
      Does (.netRelease vc hd) s fun t => ∃ v : State, v.responds t h 2 0 ∧ (v.home k).dir = [⟨line, m - 2 ^ i⟩] ∧
        v = { u with mesh := { u.mesh with homes := v.mesh.homes } }))

/-- Answers, events, snoops, links, NET ports and routers (R276, R354, R366 to R374, R376 to R384, R398, R510, R511). An
answer that its NET port still awaits is delivered; one that timed out is dropped; one of EP 6 completes a user access. An
EVENT joins its ring, its half or the host ring of its region, or is discarded. The last INV_ACK, or SNP_TMO, releases the
WRITE_DONE. A replay is counted, and a link with more than 16 in a millisecond is tested; a failed wire takes a spare of its
group, or is recorded DEAD. A slot is written in the bank that is not active, and the banks change places at a quiet point
after the commit; a commit beside one that waits does nothing (R14). A flit of the fabric needs a credit; a whole packet is sent or refused with its pulse.
On a network-clock edge a packet of one flit that is alone leaves its router by the output its route takes, east or west
before north or south, once it came two edges ago, no replay keeps the link, and the next router or the endpoint has room;
with the tables in force and VC 0 only in a slot that names its input, and where that slot finds no room the flit is late;
else it stays. Of several leading flits an output sends the one its slot names, else the best-effort flit whose turn it is;
no input buffer takes a fifth flit. -/
def Obligations.answersAndLinks : Prop :=
  (∀ (c : Instr) (op i : Nat) (p q : Packet) (s u : State), packetOf c = some (op, p) → s.lands u op p q →
    p.net = Nw.rsp ∨ (p.net = Nw.dat ∧ op = 1) → u.portAt (destOf p.h) = some i → goodFlits p.flits →
    let tag := Hd.tag p.h
    let fs := if p.net = Nw.dat then datFlits q (p.flits.map flitWords) else oneFlit q
    (tag ∈ (u.np i).late → Does c s fun t => t.np i = { u.np i with late := (u.np i).late.erase tag } ∧
      t = { u with mesh := { u.mesh with ports := t.mesh.ports } }) ∧
    (tag ∉ (u.np i).late → Does c s fun t =>
      t.np i = portShow { u.np i with asked := (u.np i).asked.erase tag } fs ∧ t.mesh.flight = u.mesh.flight ∧
      t.body = ({ u with mesh := t.mesh } : State).body)) ∧
  (∀ (c : Instr) (op : Nat) (p q : Packet) (s u : State), packetOf c = some (op, p) → s.lands u op p q →
    unitAt (destOf p.h) = some .pcie → goodFlits p.flits →
    let tag := Hd.tag p.h
    let reqs := u.usr.reqs.filter fun r => r.tag ≠ tag
    (∀ r, u.usr.reqs.find? (fun r => r.tag = tag) = some r →
      (p.net = Nw.dat → op = 1 → r.wr = false → (p.flits.all fun f => !f.poison) = true → Does c s fun t =>
        t = { u with usr := { u.usr with
          reqs := reqs, done := some ⟨r.region, tag, true, p.flits.flatMap fun f => (flitWords f).1.map fun w => (w, false)⟩ } }) ∧
      (p.net = Nw.rsp → op = 0 → Hd.code p.h = 0 → Does c s fun t => t = { u with usr := { u.usr with
        reqs := reqs, done := some ⟨r.region, tag, true, []⟩ } }) ∧
      (p.net = Nw.rsp → op = 1 ∨ (op = 0 ∧ Hd.code p.h ≠ 0) → Does c s fun t =>
        t.usr = { u.usr with reqs := reqs, done := some ⟨r.region, tag, false, []⟩ } ∧
        (r.wr = true → t.logQ = u.logQ) ∧ (r.wr = false → t.flag Pg.pcie (irqBit 21) = true ∧
          t.peRd Pcie.USER_ABORT_CNT = satAdd 16 (u.peRd Pcie.USER_ABORT_CNT) 1 % 2 ^ 16 ∧
          u.enters t Pg.pcie 0x24 Sev.info Ag.hlp ((r.region + Hd.code p.h * 2 ^ 6) % 2 ^ 32)))) ∧
    (u.usr.reqs.find? (fun r => r.tag = tag) = none → p.net = Nw.rsp ∨ (p.net = Nw.dat ∧ op = 1) →
      Does c s fun t => t = u)) ∧
  (∀ (c : Instr) (op : Nat) (p q : Packet) (s u : State), packetOf c = some (op, p) → s.lands u op p q →
    u.portAt (destOf p.h) = none →
    (unitAt (destOf p.h) ≠ some .pcie →
      (p.net = Nw.rsp → Does c s fun t => t = u) ∧
      (p.net = Nw.dat → op = 1 → Does c s fun t => t.body = u.body ∧
        t.rd Pg.network Net.DISCARD_CNT = satAdd 16 (u.rd Pg.network Net.DISCARD_CNT) 1 % 2 ^ 16)) ∧
    (p.net = Nw.snp → op = 0 → Does c s fun t => t.body = u.body ∧
      t.rd Pg.network Net.DISCARD_CNT = satAdd 16 (u.rd Pg.network Net.DISCARD_CNT) 1 % 2 ^ 16) ∧
    (∀ k i done, p.net = Nw.snp → op = 1 → (unitAt (destOf p.h)).bind memKey = some k →
      regionAt (Hd.sx p.h) (Hd.sy p.h) = some i → (u.home k).waits = [⟨[(Hd.line p.h, i)], done⟩] →
      Does c s fun t => ∃ v : State, v.sends t done ∧ (v.home k).waits = [] ∧ (v.home k).dir = (u.home k).dir ∧
        v = { u with mesh := { u.mesh with homes := v.mesh.homes } }) ∧
    (∀ k i left done, p.net = Nw.snp → op = 1 → (unitAt (destOf p.h)).bind memKey = some k →
      regionAt (Hd.sx p.h) (Hd.sy p.h) = some i → (u.home k).waits = [⟨left, done⟩] → left.erase (Hd.line p.h, i) ≠ [] →
      Does c s fun t => (t.home k).waits = [⟨left.erase (Hd.line p.h, i), done⟩] ∧
        t = { u with mesh := { u.mesh with homes := t.mesh.homes } })) ∧
  (∀ (vc : Fin 2) (h : BitVec 64) (i : Nat) (q : Packet) (s u : State), u.portAt (destOf h.toNat) = some i →
    let tag := Hd.tag h.toNat
    let answered (t : State) : Prop := t.np i = portShow { u.np i with asked := (u.np i).asked.erase tag } (oneFlit q)
    (s.lands u 0 ⟨Nw.snp, vc, h.toNat, []⟩ q → Does (.inv vc h) s fun t => u.delivers t i (oneFlit q)) ∧
    (s.lands u 1 ⟨Nw.snp, vc, h.toNat, []⟩ q → Does (.invAck vc h) s fun t => u.delivers t i (oneFlit q)) ∧
    (tag ∉ (u.np i).late →
      (s.lands u 0 ⟨Nw.rsp, vc, h.toNat, []⟩ q → Does (.writeDone vc h) s answered) ∧
      (s.lands u 1 ⟨Nw.rsp, vc, h.toNat, []⟩ q → Does (.readFail vc h) s answered) ∧
      (s.lands u 2 ⟨Nw.rsp, vc, h.toNat, []⟩ q → Does (.releaseDone vc h) s answered))) ∧
  (∀ (vc : Fin 4) (hd : BitVec 512) (fs : List DataFlit) (i : Nat) (q : Packet) (s u : State),
    let p : Packet := ⟨Nw.dat, vc, hd.toNat, flitsOf fs⟩
    s.lands u 1 p q → u.portAt (destOf p.h) = some i → goodFlits p.flits → Hd.tag p.h ∉ (u.np i).late →
    Does (.netReadData vc hd fs) s fun t => t.np i =
      portShow { u.np i with asked := (u.np i).asked.erase (Hd.tag p.h) } (datFlits q (p.flits.map flitWords))) ∧
  (∀ (vc : Fin 4) (hd : BitVec 512) (fs : List DataFlit) (w : Option Unit') (p q : Packet) (s u : State),
    p = ⟨Nw.dat, vc, hd.toNat, flitsOf fs⟩ → s.lands u 2 p q → unitAt (destOf p.h) = w → goodFlits p.flits →
    let a := Hd.addr p.h
    let ws := p.flits.flatMap fun f => (flitWords f).1.map fun x => (x, f.poison)
    let ring := bitsOf a 6 2
    let half := bitOf a 6
    let gone (t : State) : Prop := t.body = u.body ∧
      t.rd Pg.network Net.DISCARD_CNT = satAdd 16 (u.rd Pg.network Net.DISCARD_CNT) 1 % 2 ^ 16
    let late (t : State) (room : Bool) : Prop :=
      (q.vc = 0 → u.rd Pg.network Net.GT_EN = 1 → room = false → t.flag Pg.network (irqBit 18) = true ∧
        t.rd Pg.network Net.GT_LATE_CNT = satAdd 16 (u.rd Pg.network Net.GT_LATE_CNT) 1 % 2 ^ 16) ∧
      (q.vc ≠ 0 ∨ room = true → t.regs = u.regs ∧ t.logQ = u.logQ)
    (w = none ∨ (∃ n, w = some (.engine n) ∨ w = some (.packer n)) ∨
        (u.endpointWhy (destOf p.h) ≠ none ∧ ∀ x, w = some x → memKey x = none) ∨
        (∃ ch, w = some (.ddr ch) ∧ u.blk (En.ddr ch) = St.retired) →
      Does (.netEvent vc hd fs) s gone) ∧
    (∀ i, w = some (.port i) → u.endpointWhy (destOf p.h) = none → Does (.netEvent vc hd fs) s fun t =>
      u.delivers t i (datFlits q (p.flits.map flitWords))) ∧
    (∀ i, w = some (.slab i) → Does (.netEvent vc hd fs) s fun t => t.body = u.body ∧
      t.rd (Pg.slab i) Slab.NET_REF_CNT = satAdd 16 (u.rd (Pg.slab i) Slab.NET_REF_CNT) 1 % 2 ^ 16) ∧
    (∀ ch, w = some (.ddr ch) → u.blk (En.ddr ch) ≠ St.retired →
      (u.ddrRd ch Ddr.EVR_EN ring = 1 → u.trained ch = true →
        u.ddrRd ch Ddr.EVR_TMO ≠ 0 ∨ u.ringRoom ch ring (ceilDiv ws.length 8) = true → Does (.netEvent vc hd fs) s fun t =>
          t.ringWaiting ch ring = u.ringWaiting ch ring ++ [ws] ∧ late t (u.ringRoom ch ring (ceilDiv ws.length 8)) ∧
          t.body = ({ u with chns := t.chns } : State).body) ∧
      (u.ddrRd ch Ddr.EVR_EN ring = 0 ∨ u.trained ch = false → Does (.netEvent vc hd fs) s fun t =>
        t.chns = u.chns ∧ t.ddrRd ch Ddr.EV_DISCARD = 1 ∧
        t.ddrRd ch Ddr.EVR_DISC_CNT = satAdd 16 (u.ddrRd ch Ddr.EVR_DISC_CNT) 1 % 2 ^ 16)) ∧
    (∀ g, w = some (.tx g) → u.endpointWhy (destOf p.h) = none →
      let es := if Hd.sep p.h = 2 then eventWords ws else ws
      (u.txRd g Tx.H_SRC half = 0 ∨ u.txRd g Tx.H_EN half = 0 → Does (.netEvent vc hd fs) s fun t => t.body = u.body ∧
        t.txRd g Tx.NET_DISC_CNT = satAdd 16 (u.txRd g Tx.NET_DISC_CNT) 1 % 2 ^ 16 ∧
        u.enters t (Pg.tx g) 0x24 Sev.info Ag.hlp half) ∧
      (u.txRd g Tx.H_SRC half = 1 → u.txRd g Tx.H_EN half = 1 → u.isOn (En.tx g) = true →
        (halfOf (u.txg g) half).fifo = [] → (halfOf (u.txg g) half).wait = [] → es.length ≤ 210 →
        Does (.netEvent vc hd fs) s fun t => (halfOf (t.txg g) half).wait = [] ∧
          (halfOf (t.txg g) half).fifo = (eventCells es.length es).zipIdx.map (fun (x : (Nat × Bool × Bool) × Nat) =>
            ⟨(halfOf (u.txg g) half).next + x.2, x.1.1, decide (x.2 = 0), x.1.2.2, u.bucket % 256, u.time64⟩))) ∧
    (w = some .pcie → u.endpointWhy (destOf p.h) = none →
      let i := (regionAt (Hd.sx p.h) (Hd.sy p.h)).getD 0
      let es := if Hd.sep p.h = 2 then eventWords ws else ws
      let r := u.ringSel i
      (u.linkTakes = false ∨ u.peRd Pcie.R_EN r = 0 → Does (.netEvent vc hd fs) s fun t => t.body = u.body ∧
        t.peRd Pcie.LINK_DISC_CNT = satAdd 16 (u.peRd Pcie.LINK_DISC_CNT) 1 % 2 ^ 16) ∧
      (u.linkTakes = true → u.peRd Pcie.R_EN r = 1 →
        u.peRd Pcie.RING_TMO ≠ 0 ∨ u.hostRoom r (8 * es.length) = true → Does (.netEvent vc hd fs) s fun t =>
          t.hostRing r = u.hostRing r ++ [es] ∧ late t (u.hostRoom r (8 * es.length)) ∧
          t.body = ({ u with usr := t.usr } : State).body))) ∧
  (∀ (m : SharedHome) (line : Nat) (left : List (Nat × Nat)) (done : Packet) (s : State),
    let k := homeKey m
    let place := homePlace k
    ((s.home k).waits = [⟨left, done⟩] → (∃ r, (line, r) ∈ left) → s.rd Pg.network Net.SNP_TMO ≠ 0 →
      Does (.snpTimeout m line) s fun t => (t.home k).waits = [] ∧ t.flag Pg.network (irqBit 19) = true ∧
        t.rd Pg.network Net.SNP_TMO_CNT = satAdd 16 (s.rd Pg.network Net.SNP_TMO_CNT) 1 % 2 ^ 16 ∧
        (s.injectWhy done = .sent → s.offers t (s.onFlow done) (sourceOf done.h)) ∧
        s.enters t Pg.network 0x24 Sev.info Ag.hlp (place.x + place.y * 2 ^ 4 + place.ep * 2 ^ 7)) ∧
    ((∀ w ∈ (s.home k).waits, ∀ l ∈ w.left, l.1 ≠ line) ∨ s.rd Pg.network Net.SNP_TMO = 0 →
      Does (.snpTimeout m line) s fun t => t = s)) ∧
  (∀ (x : Fin 12) (y : Fin 8) (out : Fin 5) (net : Fin 4) (s : State),
    let l := x.val + y.val * 2 ^ 4 + out.val * 2 ^ 7 + net.val * 2 ^ 10
    let ts := (s.us :: mget [] s.mesh.replays l).take 17
    (s.netRuns = false → Does (.hopErr x y out net) s fun t => t = s) ∧
    (s.netRuns = true → Does (.hopErr x y out net) s fun t =>
      t.rd Pg.network Net.HOP_ERR_CNT = satAdd 16 (s.rd Pg.network Net.HOP_ERR_CNT) 1 % 2 ^ 16 ∧
      t.rd Pg.network Net.RETRY_CNT = satAdd 16 (s.rd Pg.network Net.RETRY_CNT) 1 % 2 ^ 16 ∧
      t.rd Pg.network Net.ERR_X = x ∧ t.rd Pg.network Net.ERR_Y = y ∧ t.rd Pg.network Net.ERR_PORT = out ∧
      t.rd Pg.network Net.ERR_NET = net ∧ t.flag Pg.network (irqBit 16) = true ∧
      (mget none s.lastLogs ((Pg.network * 256 + 0x20) * 2 ^ 16 + l) ≠ some s.time64 →
        s.enters t Pg.network 0x20 Sev.corrected Ag.hlp l) ∧
      mget [] t.mesh.replays l = ts ∧ mget 0 t.mesh.busy l = s.mesh.edge + 6 ∧ t.mesh.flight = s.mesh.flight ∧
      (ts.length = 17 → s.us < ts.getLastD 0 + 1000 → l ∈ t.mesh.tests) ∧
      (ts.length < 17 ∨ ts.getLastD 0 + 1000 ≤ s.us → t.mesh.tests = s.mesh.tests)) ∧
    (∀ w, l ∉ s.mesh.tests → Does (.linkTest x y out net w) s fun t => t = s) ∧
    (l ∈ s.mesh.tests → Does (.linkTest x y out net none) s fun t => t.mesh.tests = s.mesh.tests.erase l ∧
      mget [] t.mesh.replays l = [] ∧ t = { s with mesh := t.mesh }) ∧
    (∀ w : BitVec 10, l ∈ s.mesh.tests →
      let place := l + w.toNat * 2 ^ 12
      let used := (s.repairs.filter fun r => r.entry = En.network && r.kind = 6 && r.place % 2 ^ 12 = l &&
        r.place / 2 ^ 12 / 64 = w.toNat / 64 && r.spare ≠ 0xFFFF).length
      (used < 2 → Does (.linkTest x y out net (some w)) s fun t =>
        t.repairs = s.repairs ++ [⟨En.network, 6, false, false, used, place⟩] ∧
        t.rd Pg.network Net.SPARES_FREE = (s.rd Pg.network Net.SPARES_FREE - 1) % 2 ^ 16 ∧
        t.flag Pg.network (irqBit 20) = true ∧ s.enters t Pg.network 0x25 Sev.corrected Ag.hlp place) ∧
      (2 ≤ used → Does (.linkTest x y out net (some w)) s fun t =>
        t.repairs = s.repairs ++ [⟨En.network, 6, false, true, 0xFFFF, place⟩] ∧ t.flag Pg.network (irqBit 21) = true ∧
        t.rd Pg.network Net.DEAD_WIRES = satAdd 16 (s.rd Pg.network Net.DEAD_WIRES) 1 % 2 ^ 16 ∧
        s.enters t Pg.network 0x26 Sev.degraded Ag.hlp place ∧
        (s.blk En.network = St.usable ∨ s.blk En.network = St.inUse → t.blk En.network = St.degraded)))) ∧
  (∀ (ag : Agent) (b : Fin 2) (x : Fin 12) (y : Fin 8) (n : Fin 4) (o : Fin 5) (k : Fin 64) (off : BitVec 19)
    (v : BitVec 16) (s : State), s.grants ag Pg.network →
    off.toNat = 0x40000 * b.val + 2 * (64 * (5 * (4 * (12 * y.val + x.val) + n.val) + o.val) + k.val) →
    (b.val ≠ s.rd Pg.network Net.ACT_TBL → Does (.slotWindowWrite ag off v) s fun t =>
      (∀ j, mget 0 t.mesh.slots j = if j = slotKey b x y n o k then v.toNat % 256 else mget 0 s.mesh.slots j) ∧
      t = { s.served with mesh := { s.mesh with slots := t.mesh.slots } }) ∧
    (b.val = s.rd Pg.network Net.ACT_TBL → Does (.slotWindowWrite ag off v) s fun t =>
      t.flag Pg.network Hdr.WRITE_IGNORED = true ∧ t.body = s.body ∧ t.logQ = s.logQ ∧
      s.onlyFields t [(Pg.network, Hdr.WRITE_IGNORED, 0)])) ∧
  (∀ (ag : Agent) (s : State), s.grants ag Pg.network →
    (s.flag Pg.network Net.TBL_PEND = false → Does (.tblCommit ag) s fun t =>
      t.rd Pg.network Net.TBL_PEND = 1 ∧ t.mesh = { s.mesh with commitAt := s.time64 } ∧ t.logQ = s.logQ ∧
      s.onlyFields t [(Pg.network, Net.TBL_PEND, 0)]) ∧
    (s.flag Pg.network Net.TBL_PEND = true → Does (.tblCommit ag) s fun t =>
      t.flag Pg.network Hdr.WRITE_IGNORED = true ∧ t.body = s.body ∧ t.logQ = s.logQ ∧
      s.onlyFields t [(Pg.network, Hdr.WRITE_IGNORED, 0)])) ∧
  (∀ s : State,
    let may := s.rd Pg.network Net.TBL_PEND = 1 ∧ s.quietPoint = true ∧ s.mesh.commitAt < s.time64 ∧ s.netRuns = true
    (may → Does .slotTableSwitch s fun t => t.rd Pg.network Net.ACT_TBL = (1 - s.rd Pg.network Net.ACT_TBL) % 2 ∧
      t.rd Pg.network Net.TBL_PEND = 0 ∧ t.rd Pg.network Net.TBL_DONE = 1 ∧ t.flag Pg.network (irqBit 22) = true ∧
      t.body = s.body ∧ s.enters t Pg.network 0x28 Sev.info Ag.hlp (1 - s.rd Pg.network Net.ACT_TBL)) ∧
    (¬ may → Does .slotTableSwitch s fun t => t = s)) ∧
  (∀ (r : Fin 40) (net vc : Fin 4) (hd tl po : Bool) (flit : BitVec 512) (s : State),
    let ch := if net.val = Nw.rsp ∨ net.val = Nw.snp then vc.val % 2 else vc.val
    let k := 4 * net.val + ch
    let takes := s.regionRuns r = true ∧ s.netPort r = true ∧ s.netRuns = true
    let f : PortFlit := ⟨net, ch, hd, tl, po, flit.toNat % 2 ^ flitWidth net⟩
    let open_ := mget [] (s.np r).parts ch
    let spent (t : State) : Prop := mget 0 (t.np r).sent k = mget 0 (s.np r).sent k + 1
    let u := s.setNp r { s.np r with sent := mset 0 (s.np r).sent k (mget 0 (s.np r).sent k + 1) }
    (¬ takes → Does (.netPortFlit r net vc hd tl po flit) s fun t => t = s) ∧
    (takes → 4 ≤ mget 0 (s.np r).sent k → Does (.netPortFlit r net vc hd tl po flit) s fun t =>
      t.np r = { s.np r with pulse := some .refused } ∧ t.mesh.flight = s.mesh.flight ∧
      s.enters t Pg.network 0x29 Sev.info Ag.hlp (r.val + net.val * 2 ^ 6)) ∧
    (takes → mget 0 (s.np r).sent k < 4 →
      (net.val ≠ Nw.dat → Does (.netPortFlit r net vc hd tl po flit) s fun t => spent t ∧
        u.portSends t r ⟨net, ch, f.flit, []⟩) ∧
      (net.val = Nw.dat → tl = false → (hd = true ∨ ∃ x xs, open_ = x :: xs ∧ x.head = true) →
        Does (.netPortFlit r net vc hd tl po flit) s fun t => spent t ∧ t.mesh.flight = s.mesh.flight ∧
          mget [] (t.np r).parts ch = if hd then [f] else open_ ++ [f]) ∧
      (net.val = Nw.dat → tl = true → hd = true → Does (.netPortFlit r net vc hd tl po flit) s fun t => spent t ∧
        mget [] (t.np r).parts ch = [] ∧ u.portSends t r ⟨Nw.dat, ch, f.flit, []⟩) ∧
      (net.val = Nw.dat → hd = false → open_ = [] → Does (.netPortFlit r net vc hd tl po flit) s fun t => t = u) ∧
      (∀ x xs, net.val = Nw.dat → tl = true → hd = false → open_ = x :: xs → x.head = true →
        Does (.netPortFlit r net vc hd tl po flit) s fun t => spent t ∧ mget [] (t.np r).parts ch = [] ∧
          u.portSends t r ⟨Nw.dat, ch, x.flit, (xs ++ [f]).map fun g => { flitOf ((List.range 8).map fun j =>
            (bitsOf g.flit (64 * j) 64, g.poison)) with poison := g.poison }⟩))) ∧
  (∀ (r : Fin 40) (net vc : Fin 4) (s : State),
    let k := 4 * net.val + vc.val
    (Does (.netCreditReturn r net vc true) s fun t => mget 0 (t.np r).sent k = mget 0 (s.np r).sent k - 1 ∧
      t.np r = { s.np r with sent := (t.np r).sent } ∧ t = { s with mesh := { s.mesh with ports := t.mesh.ports } }) ∧
    (Does (.netCreditReturn r net vc false) s fun t =>
      t.np r = portShow { s.np r with used := mset 0 (s.np r).used k (mget 0 (s.np r).used k - 1), waiting := [] }
        (s.np r).waiting ∧ t = { s with mesh := { s.mesh with ports := t.mesh.ports } })) ∧
  (∀ (r : Fin 40) (tag : BitVec 8) (s : State),
    (s.rd Pg.network Net.REQ_TMO ≠ 0 → tag.toNat ∈ (s.np r).asked → Does (.reqTimeout r tag) s fun t =>
      t.np r = { s.np r with asked := (s.np r).asked.erase tag.toNat, late := (s.np r).late ++ [tag.toNat],
                             pulse := some (.tmo tag.toNat) } ∧
      t = { s with mesh := { s.mesh with ports := t.mesh.ports } }) ∧
    (s.rd Pg.network Net.REQ_TMO = 0 ∨ tag.toNat ∉ (s.np r).asked → Does (.reqTimeout r tag) s fun t => t = s)) ∧
  (∀ (w : Worm) (x : Spot) (s : State), s.mesh.flight = [w] → w.spots = [x] → x.pos ≤ w.links → s.netRuns = true →
    let l : Lead := ⟨w, 0, x⟩
    let gt := s.flag Pg.network Net.GT_EN
    let room := if x.pos = w.links then s.endpointRoom w.p else true
    let may := x.came + 2 ≤ s.mesh.edge ∧ mget 0 s.mesh.busy l.outputKey ≤ s.mesh.edge ∧ room = true ∧
      (gt = true → w.p.vc = 0 → s.slotNames l = true)
    (may → x.pos < w.links → s.netEdge.mesh.flight = [{ w with spots := [⟨x.pos + 1, s.mesh.edge⟩] }] ∧
      s.netEdge.mesh.edge = s.mesh.edge + 1 ∧ s.netEdge.logQ = s.logQ) ∧
    (may → x.pos = w.links → ∃ u : State, s.netEdge = u.arrives w.p ∧ u.mesh.flight = [] ∧ u = { s with mesh := u.mesh }) ∧
    (¬ may → s.netEdge.mesh.flight = [w] ∧ s.netEdge.mesh.ports = s.mesh.ports) ∧
    (gt = true → w.p.vc = 0 → s.slotNames l = true → x.came + 2 ≤ s.mesh.edge →
      s.mesh.edge < mget 0 s.mesh.busy l.outputKey ∨ room = false →
      s.netEdge.rd Pg.network Net.GT_LATE_CNT = satAdd 16 (s.rd Pg.network Net.GT_LATE_CNT) 1 % 2 ^ 16 ∧
      s.netEdge.flag Pg.network (irqBit 18) = true)) ∧
  (∀ (w : Worm) (j : Nat), w.src.x < 12 → Hd.dx w.p.h < 12 → w.src.y < 8 → j ≤ w.links →
    let x := (w.router j).1
    let y := (w.router j).2
    (x < Hd.dx w.p.h → w.output j = 1 ∧ w.router (j + 1) = (x + 1, y)) ∧
    (Hd.dx w.p.h < x → w.output j = 3 ∧ w.router (j + 1) = (x - 1, y)) ∧
    (x = Hd.dx w.p.h → y < Hd.dy w.p.h → w.output j = 0 ∧ w.router (j + 1) = (x, y + 1)) ∧
    (x = Hd.dx w.p.h → Hd.dy w.p.h < y → w.output j = 2 ∧ w.router (j + 1) = (x, y - 1)) ∧
    (x = Hd.dx w.p.h → y = Hd.dy w.p.h → w.output j = 4 ∧ j = w.links) ∧
    w.router 0 = (w.src.x, w.src.y) ∧ w.router w.links = (Hd.dx w.p.h, Hd.dy w.p.h)) ∧
  (∀ (ls : List Lead) (l : Lead) (s : State), s.choose ls = some l →
    l ∈ ls ∧ (s.flag Pg.network Net.GT_EN = true →
      (∀ k ∈ ls, k.vc = 0 → s.slotNames k = true → l.vc = 0 ∧ s.slotNames l = true) ∧
      (l.vc = 0 → s.slotNames l = true)) ∧
    ((∀ k ∈ ls, s.flag Pg.network Net.GT_EN = true → k.vc = 0 → s.slotNames k = false) →
      ∀ k ∈ ls, s.flag Pg.network Net.GT_EN = false ∨ k.vc ≠ 0 → s.mesh.rank l ≤ s.mesh.rank k)) ∧
  (∀ (b : Nat × Nat × (Nat × Nat) × Nat) (s : State), (s.mesh.flight.map Worm.id).Nodup →
    (∀ c, s.mesh.occupied c ≤ 4) → s.moved.occupied b ≤ 4)

/-! ### Lanes (chapter 13) -/

/-- Transmitting (R391, R395 to R400, R411 to R414). A half takes its source unless another half has the port, which is
refused; enabling it starts its count of cells again. A cell offered while READY reads 1 joins the FIFO with the bucket of
its entry, another is dropped. A lane sends the next data cell queued for it, or an idle cell, scrambled and stuffed; a group
in electrical idle sends nothing. The park moves at a quiet point, to the lane asked for or, rolling, to the next; a
PARK_GO while a move waits is ignored (R14), as is one for a lane above 8 (log entry 44). -/
def Obligations.transmitting : Prop :=
  (∀ (ag : Agent) (g : Fin 12) (h : Fin 2) (v : Word) (s : State), s.grants ag (Pg.tx g) →
    let i := v.toNat / 4 % 64
    let port := (v.getLsb 8).toNat
    let taken := v.getLsb 0 = true ∧ v.getLsb 1 = false ∧ ∃ o, s.halfFor i port = some o ∧ o ≠ (g.val, h.val)
    (taken → Does (.halfSourceWrite ag g h v) s fun t => t.txRd g Tx.H_REFUSED h = 1 ∧
      t.flag (Pg.tx g) (irqBit 18) = true ∧ t.body = s.body ∧
      s.enters t (Pg.tx g) 0x22 Sev.info ag (h.val + i * 2 + port * 2 ^ 7) ∧
      s.onlyFields t ([(Pg.tx g, Tx.H_REFUSED, h.val), (Pg.tx g, irqBit 18, 0)] ++ logFields (Pg.tx g))) ∧
    (¬ taken → Does (.halfSourceWrite ag g h v) s fun t => t.txRd g Tx.H_EN h = (v.getLsb 0).toNat ∧
      t.txRd g Tx.H_SRC h = (v.getLsb 1).toNat ∧ t.txRd g Tx.H_REGION h = i ∧ t.txRd g Tx.H_PORT h = port ∧
      t.txRd g Tx.H_REFUSED h = (if v.getLsb 9 then 0 else s.txRd g Tx.H_REFUSED h) ∧ t.logQ = s.logQ ∧
      (v.getLsb 0 = true → s.txRd g Tx.H_EN h = 0 →
        (halfOf (t.txg g) h).next = (halfOf (s.txg g) h).fifo.length ∧
        (halfOf (t.txg g) h).fifo.map TxCell.pay = (halfOf (s.txg g) h).fifo.map TxCell.pay) ∧
      (v.getLsb 0 = false ∨ s.txRd g Tx.H_EN h = 1 → t.txs = s.txs) ∧
      t.body = ({ s with txs := t.txs } : State).body ∧ s.onlyPages t [Pg.tx g])) ∧
  (∀ (i : Fin 40) (port : Fin 2) (d : BitVec 512) (m po : Bool) (s : State),
    let takes := s.regionRuns i = true ∧ s.livePortAt i 2 port = true
    (¬ takes ∨ s.halfFor i port = none → Does (.txCellWrite i port d m po) s fun t => t = s) ∧
    (∀ g h, takes → s.halfFor i port = some (g, h) → s.txReady g h = true →
      Does (.txCellWrite i port d m po) s fun t =>
        halfOf (t.txg g) h = { halfOf (s.txg g) h with
          next := (halfOf (s.txg g) h).next + 1
          fifo := (halfOf (s.txg g) h).fifo ++
            [⟨(halfOf (s.txg g) h).next, bitsOf d.toNat 32 448, m, po, s.bucket % 256, s.time64⟩] } ∧
        t.logQ = s.logQ ∧ t.body = ({ s with txs := t.txs } : State).body ∧
        s.onlyFields t [(Pg.tx g, Tx.H_FILL, h)]) ∧
    (∀ g h, takes → s.halfFor i port = some (g, h) → s.txReady g h = false →
      Does (.txCellWrite i port d m po) s fun t => t.body = s.body ∧ t.flag (Pg.tx g) (irqBit 16) = true ∧
        t.txRd g Tx.TX_DROP_CNT = satAdd 16 (s.txRd g Tx.TX_DROP_CNT) 1 % 2 ^ 16)) ∧
  (∀ (g : Fin 12) (p : Fin 9) (s : State),
    (s.txIdle g = true → Does (.cellSend g p) s fun t => t.txg g = { s.txg g with quiet := true } ∧ t.regs = s.regs ∧
      t.logQ = s.logQ ∧ t.body = ({ s with txs := t.txs } : State).body) ∧
    (s.txIdle g = false → (s.txg g).old = none →
      let l := logicalAt (s.txRd g Tx.PARK) p
      let coded (c : Nat) := stuff (mget 0 (s.txg g).runs p)
        (List.zipWith (fun a b => a != b) (bitsList c 512) (scrambler p))
      let out (t : State) (c : Nat) : Prop := mget [] (t.txg g).line p = (coded c).1 ∧
        mget 0 (t.txg g).runs p = (coded c).2 ∧ t.logQ = s.logQ ∧ t.body = ({ s with txs := t.txs } : State).body
      (l = 8 → Does (.cellSend g p) s fun t => out t (cellOf 0 s.bucket true false false 8 0) ∧ t.regs = s.regs) ∧
      (l < 8 → (s.halfSends g (l / 4) = false ∨ laneCells (s.txg g) l = []) → Does (.cellSend g p) s fun t =>
        out t (cellOf (nextSeq (s.txg g) l) s.bucket true false false l 0) ∧ t.regs = s.regs ∧
        (t.txg g).halves = (s.txg g).halves) ∧
      (∀ c cs, l < 8 → s.halfSends g (l / 4) = true → laneCells (s.txg g) l = c :: cs →
        (halfOf (s.txg g) (l / 4)).wait = [] → Does (.cellSend g p) s fun t =>
          out t (cellOf (c.j / 4) c.btag false c.mark c.poison l c.pay) ∧
          (halfOf (t.txg g) (l / 4)).fifo = (halfOf (s.txg g) (l / 4)).fifo.filter (fun d => d.j ≠ c.j) ∧
          t.txRd g Tx.CELLS_LO + t.txRd g Tx.CELLS_HI * 2 ^ 32 =
            (s.txRd g Tx.CELLS_LO + s.txRd g Tx.CELLS_HI * 2 ^ 32 + 1) % 2 ^ 48 ∧
          s.onlyFields t [(Pg.tx g, Tx.H_FILL, l / 4), (Pg.tx g, Tx.CELLS_LO, 0), (Pg.tx g, Tx.CELLS_HI, 0)]))) ∧
  (∀ (g : Fin 12) (s : State),
    (s.txIdle g = true → Does (.txIdleEnd g) s fun t => t = s) ∧
    (s.txIdle g = false → Does (.txIdleEnd g) s fun t => t.txg g = { s.txg g with quiet := false } ∧
      (∀ j, j ≠ g.val → t.txg j = s.txg j) ∧ t = { s with txs := t.txs })) ∧
  (∀ (g : Fin 12) (s : State),
    let may := s.quietPoint = true ∧ s.isOn (En.tx g) = true
    let rolls := s.txRd g Tx.ROLL_EN = 1 ∧ s.txRd g Tx.PARK_FIX = 0 ∧
      max 1 (s.txRd g Tx.ROLL_TURNS) ≤ (s.txg g).turns
    let moved (t : State) (p : Nat) : Prop := t.txRd g Tx.PARK = p % 2 ^ 4 ∧ t.txRd g Tx.PARK_PEND = 0 ∧
      (t.txg g).turns = 0 ∧ (t.txg g).halves = (s.txg g).halves ∧ t.flag (Pg.tx g) (irqBit 17) = true ∧
      s.enters t (Pg.tx g) 0x21 Sev.info Ag.hlp ((p + s.txRd g Tx.PARK_FIX * 2 ^ 4) % 2 ^ 32) ∧
      t.body = ({ s with txs := t.txs } : State).body ∧
      s.onlyFields t ([(Pg.tx g, Tx.PARK, 0), (Pg.tx g, Tx.PARK_PEND, 0), (Pg.tx g, irqBit 17, 0)] ++ logFields (Pg.tx g))
    (may → s.txRd g Tx.PARK_PEND = 1 → s.txRd g Tx.PARK_NEXT ≤ 8 → Does (.parkMove g) s fun t =>
      moved t (s.txRd g Tx.PARK_NEXT)) ∧
    (may → s.txRd g Tx.PARK_PEND = 0 → rolls → Does (.parkMove g) s fun t =>
      moved t ((s.txRd g Tx.PARK + 1) % 9)) ∧
    (¬ may ∨ (s.txRd g Tx.PARK_PEND = 0 ∧ ¬ rolls) ∨ (s.txRd g Tx.PARK_PEND = 1 ∧ 8 < s.txRd g Tx.PARK_NEXT) → Does (.parkMove g) s fun t => t = s)) ∧
  (∀ (ag : Agent) (g : Fin 12) (n : BitVec 4) (s : State), s.grants ag (Pg.tx g) →
    (n.toNat ≤ 8 → s.txRd g Tx.PARK_PEND ≠ 1 → Does (.parkGo ag g n) s fun t => t.txRd g Tx.PARK_NEXT = n.toNat ∧
      t.txRd g Tx.PARK_PEND = 1 ∧ t.body = s.body ∧ t.logQ = s.logQ ∧
      s.onlyFields t [(Pg.tx g, Tx.PARK_NEXT, 0), (Pg.tx g, Tx.PARK_PEND, 0)]) ∧
    (8 < n.toNat ∨ s.txRd g Tx.PARK_PEND = 1 → Does (.parkGo ag g n) s fun t => t.txRd g Tx.PARK_NEXT = n.toNat ∧
      t.flag (Pg.tx g) Hdr.WRITE_IGNORED = true ∧ t.body = s.body ∧ t.logQ = s.logQ ∧
      s.onlyFields t [(Pg.tx g, Tx.PARK_NEXT, 0), (Pg.tx g, Hdr.WRITE_IGNORED, 0)]))

/-- Receiving (R389, R401 to R407, R414, R416). RATE_OK follows the check and the lanes follow it; a lane that gains phase
lock hunts. A cell that fails its CRC is counted and, the eighth in a row, ends the alignment; the eighth good cell in a row
begins it, and a good cell that is next in order is queued. At the release the cells tagged with the bucket go out in order,
as many as a port has edges for. A slot word that names no port of another half is stored, another is refused. A lane with
too many failures in a second is marked FAIL. An ALIGNED lane's adaptation owns its offset sampler. The eye-scan fields
take what is written; ES_GO starts a scan unless one runs (R14); it counts to its limit, in slices that fall in a lay-by or in
a turn without one unless ES_ANYTIME is 1, or stops where its lane is not ALIGNED. -/
def Obligations.receiving : Prop :=
  (∀ (g : Fin 12) (ok : Bool) (s : State),
    (s.isOn (En.rx g) = false → Does (.rateCheck g ok) s fun t => t = s) ∧
    (s.isOn (En.rx g) = true → Does (.rateCheck g ok) s fun t => t.rxRd g Rx.RATE_OK = bit ok ∧
      (s.rxRd g Rx.RATE_OK = 1 → ok = false → t.flag (Pg.rx g) (irqBit 23) = true ∧
        s.enters t (Pg.rx g) 0x25 Sev.info Ag.hlp 0) ∧
      (∀ p : Fin 9, t.rxRd g Rx.LSTATE p = if s.flag (Pg.rx g) Hdr.EN && ok
        then (if s.rxRd g Rx.LSTATE p = 0 then 1 else s.rxRd g Rx.LSTATE p) else 0) ∧
      t.body = ({ s with rxs := t.rxs } : State).body ∧ s.onlyPages t [Pg.rx g, Pg.log, Pg.registry 0])) ∧
  (∀ (g : Fin 12) (p : Fin 9) (s : State),
    let up := s.flag (Pg.rx g) Hdr.EN = true ∧ s.isOn (En.rx g) = true ∧ s.rxRd g Rx.RATE_OK = 1
    (up → s.rxRd g Rx.LSTATE p ≤ 1 → Does (.cdrLock g p) s fun t => t.rxRd g Rx.LSTATE p = 2 ∧
      t.rxRd g Rx.LOGICAL p = 15 ∧ t.logQ = s.logQ) ∧
    (up → 2 ≤ s.rxRd g Rx.LSTATE p → Does (.cdrLock g p) s fun t => t.rxRd g Rx.LSTATE p = s.rxRd g Rx.LSTATE p) ∧
    (¬ up → Does (.cdrLock g p) s fun t => t.rxRd g Rx.LSTATE p = 0)) ∧
  (∀ (g : Fin 12) (p : Fin 9) (bs : List Bool) (r : State),
    let s := r.rxLook g
    let sampler (t : State) (w : Row) := t.rd (Pg.registry (Reg.sampler (9 * g + p))) w (Reg.sampler (9 * g + p) % 1008)
    let v := rxLaneOf (s.rxg g) p
    let u := unstuff v.run bs
    let c := natOf (List.zipWith (fun a b => a != b) u.1 (scrambler p))
    let good := u.1.length = 512 ∧ Cell.good c = true
    let st := s.rxRd g Rx.LSTATE p
    (st < 2 → Does (.cellReceive g p bs) r fun t => t = s) ∧
    (st = 2 → ¬ good ∨ v.good < 7 → Does (.cellReceive g p bs) r fun t => t.rxRd g Rx.LSTATE p = 2 ∧
      rxLaneOf (t.rxg g) p = { v with run := u.2.1, good := if u.1.length = 512 && Cell.good c then v.good + 1 else 0 } ∧
      t.logQ = s.logQ ∧ t.body = ({ s with rxs := t.rxs } : State).body ∧
      s.onlyFields t [(Pg.rx g, Rx.STUFF_ERR_CNT, p.val)]) ∧
    (st = 2 → good → 7 ≤ v.good → Does (.cellReceive g p bs) r fun t => t.rxRd g Rx.LSTATE p = 3 ∧
      t.flag (Pg.rx g) (irqBit 17) = true ∧ s.enters t (Pg.rx g) 0x21 Sev.info Ag.hlp p ∧
      sampler t ownClaimed = 1 ∧ sampler t ownAgent = Ag.hlp ∧
      (Cell.lane c ≤ 8 → t.rxRd g Rx.LOGICAL p = Cell.lane c)) ∧
    (st = 3 → ¬ good → Does (.cellReceive g p bs) r fun t =>
      t.rxRd g Rx.CRC_CNT p = satAdd 16 (s.rxRd g Rx.CRC_CNT p) 1 % 2 ^ 16 ∧
      (rxLaneOf (t.rxg g) p).fails = v.fails + 1 ∧
      (v.bad < 7 → t.rxRd g Rx.LSTATE p = 3 ∧ (rxLaneOf (t.rxg g) p).bad = v.bad + 1 ∧ t.logQ = s.logQ) ∧
      (7 ≤ v.bad → t.rxRd g Rx.LSTATE p = 2 ∧ t.flag (Pg.rx g) (irqBit 16) = true ∧ sampler t ownClaimed = 0 ∧
        t.rxRd g Rx.DOWN_CNT p = satAdd 16 (s.rxRd g Rx.DOWN_CNT p) 1 % 2 ^ 16 ∧
        s.enters t (Pg.rx g) 0x20 Sev.degraded Ag.hlp p)) ∧
    (st = 3 → good → s.rxRd g Rx.H0_UP = 1 → s.rxRd g Rx.H1_UP = 1 → s.rxFixed g = true →
      let l := Cell.lane c
      let x := rxLogicalOf (s.rxg g) l
      l < 8 → s.rxRd g Rx.LOGICAL p = l → Cell.idle c = false → x.started = true → x.early = [] →
      x.expect = Cell.seq c → x.shown = Cell.seq c → s.laneBuffer g p < 64 → Does (.cellReceive g p bs) r fun t =>
        (rxLogicalOf (t.rxg g) l).ready = x.ready ++
          [⟨Cell.seq c, Cell.btag c, s.bucketOf (Cell.btag c), c, Cell.poison c, false, some p.val⟩] ∧
        (rxLogicalOf (t.rxg g) l).expect = (Cell.seq c + 1) % 2 ^ 16 ∧ (rxLogicalOf (t.rxg g) l).early = [] ∧
        t.logQ = s.logQ ∧ t.rxOut = s.rxOut)) ∧
  (∀ (g : Fin 12) (h : Fin 2) (es : List Nat) (s : State),
    let b := s.time64 - s.rxAlign g
    let may := s.rxFixed g = true ∧ s.rxRd g (halfUpRow h) ≠ 0 ∧ s.rxAlign g ≤ s.time64
    (¬ may → Does (.cellRelease g h es) s fun t => t = s) ∧
    (may → Does (.cellRelease g h es) s fun t =>
      ∀ k, k < 4 → ∀ c ∈ (rxLogicalOf (t.rxg g) (4 * h.val + k)).ready, b < c.t64) ∧
    (may → bitOf (s.rxg g).resume h = 0 →
      (∀ k, k < 4 → ∀ c ∈ (rxLogicalOf (s.rxg g) (4 * h.val + k)).ready, b ≤ c.t64) →
      let cs := (s.inOrder g h (fun k c => c.t64 = b && passed (s.rxg g) b (4 * h.val + k)) (s.waitingCells g h)).1
      let outs := cs.zipIdx.map fun (c : RxCell × Nat) => outOf (decide (c.2 = 0)) c.1
      Does (.cellRelease g h es) s fun t =>
        (∀ d i port, s.destinations g h = [(d, i, port)] →
          mget [] t.rxOut (2 * i + port) = outs.take (es.getD d 0) ∧
          (es.getD d 0 < outs.length → t.flag (Pg.rx g) (irqBit 19) = true ∧ t.rxRd g Rx.REL_OVF_CNT =
            satAdd 16 (s.rxRd g Rx.REL_OVF_CNT) (outs.length - es.getD d 0) % 2 ^ 16)) ∧
        (s.destinations g h = [] → t.rxOut = s.rxOut) ∧
        t.rxRd g Rx.CELLS_LO + t.rxRd g Rx.CELLS_HI * 2 ^ 32 = (s.rxRd g Rx.CELLS_LO +
          s.rxRd g Rx.CELLS_HI * 2 ^ 32 + (cs.filter fun c => c.lane.isSome).length) % 2 ^ 48)) ∧
  (∀ (ag : Agent) (g : Fin 12) (h : Fin 2) (v : Word) (s : State), s.grants ag (Pg.rx g) →
    let others := ((List.range 24).filter fun n => n ≠ 2 * g.val + h.val).flatMap fun n =>
      namedPorts (s.slotWord (n / 2) (n % 2))
    (∀ x, (namedPorts v.toNat).find? (fun x => others.contains x) = some x → Does (.destSlotWrite ag g h v) s fun t =>
      t.rxRd g Rx.ROUTE_REFUSED = 1 ∧ t.flag (Pg.rx g) (irqBit 22) = true ∧ t.body = s.body ∧
      s.enters t (Pg.rx g) 0x26 Sev.info ag (h.val + x % 64 * 2 + x / 64 * 2 ^ 7) ∧
      s.onlyFields t ([(Pg.rx g, Rx.ROUTE_REFUSED, 0), (Pg.rx g, irqBit 22, 0)] ++ logFields (Pg.rx g))) ∧
    ((∀ x ∈ namedPorts v.toNat, x ∉ others) → Does (.destSlotWrite ag g h v) s fun t => t.slotWord g h = v.toNat ∧
      t.body = s.body ∧ t.logQ = s.logQ ∧ s.onlyPages t [Pg.rx g])) ∧
  (∀ (g : Fin 12) (p : Fin 9) (s : State),
    let v := rxLaneOf (s.rxg g) p
    let m := s.rxRd g Rx.FAIL_MASK
    let bad := s.rxRd g Rx.LF_THR ≠ 0 ∧ s.rxRd g Rx.LF_THR < v.fails
    (¬ bad ∨ bitOf m p = 1 → Does (.laneErrorCheck g p) s fun t => rxLaneOf (t.rxg g) p = { v with fails := 0 } ∧
      t.regs = s.regs ∧ t.logQ = s.logQ ∧ t.body = ({ s with rxs := t.rxs } : State).body) ∧
    (bad → bitOf m p = 0 → Does (.laneErrorCheck g p) s fun t => rxLaneOf (t.rxg g) p = { v with fails := 0 } ∧
      t.rxRd g Rx.FAIL_MASK = (m + 2 ^ p.val) % 2 ^ 9 ∧ t.flag (Pg.rx g) (irqBit 20) = true ∧
      t.repairs = s.repairs ++ [⟨En.rx g, 7, false, decide (m ≠ 0), 0, p⟩] ∧ t.flag (Pg.tx g) (irqBit 19) = true ∧
      s.enters t (Pg.rx g) 0x24 Sev.degraded Ag.hlp p ∧
      (m ≠ 0 → s.blk (En.rx g) = St.usable ∨ s.blk (En.rx g) = St.inUse → t.blk (En.rx g) = St.degraded))) ∧
  (∀ (ag : Agent) (g : Fin 12) (v : Word) (s : State), s.grants ag (Pg.rx g) →
    let lane := v.toNat % 16
    let go := v.getLsb 23 = true
    let named (t : State) : Prop := t.rxRd g Rx.ES_LANE = lane ∧ t.rxRd g Rx.ES_PHASE = v.toNat / 2 ^ 4 % 2 ^ 6 ∧
      t.rxRd g Rx.ES_VOFF = v.toNat / 2 ^ 10 % 2 ^ 8 ∧ t.rxRd g Rx.ES_DWELL = v.toNat / 2 ^ 18 % 2 ^ 4 ∧
      t.rxRd g Rx.ES_ANYTIME = (v.getLsb 22).toNat ∧ t.body = ({ s with rxs := t.rxs } : State).body
    let busy := s.rxRd g Rx.ES_BUSY = 1
    (¬ go → Does (.eyeScanStart ag g v) s fun t => named t ∧ t.rxs = s.rxs ∧ t.rxRd g Rx.ES_BUSY = s.rxRd g Rx.ES_BUSY ∧
      t.rxRd g Rx.ES_DONE = (if v.getLsb 25 then 0 else s.rxRd g Rx.ES_DONE) ∧
      t.rxRd g Rx.ES_ABORT = (if v.getLsb 26 then 0 else s.rxRd g Rx.ES_ABORT) ∧ t.logQ = s.logQ) ∧
    (go → busy → Does (.eyeScanStart ag g v) s fun t => named t ∧ t.rxs = s.rxs ∧ t.rxRd g Rx.ES_BUSY = 1 ∧
      t.flag (Pg.rx g) Hdr.WRITE_IGNORED = true ∧ t.logQ = s.logQ) ∧
    (go → ¬ busy → Does (.eyeScanStart ag g v) s fun t => named t ∧ t.rxRd g Rx.ES_ERR = 0 ∧ t.rxRd g Rx.ES_BITS = 0 ∧
      t.rxg g = { s.rxg g with scan := (lane, v.toNat / 2 ^ 18 % 2 ^ 4) } ∧
      (lane < 9 → s.rxRd g Rx.LSTATE lane = 3 → t.rxRd g Rx.ES_BUSY = 1 ∧ t.logQ = s.logQ) ∧
      (9 ≤ lane ∨ s.rxRd g Rx.LSTATE lane ≠ 3 → t.rxRd g Rx.ES_BUSY = 0 ∧ t.rxRd g Rx.ES_ABORT = 1 ∧
        t.flag (Pg.rx g) (irqBit 21) = true ∧ s.enters t (Pg.rx g) 0x27 Sev.info Ag.hlp (lane + 2 ^ 4)))) ∧
  (∀ (g : Fin 12) (bits errs : Nat) (s : State),
    let limit := 2 ^ ((s.rxg g).scan.2 + 16)
    let n := min limit (s.rxRd g Rx.ES_BITS + bits)
    let may := s.rxRd g Rx.ES_BUSY ≠ 0 ∧ (s.rxRd g Rx.ES_ANYTIME = 1 ∨ s.inLayby = true ∨ s.noLayby = true)
    (¬ may → Does (.eyeScanSlice g bits errs) s fun t => t = s) ∧
    (may → (s.rxg g).scan.2 < 16 → Does (.eyeScanSlice g bits errs) s fun t =>
      t.rxRd g Rx.ES_BITS = n ∧ t.rxRd g Rx.ES_ERR = min n (s.rxRd g Rx.ES_ERR + errs) ∧ t.body = s.body ∧
      (n < limit → t.rxRd g Rx.ES_BUSY = s.rxRd g Rx.ES_BUSY ∧ t.logQ = s.logQ) ∧
      (n = limit → t.rxRd g Rx.ES_BUSY = 0 ∧ t.rxRd g Rx.ES_DONE = 1 ∧ t.flag (Pg.rx g) (irqBit 21) = true ∧
        s.enters t (Pg.rx g) 0x27 Sev.info Ag.hlp (s.rxg g).scan.1)))

/-! ### Power and thermal (chapter 14) -/

/-- The entry and wake sequences of a power domain (R430 to R432, Tables 14.2 to 14.4). ENTRY_STEP_READY ends the step that
runs: the gate closes, then the clamps are set, then the step of the power switch, and last the level is reached. The
clamps of a slab hold its outputs at their values for it (R148). A domain that reaches OFF loses its contents and the claims
on its resources, and a plane's eight contexts become INVALID with cause 4 (R167); at RET it keeps them. WAKE_STEP_READY does the same on
the way up: from OFF the pages take their cold-start values but for those that eFuse, self-test or layer C give (the model's
list, log entry 54), the tree's PLL is READY, a slab clears its memories, and the owner's logic step runs. WAKE_FAIL sends
the domain back to OFF and records the step. -/
def Obligations.powerSequences : Prop :=
  (∀ (d : Fin 270) (s : State), (s.dom d).entry = 0 → Does (.entryStepReady d) s fun t => t = s) ∧
  (∀ (d : Fin 270) (s : State), (s.dom d).entry = 1 → (s.gate (entryOfDomain d)).closing = true →
    (s.gate (entryOfDomain d)).treeClose = false → Does (.entryStepReady d) s fun t =>
      t.dom d = { s.dom d with entry := 2 } ∧ (t.gate (entryOfDomain d)).closing = false ∧
      (let en := s.enables (entryOfDomain d) (s.gate (entryOfDomain d)).toLevel
       if s.bucketFed (entryOfDomain d) then
         (t.gate (entryOfDomain d)).branches = (s.gate (entryOfDomain d)).branches &&& en ∧
           (t.gate (entryOfDomain d)).opening = en - (en &&& ((s.gate (entryOfDomain d)).branches &&& en))
       else (t.gate (entryOfDomain d)).branches = ((s.gate (entryOfDomain d)).branches &&& en ||| en) ∧
         (t.gate (entryOfDomain d)).opening = 0) ∧
      t = { s with doms := t.doms, gates := t.gates }) ∧
  (∀ (d : Fin 270) (s : State), (s.dom d).entry = 2 → Does (.entryStepReady d) s fun t =>
    t.dom d = { s.dom d with entry := 3 } ∧ (d.val < 40 → t.flag (Pg.region d) Hdr.READY = false) ∧
    (40 ≤ d.val → d.val < 80 → mget (0, 0) t.rbOut (d.val - 40) = (0, 0) ∧ ∀ k, k < 2048 →
      mget 0 t.bmOut (bmPortKey (d.val - 40) 0 0 0 + k) = 0 ∧ mget 0 t.bmNext (bmPortKey (d.val - 40) 0 0 0 + k) = 0) ∧
    (236 ≤ d.val → d.val < 248 → (t.txg (d.val - 236)).quiet = true) ∧
    (248 ≤ d.val → d.val < 260 → ∀ p, p < 9 → t.rxRd (d.val - 248) Rx.LSTATE p = 0) ∧
    (260 ≤ d.val → d.val < 268 → t.flag (Pg.ddr (d.val - 260)) Ddr.SELF_REFRESH = true) ∧ t.cfg = s.cfg ∧
    t.latch = s.latch ∧ t.ff = s.ff ∧ t.rb = s.rb ∧ t.ddr = s.ddr ∧ t.dm = s.dm ∧ t.im = s.im) ∧
  (∀ (d : Fin 270) (s : State), (s.dom d).entry = 3 → Does (.entryStepReady d) s fun t =>
    t.dom d = { s.dom d with entry := 4 } ∧ t = { s with doms := t.doms }) ∧
  (∀ (d : Fin 270) (s : State), (s.dom d).entry = 4 → (s.dom d).goal = 1 → Does (.entryStepReady d) s fun t =>
    (t.dom d).level = 1 ∧ t.body = ({ s with doms := t.doms, gates := t.gates } : State).body ∧ t.logQ = s.logQ) ∧
  (∀ (d : Fin 270) (s : State), (s.dom d).entry = 4 → (s.dom d).goal = 0 → Does (.entryStepReady d) s fun t =>
    (t.dom d).level = 0 ∧
    (d.val < 40 → (t.rg d).live = false ∧ t.flag (Pg.region d) Hdr.READY = false ∧ (∀ x r, x < 64 → r < 320 →
      mget 0 t.ff (ffKey d x r) = 0 ∧ mget 0 t.restore (ffKey d x r) = 0 ∧ ∀ m, m < 16 →
        mget 0 t.latch (latchKey (s.rg d).active d x m r) = 0 ∧ mget 0 t.latch (latchKey (1 - (s.rg d).active) d x m r) = 0)) ∧
    (40 ≤ d.val → d.val < 80 → (∀ k, k < 2 ^ 23 → mget {} t.rb (rbKey (d.val - 40) k) = {}) ∧
      (∀ b a, b < 1024 → a < 4096 → mget 0 t.bm (bmKey (d.val - 40) b a) = 0) ∧
      (∀ c x r b, c < 9 → x < 64 → r < 320 → b < 2 → mget 0 t.sbank (sbKey (d.val - 40) c x r b) = 0)) ∧
    (80 ≤ d.val → d.val < 120 → ∀ c, c < 8 →
      t.ctxState (d.val - 80) c = 3 ∧ t.rgRd (d.val - 80) Rgn.INV_CAUSE c = 4 ∧
      ∀ x m r, x < 64 → m < 16 → r < 320 → mget {} t.cfg (cfgKey (d.val - 80) c x m r) = {}) ∧
    (120 ≤ d.val → d.val < 224 → (∀ a l, a < 2048 → l < 32 → mget 0 t.dm (dmKey (d.val - 120) a l) = 0) ∧
      (∀ a, a < 2048 → mget {} t.im (imKey (d.val - 120) a) = {}) ∧
      ∀ f, f < 4 → t.claimed (Reg.fifo (4 * (d.val - 120) + f)) = false) ∧
    (248 ≤ d.val → d.val < 260 → ∀ l, l < 9 → t.claimed (Reg.sampler (9 * (d.val - 248) + l)) = false) ∧
    (260 ≤ d.val → d.val < 268 → t.rd (Pg.ddr (d.val - 260)) Ddr.TRAINED = 0 ∧
      ∀ k, k < 2 ^ 34 → mget {} t.ddr (ddrKey (d.val - 260) k) = {}) ∧
    (d.val = 268 → t.peRd Pcie.LINK_SPEED = 0)) ∧
  (∀ (d : Fin 270) (s : State), (s.dom d).wake = 0 →
    (Does (.wakeStepReady d) s fun t => t = s) ∧ Does (.wakeFail d) s fun t => t = s) ∧
  (∀ (d : Fin 270) (s : State), (s.dom d).wake = 1 → Does (.wakeStepReady d) s fun t =>
    t.dom d = { s.dom d with wake := 2 } ∧ t.body = ({ s with doms := t.doms } : State).body ∧ t.logQ = s.logQ ∧
    s.onlyPages t ((entriesOfDomain d).map pageOf) ∧ ((s.dom d).fromOff = false → t.regs = s.regs) ∧
    ((s.dom d).fromOff = true →
      (236 ≤ d.val → d.val < 248 → t.txRd (d.val - 236) Tx.PARK = ((s.fusedPark (d.val - 236)).getD 8) ∧
        t.txRd (d.val - 236) Tx.PARK_FIX = bit (s.fusedPark (d.val - 236)).isSome) ∧
      (∀ f ∈ keptFields d, t.rd f.1 f.2.1 f.2.2 = s.rd f.1 f.2.1 f.2.2 % 2 ^ f.2.1.width) ∧
      ∀ e ∈ entriesOfDomain d, t.rd (pageOf e) Hdr.LOCK_OPEN = 0 ∧
        ∀ k, pageOf e * 32768 + 512 ≤ k → k < (pageOf e + 1) * 32768 →
          k ∉ (keptFields d).map (fun f => fieldKey f.1 f.2.1 f.2.2) →
          k ∉ [fieldKey (Pg.tx (d.val - 236)) Tx.PARK 0, fieldKey (Pg.tx (d.val - 236)) Tx.PARK_FIX 0] →
          mget 0 t.regs k = 0)) ∧
  (∀ (d : Fin 270) (s : State), (s.dom d).wake = 2 →
    (s.clkOk d = false → Does (.wakeStepReady d) s fun t => t = s) ∧
    (s.clkOk d = true → Does (.wakeStepReady d) s fun t => t.dom d = { s.dom d with wake := 3 } ∧
      (40 ≤ d.val → d.val < 80 → (s.dom d).fromOff = true → t.flag (Pg.slab (d.val - 40)) Slab.INIT_BUSY = true) ∧
      t.body = ({ s with doms := t.doms } : State).body ∧ t.logQ = s.logQ)) ∧
  (∀ (d : Fin 270) (s : State), (s.dom d).wake = 3 → Does (.wakeStepReady d) s fun t =>
    t.dom d = { s.dom d with wake := 4 } ∧
    (40 ≤ d.val → d.val < 80 → (s.dom d).fromOff = true → t.flag (Pg.slab (d.val - 40)) Slab.INIT_BUSY = false) ∧
    t.body = ({ s with doms := t.doms } : State).body ∧ t.logQ = s.logQ) ∧
  (∀ (d : Fin 270) (s : State), (s.dom d).wake = 4 → s.planeReady d (s.dom d).fromOff = false →
    Does (.wakeStepReady d) s fun t => t = s) ∧
  (∀ (d : Fin 270) (s : State), (s.dom d).wake = 4 → s.planeReady d (s.dom d).fromOff = true →
    (s.dom d).entry = 0 → (s.dom d).kept = none →
    let level := if (s.dom d).goal ≤ 1 then 3 else (s.dom d).goal
    s.asked d = level → Does (.wakeStepReady d) s fun t =>
      (t.dom d).wake = 0 ∧ (t.dom d).level = level ∧ (t.gate (entryOfDomain d)).toLevel = level ∧
      t.pwRd Pwr.CNT_WAKE = satAdd 16 (s.pwRd Pwr.CNT_WAKE) 1 ∧ t.flag Pg.power (irqBit 16) = true ∧
      (d.val < 40 → (s.dom d).fromOff = false → t.flag (Pg.region d) Hdr.READY = true) ∧
      (d.val < 40 → (s.dom d).fromOff = true → s.ctxValid d (s.liveCtx d) = true →
        (t.rg d).live = true ∧ t.liveCtx d = s.liveCtx d ∧ t.rgRd d Rgn.STG_VALID = 1 ∧
        t.flag (Pg.region d) Hdr.READY = true) ∧
      (d.val < 40 → (s.dom d).fromOff = true → s.ctxValid d (s.liveCtx d) = false →
        t.flag (Pg.region d) Hdr.READY = false ∧ s.enters t (Pg.region d) 0x32 Sev.degraded Ag.hlp
          ((s.liveCtx d + s.rgRd d Rgn.INV_CAUSE (s.liveCtx d) * 2 ^ 3) % 2 ^ 32)) ∧
      (120 ≤ d.val → d.val < 224 → (s.dom d).fromOff = true → t.estate (d.val - 120) = Es.idle ∧
        t.teRd (d.val - 120) Te.RELOAD_NEEDED = 1) ∧
      (260 ≤ d.val → d.val < 268 → t.flag (Pg.ddr (d.val - 260)) Ddr.SELF_REFRESH = false)) ∧
  (∀ (d : Fin 270) (s : State), (s.dom d).wake ≠ 0 → (s.dom d).wake < 8 → Does (.wakeFail d) s fun t =>
    (t.dom d).wake = 0 ∧ (t.dom d).entry = 1 ∧ (t.dom d).goal = 0 ∧ (t.dom d).failed = true ∧
    (t.gate (entryOfDomain d)).closing = true ∧ (t.gate (entryOfDomain d)).toLevel = 0 ∧
    t.pwRd Pwr.WAKE_FAIL d = 1 ∧ t.pwRd Pwr.LAST_FAIL_DOM = d ∧ t.pwRd Pwr.LAST_FAIL_STEP = (s.dom d).wake ∧
    t.pwRd Pwr.CNT_WAKE_FAIL = satAdd 16 (s.pwRd Pwr.CNT_WAKE_FAIL) 1 ∧ t.flag Pg.power (irqBit 17) = true ∧
    s.enters t Pg.power 0x20 Sev.degraded Ag.hlp (d + (s.dom d).wake * 2 ^ 9) ∧
    (120 ≤ d.val → d.val < 224 → t.estate (d.val - 120) = Es.failed) ∧ t.cfg = s.cfg ∧ t.latch = s.latch ∧ t.ff = s.ff)

/-- Measurements and what they move (R435 to R449). POWER_MEASURE sums the domains and the always-on domain, and two
evaluations above P_LIMIT set PCAP. PCAP_SHED puts a ceiling of RET on the highest domain that may be shed, or tells that
none is left; PCAP_LIFT takes the latest ceiling off, or the throttle. TEMP_CONVERSION writes the readings, a reading out of
range or a third failed reference check breaks its point, and the windows follow. MODEL_EVALUATION forms the model of layer
C and makes its points SUSPECT or OK. ZONE_EVALUATE moves a zone by Table 14.7; SHED takes the zone's domains down, and a hot
board channel doubles the refresh of the channels it names. -/
def Obligations.powerAndThermal : Prop :=
  (∀ (rs : List (Fin 270 × Nat)) (a : Nat) (s : State), (rs.map (·.1)).Nodup → Does (.powerMeasure rs a) s fun t =>
    (∀ r ∈ rs, t.pwRd Pwr.POWER r.1 = min r.2 0xFFFF) ∧
    (∀ d : Fin 270, d ∉ rs.map (·.1) → t.pwRd Pwr.POWER d = s.pwRd Pwr.POWER d) ∧
    t.pwRd Pwr.P_TOTAL = min ((a + ((List.range 270).map fun d => t.pwRd Pwr.POWER d).sum) / 10) 0xFFFF ∧
    t.pw.above = (if t.overLimit then s.pw.above + 1 else 0) ∧
    (2 ≤ t.pw.above → s.pwRd Pwr.PCAP = 0 → t.pwRd Pwr.PCAP = 1 ∧ t.flag Pg.power (irqBit 18) = true ∧
      s.enters t Pg.power 0x22 Sev.info Ag.hlp 0) ∧
    (t.pw.above < 2 ∨ s.pwRd Pwr.PCAP ≠ 0 → t.pwRd Pwr.PCAP = s.pwRd Pwr.PCAP ∧ t.logQ = s.logQ) ∧
    t.body = ({ s with pw := t.pw } : State).body ∧ s.onlyPages t [Pg.power, Pg.log]) ∧
  (∀ s : State, (s.pwRd Pwr.PCAP = 0 ∨ s.overLimit = false → Does .pcapShed s fun t => t = s) ∧
    (s.pwRd Pwr.PCAP = 0 ∨ s.wellUnder = false → Does .pcapLift s fun t => t = s)) ∧
  (∀ (d : Fin 270) (s : State), s.pwRd Pwr.PCAP = 1 → s.overLimit = true → s.pwRd Pwr.SHED_EN d = 1 → d.val ∉ s.pw.ceils →
    (∀ e : Fin 270, d < e → s.pwRd Pwr.SHED_EN e = 1 → e.val ∈ s.pw.ceils) → Does .pcapShed s fun t =>
      t.pw.ceils = d.val :: s.pw.ceils ∧ t.pwRd Pwr.PCAP_SHED = 1 ∧ t.ceil d = 1 ∧
      t.pwRd Pwr.CNT_CAP_SHED = satAdd 16 (s.pwRd Pwr.CNT_CAP_SHED) 1 ∧
      s.enters t Pg.power 0x23 Sev.degraded Ag.hlp d ∧
      ((s.dom d).entry = 0 → (s.dom d).wake = 0 → 2 ≤ (s.dom d).level → (s.gate (entryOfDomain d)).waits = false →
        (s.gate (entryOfDomain d)).again = false → (t.dom d).entry = 1 ∧ (t.dom d).goal ≤ 1)) ∧
  (∀ s : State, s.pwRd Pwr.PCAP = 1 → s.overLimit = true →
    s.pwRd Pwr.PCAP_UNMET = 1 → (∀ e : Fin 270, s.pwRd Pwr.SHED_EN e = 1 → e.val ∈ s.pw.ceils) →
    Does .pcapShed s fun t => t = s) ∧
  (∀ s : State, s.pwRd Pwr.PCAP = 1 → s.overLimit = true → s.pwRd Pwr.PCAP_UNMET = 0 →
    s.pwRd Pwr.P_TOTAL < 2 ^ 16 → (∀ e : Fin 270, s.pwRd Pwr.SHED_EN e = 1 → e.val ∈ s.pw.ceils) →
    Does .pcapShed s fun t => t.pwRd Pwr.PCAP_UNMET = 1 ∧ t.body = s.body ∧
      s.enters t Pg.power 0x24 Sev.degraded Ag.hlp (s.pwRd Pwr.P_TOTAL)) ∧
  (∀ (d : Nat) (ds : List Nat) (s : State), s.pwRd Pwr.PCAP = 1 → s.wellUnder = true → s.pw.ceils = d :: ds →
    Does .pcapLift s fun t => t.pw.ceils = ds ∧ t.pwRd Pwr.PCAP_SHED = bit !ds.isEmpty ∧ t.pwRd Pwr.PCAP = 1 ∧
      t.cfg = s.cfg ∧ t.latch = s.latch ∧ t.ff = s.ff) ∧
  (∀ s : State, s.pwRd Pwr.PCAP = 1 → s.wellUnder = true → s.pw.ceils = [] → Does .pcapLift s fun t =>
    t.pwRd Pwr.PCAP = 0 ∧ s.enters t Pg.power 0x22 Sev.info Ag.hlp 1 ∧ t.body = s.body) ∧
  (∀ (rs : List TempReading) (s : State), (rs.map (·.point)).Nodup → Does (.tempConversion rs) s fun t =>
    (∀ r ∈ rs,
      let x := mget {} s.points r.point
      let broken := r.openOrShort = true ∨ r.eighths < -320 ∨ 1200 < r.eighths ∨ (r.refFail = true ∧ 2 ≤ x.refFails)
      (r.point.val < 180 → t.thRd Thr.TEMP r.point = fieldOf 16 r.eighths ∧ (broken → t.ownState r.point = 2) ∧
        (¬ broken → t.ownState r.point = s.ownState r.point) ∧
        (x.hist.length < 100 → t.thRd Thr.RATE r.point = 0) ∧
        (∀ old, x.hist[99]? = some old → -128 ≤ 5 * (r.eighths - old) / 2 → 5 * (r.eighths - old) / 2 ≤ 127 →
          t.thRd Thr.RATE r.point = fieldOf 8 (5 * (r.eighths - old) / 2))) ∧
      (180 ≤ r.point.val → s.thRd Thr.EXT_EN (r.point.val - 180) = 1 →
        t.thRd Thr.EXT_TEMP (r.point.val - 180) = fieldOf 16 r.eighths ∧
        (broken → t.thRd Thr.EXT_BROKEN (r.point.val - 180) ≠ 0))) ∧
    (∀ r, rs = [r] → r.point.val < 180 → r.openOrShort = true → s.ownState r.point ≠ 2 →
      t.thRd Thr.CNT_BROKEN = satAdd 16 (s.thRd Thr.CNT_BROKEN) 1 ∧ t.flag Pg.thermal (irqBit 20) = true ∧
      s.enters t Pg.thermal 0x24 Sev.degraded Ag.hlp r.point) ∧
    t.thRd Thr.CFG_WIN = bit (t.windowOpen 72 (-5) 95) ∧ t.thRd Thr.FUSE_WIN = bit (t.windowOpen 0 15 60) ∧
    (s.thRd Thr.CFG_WIN = 1 → t.thRd Thr.CFG_WIN = 0 → t.flag Pg.thermal (irqBit 21) = true ∧
      t.thRd Thr.CNT_WIN_CLOSE = satAdd 16 (s.thRd Thr.CNT_WIN_CLOSE) 1) ∧
    t.body = ({ s with points := t.points, fresh := t.fresh } : State).body ∧ s.onlyPages t [Pg.thermal, Pg.log]) ∧
  (∀ s : State, Does .modelEvaluation s fun t =>
    (∀ j, j < 24 →
      (s.modelOf j = none → mget {} t.cchecks j = {} ∧ t.ownState (72 + j) = s.ownState (72 + j)) ∧
      ∀ m, s.modelOf j = some m →
        let p := 72 + j
        let c := mget {} s.cchecks j
        let n0 := if s.temp p * 400000 + 64 * 400000 < m then c.run0 + 1 else 0
        let n1 := if 2 * (s.thRd Thr.RATE_WARN : Int) < max (s.rate2 (48 + j)) (s.rate2 (96 + j)) ∧ s.rate2 p < 4
          then c.run1 + 1 else 0
        let ok := if s.ownState p = 1 ∧ -32 * 400000 ≤ m - s.temp p * 400000 ∧ m - s.temp p * 400000 ≤ 32 * 400000 then c.okRun + 1 else 0
        t.thRd Thr.MODEL j = fieldOf 16 (m / 400000) ∧ mget {} t.cchecks j = ⟨true, n0, n1, ok⟩ ∧
        (s.ownState p = 0 → (10 ≤ n0 ∨ 100 ≤ n1 → t.ownState p = 1 ∧ t.flag Pg.thermal (irqBit 19) = true) ∧
          (n0 < 10 → n1 < 100 → t.ownState p = 0)) ∧
        (s.ownState p = 1 → t.ownState p = if 10000 ≤ ok then 0 else 1) ∧ (s.ownState p = 2 → t.ownState p = 2)) ∧
    t.thRd Thr.CFG_WIN = bit (t.windowOpen 72 (-5) 95) ∧ t.thRd Thr.FUSE_WIN = bit (t.windowOpen 0 15 60) ∧
    t.body = ({ s with cchecks := t.cchecks } : State).body ∧ s.onlyPages t [Pg.thermal, Pg.log]) ∧
  (∀ (z : Fin 33) (s : State), s.zstate z ≤ 3 → s.limitT Thr.T_SHED ≤ s.limitT Thr.T_LIMIT →
    let hot := pointMax s.effective (pointsOf z)
    let r := (pointMax s.rate2 (pointsOf z)).2
    let st := s.zstate z
    let m := mget {} s.zones z
    let st' := if s.limitT Thr.T_LIMIT ≤ hot.2 then 3
      else if st = 2 ∧ s.limitT Thr.T_SHED ≤ hot.2 ∧ 9 ≤ m.shedRun then 3
      else if st < 2 ∧ s.overThreshold 2 hot.2 r false = true then 2
      else if st = 0 ∧ s.overThreshold 1 hot.2 r false = true then 1
      else if st ≠ 0 ∧ s.overThreshold st hot.2 r true = false ∧ 999 ≤ m.exitRun then st - 1 else st
    Does (.zoneEvaluate z) s fun t => t.zstate z = st' ∧ t.thRd Thr.ZPOINT z = hot.1 ∧
      (∀ y : Fin 33, y ≠ z → t.zstate y = s.zstate y) ∧
      (st < 2 → 2 ≤ st' → t.thRd Thr.CNT_THROT = satAdd 16 (s.thRd Thr.CNT_THROT) 1 ∧
        t.flag Pg.thermal (irqBit 17) = true) ∧
      (st < 3 → st' = 3 → t.thRd Thr.CNT_SHED = satAdd 16 (s.thRd Thr.CNT_SHED) 1 ∧
        t.flag Pg.thermal (irqBit 18) = true ∧ ∀ d : Fin 270, (s.zonesOf d).contains z.val = true → t.ceil d = 1 ∧
          ((s.dom d).entry = 0 → (s.dom d).wake = 0 → 2 ≤ (s.dom d).level →
            (s.gate (entryOfDomain d)).waits = false → (s.gate (entryOfDomain d)).again = false →
            (t.dom d).entry = 1)) ∧
      (st = 0 → st' = 1 → s.limitT Thr.T_WARN ≤ hot.2 → t.flag Pg.thermal (irqBit 16) = true) ∧
      (st = 0 → st' = 1 → hot.2 < s.limitT Thr.T_WARN → t.flag Pg.thermal (irqBit 22) = true) ∧
      (s.logQ.length < 29 → s.limitT Thr.T_LIMIT ≤ hot.2 → m.limit = false →
        s.enters t Pg.thermal 0x27 Sev.fatal Ag.hlp (hot.1 + fieldOf 16 hot.2 * 2 ^ 8)) ∧
      (∀ e : Fin 8, s.thRd Thr.EXT_EN e = 1 → 680 < s.extTemp e ∨ s.thRd Thr.EXT_BROKEN e = 1 → ∀ c : Fin 8,
        bitOf (s.thRd Thr.DDR_MASK e) c = 1 → t.rd (Pg.ddr c) Ddr.REF_2X ≠ 0) ∧
      t.thRd Thr.CFG_WIN = bit (t.windowOpen 72 (-5) 95) ∧ t.cfg = s.cfg ∧ t.latch = s.latch ∧ t.ff = s.ff)

/-! ### Resilience (chapter 15) -/

/-- Self-test slices (R469 to R473, Table 15.2). SELFTEST_SLICE starts a slice where its kind is enabled, fewer than eight
run, its unit has none and an engine stands still: HLP votes RUN for a domain below it, a PLL_SPARE slice claims a frequency
counter, and a slice that cannot have them, or that foreground work cuts short, is put off and counted. SLICE_DONE counts
the slice and gives vote and counter back; a failure is logged, and the second in a row is confirmed and acted on: a spare
retires, an engine fails, a part is recorded as dead, ROM, point and monitor are set aside. -/
def Obligations.selfTest : Prop :=
  (∀ (k : Fin 11) (e : Fin 354) (fg : Bool) (s : State),
    bitOf (s.wkRd Wk.ST_EN) k = 0 ∨ 8 ≤ s.wk.slices.length ∨ (∃ c ∈ s.wk.slices, c.entry = e.val) ∨
      s.sliceFree k e = false → Does (.selftestSlice k e fg) s fun t => t = s) ∧
  (∀ (k : Fin 11) (e : Fin 354) (s : State), bitOf (s.wkRd Wk.ST_EN) k = 1 → s.wk.slices.length < 8 →
    (∀ c ∈ s.wk.slices, c.entry ≠ e.val) → s.sliceFree k e = true →
    (k ≠ 5 → domainOf e = alwaysOn ∨ 3 ≤ s.taken (domainOf e) →
      (Does (.selftestSlice k e false) s fun t => t.wk.slices = s.wk.slices ++ [⟨k, e, none, none⟩] ∧
        t = { s with wk := t.wk }) ∧
      Does (.selftestSlice k e true) s fun t => t.wk = s.wk ∧ t.body = s.body ∧ t.logQ = s.logQ ∧
        t.wkRd Wk.ST_DEFER_CNT = satAdd 16 (s.wkRd Wk.ST_DEFER_CNT) 1 ∧
        s.onlyFields t [(Pg.walker, Wk.ST_DEFER_CNT, 0)]) ∧
    (k ≠ 5 → domainOf e ≠ alwaysOn → s.taken (domainOf e) < 3 → 3 ≤ s.ceil (domainOf e) →
      Does (.selftestSlice k e false) s fun t => t.vote (domainOf e) Ag.hlp = 3 ∧
        t.wk.slices = s.wk.slices ++ [⟨k, e, some (domainOf e, s.vote (domainOf e) Ag.hlp), none⟩]) ∧
    (domainOf e ≠ alwaysOn → s.taken (domainOf e) < 3 → s.ceil (domainOf e) < 3 → ∀ fg,
      Does (.selftestSlice k e fg) s fun t => t.wk = s.wk ∧ t.body = s.body ∧ t.logQ = s.logQ ∧
        t.wkRd Wk.ST_DEFER_CNT = satAdd 16 (s.wkRd Wk.ST_DEFER_CNT) 1 ∧
        s.onlyFields t [(Pg.walker, Wk.ST_DEFER_CNT, 0)]) ∧
    (k = 5 → domainOf e = alwaysOn →
      (∀ f : Fin 16, (∀ g : Fin 16, g < f → s.mayClaim (Reg.counter g) Ag.hlp 0x40 = false) →
        s.mayClaim (Reg.counter f) Ag.hlp 0x40 = true → Does (.selftestSlice k e false) s fun t =>
          t.wk.slices = s.wk.slices ++ [⟨5, e, none, some f.val⟩] ∧ t.claimed (Reg.counter f) = true ∧
          t.claimAgent (Reg.counter f) = Ag.hlp ∧ t.claimFeature (Reg.counter f) = 0x40 ∧
          t.body = ({ s with wk := t.wk } : State).body ∧ t.logQ = s.logQ) ∧
      ((∀ g : Fin 16, s.mayClaim (Reg.counter g) Ag.hlp 0x40 = false) → Does (.selftestSlice k e false) s fun t =>
        t.wk = s.wk ∧ t.flag Pg.clocks Hdr.CLAIM_REFUSED = true ∧
        t.wkRd Wk.ST_DEFER_CNT = satAdd 16 (s.wkRd Wk.ST_DEFER_CNT) 1))) ∧
  (∀ (k : Fin 11) (e : Fin 354) (fail : Bool) (detail : Nat) (s : State),
    (∀ c ∈ s.wk.slices, c.kind ≠ k.val ∨ c.entry ≠ e.val) → Does (.sliceDone k e fail detail) s fun t => t = s) ∧
  (∀ (k : Fin 11) (e : Fin 354) (fail : Bool) (detail : Nat) (c : Slice) (s : State),
    s.wk.slices.find? (fun c => c.kind = k.val && c.entry = e.val) = some c → Does (.sliceDone k e fail detail) s fun t =>
      t.wk.slices = s.wk.slices.erase c ∧ t.wkRd Wk.ST_LAST_KIND = k ∧ t.wkRd Wk.ST_LAST_ENTRY = e ∧
      t.wkRd Wk.ST_LAST_FAIL = bit fail ∧ t.wkRd Wk.ST_RUN_CNT = satAdd 16 (s.wkRd Wk.ST_RUN_CNT) 1 ∧
      (∀ f, c.counter = some f → f < 16 → t.claimed (Reg.counter f) = false) ∧
      (∀ d v, c.vote = some (d, v) → d < 270 → fail = false →
        t.vote d Ag.hlp = (if 40 ≤ d ∧ d < 120 then (s.dom d).need else v) % 4) ∧
      (fail = false → t.wk.failedOnce = s.wk.failedOnce.erase (k.val, e.val) ∧
        t.wkRd Wk.ST_FAIL_CNT = s.wkRd Wk.ST_FAIL_CNT ∧ (k = 10 → detail % 128 < 84 →
          (t.wear (detail % 128)).slow = signedOf 16 (detail / 128))) ∧
      (fail = true → t.wkRd Wk.ST_FAIL_CNT = satAdd 16 (s.wkRd Wk.ST_FAIL_CNT) 1 ∧ t.flag Pg.walker (irqBit 21) = true ∧
        ((k.val, e.val) ∉ s.wk.failedOnce ∨ s.logQ = [] →
          s.enters t Pg.walker 0x26 (if k = 8 then Sev.fatal else Sev.degraded) Ag.hlp
            (k + e * 2 ^ 4 + bit (s.wk.failedOnce.contains (k.val, e.val)) * 2 ^ 13))) ∧
      (fail = true → (k.val, e.val) ∉ s.wk.failedOnce → t.wk.failedOnce = s.wk.failedOnce ++ [(k.val, e.val)] ∧
        t.repairs = s.repairs ∧ t.romFail = s.romFail ∧ t.tes = s.tes) ∧
      (fail = true → (k.val, e.val) ∈ s.wk.failedOnce → t.wk.failedOnce = s.wk.failedOnce.erase (k.val, e.val) ∧
        (k = 0 →
          let pair := (e.val - 44) % 20
          (∃ rs, t.repairs = s.repairs ++ ⟨En.region pair, 1, false, true, 0xFFFF, detail % 2 ^ 8⟩ :: rs ∧
            ((∀ q ∈ s.wk.running, q.pair ≠ pair) → rs = [])) ∧
          (detail % 128 = 64 → s.rgRd pair Rgn.MAP0 = 0x7F →
            t.rgRd pair Rgn.MAP0 = 64 ∧ t.rgRd (pair + 20) Rgn.MAP0 = 64)) ∧
        (k = 1 → t.repairs = s.repairs ++ [⟨e, 2, false, true, detail / 2 ^ 24, detail % 2 ^ 24⟩]) ∧
        (k = 2 ∨ k = 5 → s.blk e = St.spare → t.blk e = St.retired) ∧
        (k = 3 → 164 ≤ e.val → e.val < 268 → t.estate (e.val - 164) = Es.failed) ∧
        (k = 4 → 268 ≤ e.val → e.val < 280 → t.repairs = s.repairs ++ [⟨e, 5, false, true, 0, detail⟩] ∧
          t.shRd (e.val - 268) Shl.SPARES_FREE = (s.shRd (e.val - 268) Shl.SPARES_FREE - 1) %
            2 ^ Shl.SPARES_FREE.width) ∧
        (k = 6 → 320 ≤ e.val → e.val < 332 →
          let g := e.val - 320
          let lane := detail % 16
          let held := s.txRd g Tx.PARK_FIX = 1
          (held → t.repairs = s.repairs ++ [⟨e, 7, false, true, 0, lane + 2 ^ 4⟩] ∧
            t.txRd g Tx.PARK_PEND = s.txRd g Tx.PARK_PEND) ∧
          (¬ held → t.repairs = s.repairs ++ [⟨e, 7, false, false, 0, lane + 2 ^ 4⟩] ∧ t.txRd g Tx.PARK_FIX = 1 ∧
            t.txRd g Tx.PARK_NEXT = lane ∧ t.txRd g Tx.PARK_PEND = 1) ∧ t.flag (Pg.tx g) (irqBit 19) = true) ∧
        (k = 6 → 332 ≤ e.val → e.val < 344 →
          let g := e.val - 332
          let m := s.rxRd g Rx.FAIL_MASK
          ∀ lane, lane < 9 → detail % 16 = lane → bitOf m lane = 0 → t.rxRd g Rx.FAIL_MASK = (m + 2 ^ lane) % 2 ^ 9 ∧
            t.repairs = s.repairs ++ [⟨e, 7, false, decide (m ≠ 0), 0, lane⟩] ∧ t.flag (Pg.rx g) (irqBit 20) = true) ∧
        (k = 7 → t.repairs = s.repairs ++ [⟨En.network, 6, false, true, 0xFFFF, detail⟩] ∧
          t.rd Pg.network Net.SPARES_FREE = (s.rd Pg.network Net.SPARES_FREE - 1) % 2 ^ Net.SPARES_FREE.width ∧
          t.rd Pg.network Net.DEAD_WIRES = satAdd 16 (s.rd Pg.network Net.DEAD_WIRES) 1 % 2 ^ 16) ∧
        (k = 8 → t.romFail = true) ∧ (k = 9 → detail < 180 → t.ownState detail = 2) ∧
        (k = 9 → 180 ≤ detail → detail < 188 → t.thRd Thr.EXT_BROKEN (detail - 180) = 1) ∧
        (k = 10 → (t.wear (detail % 128)).ignored = true ∧ (t.wear (detail % 128)).alarm = false)))

/-- Wear, vias and the walker (R460 to R467, R474). At a quiet point a monitor whose block holds ENDURANCE steps its bias
towards its SLOW. A failed via takes the lowest of the four detours of its group that is free; without one a causeway signal is dead, and any
other failure costs a spare column, behind a remap that runs, or retires the region. LATCH_COMPARE makes the latches of a cluster row equal to their
copies in layer C and touches no other latch, and gives way to a staging and to a restage (R186, R464); ARRAY_WALK_READ writes a corrected word back, mends or poisons one that cannot
be corrected, and moves on one row. A struck working table costs a restart of the walker. -/
def Obligations.wearViasAndWalker : Prop :=
  (∀ (m : Fin 84) (s : State),
    (s.quietPoint = false ∨ (s.wear m).ignored = true ∨ s.wearEndurance m = false →
      Does (.wearStep m) s fun t => t = s) ∧
    (s.quietPoint = true → (s.wear m).ignored = false → s.wearEndurance m = true → Does (.wearStep m) s fun t =>
      let v := s.wear m
      (t.wear m).slow = v.slow ∧
      (t.wear m).bias = (if 100 < v.slow ∧ v.bias < 15 then v.bias + 1
        else if v.slow < -100 ∧ -30 < v.bias then v.bias - 1 else v.bias) ∧
      ((t.wear m).alarm = true ↔ 500 < v.slow ∧ (t.wear m).bias = 15) ∧
      ((t.wear m).alarm = true → v.alarm = false → t.flag Pg.walker (irqBit 22) = true ∧
        s.enters t Pg.walker 0x27 Sev.degraded Ag.hlp (m + fieldOf 16 v.slow * 2 ^ 7)) ∧
      ((t.wear m).alarm = false ∨ v.alarm = true → t = { s with wk := t.wk }) ∧
      (∀ n : Fin 84, n ≠ m → t.wear n = s.wear n) ∧ t.body = ({ s with wk := t.wk } : State).body)) ∧
  (∀ (pair : Fin 20) (layer : Fin 2) (group : Fin 4) (x : Fin 64) (r : Fin 320) (signal : Fin 64) (s : State),
    let i := if group = 3 then pair.val else pair.val + 20 * layer.val
    let spot := x.val + (if group = 2 then r.val / 2 * 2 else r.val) * 2 ^ 6 + group.val * 2 ^ 15
    let place := spot + signal.val * 2 ^ 18
    let free (d : Nat) : Prop := ∀ q ∈ s.repairs, q.entry = En.region i → q.kind = 2 → q.place % 2 ^ 18 = spot → q.spare ≠ d
    let none_ : Prop := ∀ d, d < 4 → ¬ free d
    let col := s.physColumn pair x
    (∀ d, d < 4 → free d → (∀ b, b < d → ¬ free b) → Does (.viaFail pair layer group x r signal) s fun t =>
      t.repairs = s.repairs ++ [⟨En.region i, 2, false, false, d, place⟩] ∧ t.flag Pg.walker (irqBit 23) = true ∧
      t.wb (En.region i) Wbe.REPAIR_COUNT = satAdd 16 (s.wb (En.region i) Wbe.REPAIR_COUNT) 1 ∧
      t.rd 0 Wbh.GEN = (s.rd 0 Wbh.GEN + 2) % 2 ^ Wbh.GEN.width ∧
      s.enters t Pg.walker 0x25 Sev.corrected Ag.hlp place ∧
      t.body = ({ s with repairs := t.repairs } : State).body) ∧
    (none_ → group = 3 →
      (∀ q ∈ s.repairs, q.entry ≠ En.region pair ∨ q.kind ≠ 3 ∨ q.place ≠ place) →
      Does (.viaFail pair layer group x r signal) s fun t =>
        t.repairs = s.repairs ++ [⟨En.region pair, 3, false, true, 0xFFFF, place⟩] ∧
        ∀ j, (j = pair.val ∨ j = pair.val + 20) → t.flag (Pg.region j) (irqBit 17) = true ∧
          t.rgRd j Rgn.CW_DEAD_CNT = (s.rgRd j Rgn.CW_DEAD_CNT + 1) % 2 ^ Rgn.CW_DEAD_CNT.width ∧
          (s.blk (En.region j) = St.usable ∨ s.blk (En.region j) = St.inUse → t.blk (En.region j) = St.degraded)) ∧
    (none_ → group = 3 → (∃ q ∈ s.repairs, q.entry = En.region pair ∧ q.kind = 3 ∧ q.place = place) →
      Does (.viaFail pair layer group x r signal) s fun t => t = s) ∧
    (none_ → group ≠ 3 → s.columnsFree pair ≠ 0 → s.rgRd pair Rgn.REMAP_PEND = 0 →
      Does (.viaFail pair layer group x r signal) s fun t => t.wk.running = s.wk.running ++ [⟨pair, col, layer, true, 0⟩] ∧
        ∀ j, (j = pair.val ∨ j = pair.val + 20) → t.rgRd j Rgn.REMAP_PEND = 1 ∧
          t.rgRd j Rgn.PEND_COL = col % 2 ^ Rgn.PEND_COL.width ∧ (t.rg pair).pendLayer = layer ∧ t.repairs = s.repairs) ∧
    (none_ → group ≠ 3 → s.columnsFree pair ≠ 0 → s.rgRd pair Rgn.REMAP_PEND = 1 → s.rgRd pair Rgn.PEND_COL ≠ col →
      (∀ q ∈ s.wk.remaps, q.pair ≠ pair.val ∨ q.col ≠ col) → Does (.viaFail pair layer group x r signal) s fun t =>
        t.wk = { s.wk with remaps := s.wk.remaps ++ [⟨pair, col, layer, true, 0⟩] } ∧ t = { s with wk := t.wk }) ∧
    (none_ → group ≠ 3 → s.columnsFree pair = 0 → s.blk (En.region i) = St.retired →
      Does (.viaFail pair layer group x r signal) s fun t => t = s) ∧
    (none_ → group ≠ 3 → s.columnsFree pair = 0 → s.blk (En.region i) ≠ St.retired →
      Does (.viaFail pair layer group x r signal) s fun t => t.blk (En.region i) = St.retired ∧
        t.blk (En.packer i) = St.retired ∧ t.blk (En.slab i) = St.retired ∧ t.blk (En.plane i) = St.retired)) ∧
  (∀ (i : Fin 40) (staged : Bool) (r : Fin 320) (s : State),
    s.laneWalks i = false ∨ s.isOn (En.region i) = false →
    (s.wk.outvoted = [] → Does (.latchCompare i staged r) s fun t => t = s) ∧
    (s.wk.outvoted ≠ [] → Does (.latchCompare i staged r) s fun t => t.wk = { s.wk with outvoted := [] } ∧
      t.wkRd Wk.VOTE_FIX_CNT = satAdd 16 (s.wkRd Wk.VOTE_FIX_CNT) s.wk.outvoted.length ∧
      t.body = ({ s with wk := t.wk } : State).body)) ∧
  (∀ (i : Fin 40) (staged : Bool) (r : Fin 320) (s : State), s.laneWalks i = true → s.isOn (En.region i) = true →
    s.wk.outvoted = [] → (∀ w, w < 8 → mget 0 s.wk.tables (8 * i + w) = 0) →
    let c := if staged then s.rgRd i Rgn.STG_CTX else s.liveCtx i
    let k := if staged then 1 - (s.rg i).active else (s.rg i).active
    let copy (x m : Nat) := mget {} s.cfg (cfgKey i c x m r)
    let yields := (s.rg i).staging ≠ none ∨ s.restageDue i = true
    s.ctxValid i c = true →
    (if staged then s.stgValid i = true else (s.rg i).live = true ∧ s.rgRd i Rgn.LIVE_UNSCRUBBED = 0) →
    (yields → Does (.latchCompare i staged r) s fun t => t = s) ∧
    (¬ yields → (∀ x m, x < 64 → m < 16 → (wordDecode (copy x m)).1 = .clean ∧ (wordDecode (copy x m)).2 < 2 ^ 64 ∧
      mget 0 s.latch (latchKey k i x m r) < 2 ^ 64) → Does (.latchCompare i staged r) s fun t =>
      (∀ x m, x < 64 → m < 16 → mget 0 t.latch (latchKey k i x m r) = (wordDecode (copy x m)).2) ∧
      (∀ q, (∀ x m, x < 64 → m < 16 → q ≠ latchKey k i x m r) → mget 0 t.latch q = mget 0 s.latch q) ∧
      t.cfg = s.cfg ∧ t.ff = s.ff ∧
      ((∃ x m, x < 64 ∧ m < 16 ∧ mget 0 s.latch (latchKey k i x m r) ≠ (wordDecode (copy x m)).2) →
        t.flag Pg.walker (irqBit 16) = true ∧ t.wkRd Wk.FIX_R = r ∧ t.wkRd Wk.FIX_REGION = i ∧
        t.wkRd Wk.FIX_SET = bit staged) ∧
      ((∀ x m, x < 64 → m < 16 → mget 0 s.latch (latchKey k i x m r) = (wordDecode (copy x m)).2) →
        t.latch = s.latch ∧ t.wkRd Wk.LATCH_FIX_CNT = s.wkRd Wk.LATCH_FIX_CNT) ∧
      t.wkRd Wk.CFG_PASS = if staged = false ∧ r = 319 then (s.wkRd Wk.CFG_PASS + 1) % 2 ^ 16 else s.wkRd Wk.CFG_PASS)) ∧
  (∀ (i : Fin 40) (s : State), s.laneWalks i = false → s.wk.outvoted = [] → Does (.arrayWalkRead i) s fun t => t = s) ∧
  (∀ (i : Fin 40) (s : State), s.laneWalks i = true → s.wk.outvoted = [] →
    (∀ w, w < 8 → mget 0 s.wk.tables (8 * i + w) = 0) →
    let row := mget 0 s.wk.at_ i
    let next := if row + 1 < 165120 then row + 1 else 0
    Does (.arrayWalkRead i) s fun t => mget 0 t.wk.at_ i = next ∧
      (row < 163840 → ∀ n, n < 16 →
        let q := cWordKey i (16 * row + n)
        match (wordDecode (mget {} s.cfg q)).1 with
        | .corrected => mget {} t.cfg q = wordBack (mget {} s.cfg q)
        | .uncorrectable => mget {} t.cfg q = poisonWord ∨ ∃ d, mget {} t.cfg q = cleanWord d
        | _ => mget {} t.cfg q = mget {} s.cfg q) ∧
      (∀ q, (∀ n, n < 16 → q ≠ cWordKey i (16 * row + n)) → mget {} t.cfg q = mget {} s.cfg q) ∧
      t.latch = s.latch ∧ t.ff = s.ff ∧
      t.wkRd Wk.C_PASS = if next = 0 then (s.wkRd Wk.C_PASS + 1) % 2 ^ 16 else s.wkRd Wk.C_PASS) ∧
  (∀ (i : Fin 40) (s : State), s.laneWalks i = true → s.wk.outvoted = [] → (s.tablesOk i).1 = false →
    Does (.arrayWalkRead i) s fun t => t.wkRd Wk.RESTARTING = 1 ∧ t.wk.at_ = [] ∧ t.wk.cands = [] ∧ t.wk.tables = [] ∧
      t.wkRd Wk.RESTART_CNT = satAdd 16 (s.wkRd Wk.RESTART_CNT) 1 ∧ t.flag Pg.walker (irqBit 18) = true ∧
      t.flag Pg.walker (irqBit 19) = true ∧ s.enters t Pg.walker 0x22 Sev.uncorrected Ag.hlp (i.val + 2 ^ 24) ∧
      t.body = ({ s with wk := t.wk } : State).body) ∧
  (∀ s : State, Does .walkerRestartDone s fun t => t.wkRd Wk.RESTARTING = 0 ∧ t.body = s.body ∧ t.logQ = s.logQ ∧
    s.onlyFields t [(Pg.walker, Wk.RESTARTING, 0)])

/-! ### Security (chapter 16) -/

/-- Envelopes (R484 to R488, Tables 16.3 to 16.5). The command of an envelope does nothing unless its opcode runs on its
channel. An envelope that fails a check is answered AUTH_FAILED with the number of the first check it fails, counted and
logged, and the sixteenth failure in a row locks SCP out; one that passes all has its counter remembered. The lockout ends
after its second. Every envelope leaves the memories of layers and engines alone. -/
def Obligations.envelopeChecks : Prop :=
  (∀ (i : Fin 3 → Instr) (p op n : Nat), isEnvelope i p op n → ∀ (ch : Fin 3) (s : State),
    ((s.chan (chanKey p ch)).run.all fun m => m.resp.isSome || opcodeOf m.words ≠ op) = true →
    Does (i ch) s fun t => t = s) ∧
  (∀ (i : Fin 3 → Instr) (p op n : Nat), isEnvelope i p op n → ∀ (ch : Fin 3) (m : MailCmd) (k : Nat) (s : State),
    (s.chan (chanKey p ch)).run = some m → m.resp = none → opcodeOf m.words = op →
    (s.failedChecks ch n m.words)[k]? = some true →
    (∀ j, j < k → (s.failedChecks ch n m.words)[j]? = some false) → Does (i ch) s fun t =>
      t.answered p ch m Res.authFailed [] ∧ t.scRd Scp.LAST_WHY = k + 1 ∧ t.scRd Scp.LAST_OPCODE = op ∧
      t.scRd Scp.AUTH_FAIL_CNT = satAdd 16 (s.scRd Scp.AUTH_FAIL_CNT) 1 ∧ t.flag (Pg.mailbox 2) (irqBit 16) = true ∧
      s.enters t (Pg.mailbox 2) 0x21 Sev.info (chanAgent ch) (k + 1 + op * 2 ^ 4) ∧
      t.scRd Scp.FAIL_RUN = min 16 (s.scRd Scp.FAIL_RUN + 1) ∧ t.scRd Scp.CTR_LAST = s.scRd Scp.CTR_LAST ∧
      (15 ≤ s.scRd Scp.FAIL_RUN → s.scRd Scp.SCP_STATE = 1 → t.scRd Scp.SCP_STATE = 3 ∧
        t.flag (Pg.mailbox 2) (irqBit 17) = true ∧ (s.logQ.length < 31 → s.enters t (Pg.mailbox 2) 0x22 Sev.degraded
          (chanAgent ch) (t.scRd Scp.AUTH_FAIL_CNT))) ∧
      (s.scRd Scp.FAIL_RUN < 15 ∨ s.scRd Scp.SCP_STATE ≠ 1 → t.scRd Scp.SCP_STATE = s.scRd Scp.SCP_STATE) ∧
      t.body = ({ s with chans := t.chans } : State).body ∧ s.onlyPages t [Pg.mailbox 2, Pg.log]) ∧
  (∀ (i : Fin 3 → Instr) (p op n : Nat), isEnvelope i p op n → ∀ (ch : Fin 3) (m : MailCmd) (s : State), s.verified p ch op n m → Does (i ch) s fun t =>
    (t.answered p ch m Res.ok [] ∨ t.answered p ch m Res.refused []) ∧
    t.scRd Scp.CTR_LAST = m.words.getD 4 0 % 2 ^ 32 ∧ t.scRd Scp.FAIL_RUN = 0 ∧
    t.scRd Scp.AUTH_FAIL_CNT = s.scRd Scp.AUTH_FAIL_CNT ∧ t.cfg = s.cfg ∧ t.latch = s.latch ∧ t.ff = s.ff ∧
    t.rb = s.rb ∧ t.ddr = s.ddr ∧ t.dm = s.dm ∧ t.im = s.im) ∧
  (∀ s : State, (s.scRd Scp.SCP_STATE = 3 → Does .lockoutEnd s fun t => t.scRd Scp.SCP_STATE = 1 ∧ t.body = s.body ∧
      t.logQ = s.logQ ∧ s.onlyFields t [(Pg.mailbox 2, Scp.SCP_STATE, 0)]) ∧
    (s.scRd Scp.SCP_STATE ≠ 3 → Does .lockoutEnd s fun t => t = s))

/-- What each verified envelope does, and when its processor refuses it (R428, R450, R457, R458, R489 to R491, R495):
RFENCE_SET, FORCE_LEVEL, THERM_LIMITS, SENSOR_MASK, POWER_LIMIT, SPARE_COMMIT, RETIRE, KEY_LOAD, KEY_REVOKE, PATCH,
EFUSE_POLICY and DEBUG_UNLOCK (a RETIRE while FUSE_WIN is 0 or with too few records is not fused: the model's choice, log
entry 147); and the plain command DEBUG_LOCK, which takes the debug port's claims and votes away. -/
def Obligations.protectedOperations : Prop :=
  (∀ (ch : Fin 3) (m : MailCmd) (s : State), s.verified 0 ch 0x8001 2 m → Does (.rfenceSet ch) s fun t =>
    let ws := m.words
    (s.streamOpen = true → s.refuses t 0 ch 0x8001 m ∧ t.ldRd Ld.RFENCE_LO = s.ldRd Ld.RFENCE_LO) ∧
    (s.streamOpen = false → t.accepts 0 ch m ∧ t.ldRd Ld.RFENCE_LO = argOf ws 0 % 2 ^ 32 ∧
      t.ldRd Ld.RFENCE_HI = bitsOf (argOf ws 1) 0 8 ∧ t.ldRd Ld.RFENCE_CTX = bitsOf (argOf ws 1) 8 8 ∧
      t.body = ({ s with chans := t.chans } : State).body ∧ t.logQ = s.logQ)) ∧
  (∀ (ch : Fin 3) (m : MailCmd) (s : State), s.verified 1 ch 0x8020 1 m → Does (.forceLevel ch) s fun t =>
    let d := bitsOf (argOf m.words 0) 0 9
    let level := bitsOf (argOf m.words 0) 9 2
    (270 ≤ d → s.refuses t 1 ch 0x8020 m ∧ t.doms = s.doms) ∧
    (d < 270 → t.accepts 1 ch m ∧ (∀ a, a < 8 → t.vote d a = min (s.vote d a) level) ∧
      t.flag Pg.power (irqBit 19) = true ∧ s.enters t Pg.power 0x21 Sev.info Ag.hlp (d + level * 2 ^ 9))) ∧
  (∀ (ch : Fin 3) (m : MailCmd) (s : State), s.verified 1 ch 0x8021 2 m → Does (.thermLimits ch) s fun t =>
    let w0 := argOf m.words 0
    let w1 := argOf m.words 1
    let ok := bitsOf w0 0 8 < bitsOf w0 8 8 ∧ bitsOf w0 8 8 < bitsOf w0 16 8 ∧ bitsOf w0 16 8 < s.thRd Thr.T_LIMIT ∧
      bitsOf w1 0 8 < bitsOf w1 8 8
    (ok → t.accepts 1 ch m ∧ t.thRd Thr.T_WARN = bitsOf w0 0 8 ∧ t.thRd Thr.T_THROT = bitsOf w0 8 8 ∧
      t.thRd Thr.T_SHED = bitsOf w0 16 8 ∧ t.thRd Thr.RATE_WARN = bitsOf w1 0 8 ∧ t.thRd Thr.RATE_ACT = bitsOf w1 8 8 ∧
      t.thRd Thr.HYST = bitsOf w1 16 4 ∧ t.body = ({ s with chans := t.chans } : State).body ∧ t.logQ = s.logQ) ∧
    (¬ ok → s.refuses t 1 ch 0x8021 m ∧ ∀ z ∈ [Thr.T_WARN, Thr.T_THROT, Thr.T_SHED, Thr.RATE_WARN, Thr.RATE_ACT, Thr.HYST],
      t.thRd z = s.thRd z)) ∧
  (∀ (ch : Fin 3) (m : MailCmd) (s : State), s.verified 1 ch 0x8022 1 m → Does (.sensorMask ch) s fun t =>
    let p := bitsOf (argOf m.words 0) 0 8
    let on := bitOf (argOf m.words 0) 8
    let masked := ((maskGroup p).filter fun q => q = p || s.thRd Thr.MASK q = 1).length
    let ok := p < 180 ∧ (on = 0 ∨ masked ≤ if 144 ≤ p then 1 else 4)
    (ok → t.accepts 1 ch m ∧ t.thRd Thr.MASK p = on ∧ t.body = ({ s with chans := t.chans } : State).body ∧
      t.thRd Thr.CFG_WIN = bit (t.windowOpen 72 (-5) 95) ∧ t.thRd Thr.FUSE_WIN = bit (t.windowOpen 0 15 60) ∧
      (t.thRd Thr.CFG_WIN = s.thRd Thr.CFG_WIN → t.thRd Thr.FUSE_WIN = s.thRd Thr.FUSE_WIN → t.logQ = s.logQ)) ∧
    (¬ ok → s.refuses t 1 ch 0x8022 m ∧ ∀ q : Fin 180, t.thRd Thr.MASK q = s.thRd Thr.MASK q)) ∧
  (∀ (ch : Fin 3) (m : MailCmd) (s : State), s.verified 1 ch 0x8023 1 m → Does (.powerLimit ch) s fun t =>
    let w := bitsOf (argOf m.words 0) 0 16
    (100 ≤ w ∧ w ≤ 650 → t.accepts 1 ch m ∧ t.pwRd Pwr.P_LIMIT = w ∧
      t.body = ({ s with chans := t.chans } : State).body ∧ t.logQ = s.logQ) ∧
    (w < 100 ∨ 650 < w → s.refuses t 1 ch 0x8023 m ∧ t.pwRd Pwr.P_LIMIT = s.pwRd Pwr.P_LIMIT)) ∧
  (∀ (ch : Fin 3) (m : MailCmd) (s : State), s.verified 1 ch 0x8030 0 m → Does (.spareCommit ch) s fun t =>
    let n := (s.repairs.filter fun r => !r.committed).length + s.uncommitted.length
    (s.thRd Thr.FUSE_WIN ≠ 0 → n ≤ s.wkRd Wk.EFUSE_FREE → s.wkRd Wk.EFUSE_FREE < 2 ^ 13 → t.accepts 1 ch m ∧ (∀ r ∈ t.repairs, r.committed = true) ∧
      t.repairs.length = s.repairs.length ∧ t.wkRd Wk.EFUSE_FREE = (s.wkRd Wk.EFUSE_FREE - n) % 2 ^ 13 ∧
      (∀ e ∈ s.uncommitted, t.wb e Wbe.COMMITTED = 1 ∧
        mget (0, 0xFFFF) t.sec.fused e = (s.blk e, s.wb e Wbe.LINK)) ∧
      s.enters t Pg.walker 0x28 Sev.info Ag.hlp (n % 2 ^ 32)) ∧
    (s.thRd Thr.FUSE_WIN = 0 ∨ s.wkRd Wk.EFUSE_FREE < n → t.repairs = s.repairs ∧ t.sec = s.sec ∧
      t.wkRd Wk.EFUSE_FREE = s.wkRd Wk.EFUSE_FREE ∧ t.answered 1 ch m Res.refused [] ∧
      (s.logQ.length < 31 → s.refuses t 1 ch 0x8030 m) ∧
      (s.thRd Thr.FUSE_WIN = 1 → s.enters t Pg.walker 0x29 Sev.info Ag.hlp (n % 2 ^ 32)))) ∧
  (∀ (ch : Fin 3) (m : MailCmd) (s : State), s.verified 1 ch 0x8031 1 m → Does (.retire ch) s fun t =>
    let e := bitsOf (argOf m.words 0) 0 16
    (354 ≤ e ∨ s.blk e = St.retired → s.refuses t 1 ch 0x8031 m ∧ ∀ f : Fin 354, t.blk f = s.blk f) ∧
    (e < 354 → s.blk e ≠ St.retired → t.accepts 1 ch m ∧ (∀ x ∈ retireSet e, t.blk x = St.retired) ∧
      (let es := (retireSet e).filter fun x => s.blk x ≠ St.retired
       let fuses := s.thRd Thr.FUSE_WIN = 1 ∧ es.length ≤ s.wkRd Wk.EFUSE_FREE
       (fuses → t.wkRd Wk.EFUSE_FREE = (s.wkRd Wk.EFUSE_FREE - es.length) % 2 ^ 13 ∧ ∀ x ∈ es, t.wb x Wbe.COMMITTED = 1 ∧
         mget (0, 0xFFFF) t.sec.fused x = (St.retired, t.wb x Wbe.LINK)) ∧
       (¬ fuses → t.sec.fused = s.sec.fused ∧ t.wkRd Wk.EFUSE_FREE = s.wkRd Wk.EFUSE_FREE)))) ∧
  (∀ (ch : Fin 3) (m : MailCmd) (s : State), s.verified 2 ch 0x8040 11 m → Does (.keyLoad ch) s fun t =>
    let w := argOf m.words 0
    let slot := bitsOf w 0 3
    let bad := slot = 0 ∨ (bitOf w 8 = 1 ↔ 4 ≤ slot) ∨ (slot ≤ 3 ∧ s.scRd Scp.VALID slot = 1) ∨
      (bitOf w 8 = 1 ∧ s.thRd Thr.FUSE_WIN = 0) ∨ s.streamOpen = true
    let new := keyUnwrap (s.keyBytes (bitsOf (m.words.getD 1 0) 0 3)) (((m.words.drop 6).take 10).flatMap leBytes)
    (bad ∨ new = none → s.refuses t 2 ch 0x8040 m ∧ t.keys = s.keys) ∧
    (∀ key, ¬ bad → new = some key → t.accepts 2 ch m ∧ mget 0 t.keys slot = beNat key ∧
      (∀ j, j ≠ slot → mget 0 t.keys j = mget 0 s.keys j) ∧ t.scRd Scp.VALID slot = 1 ∧
      t.scRd Scp.USE slot = bitsOf w 4 3 ∧ t.flag (Pg.mailbox 2) (irqBit 20) = true ∧
      s.enters t (Pg.mailbox 2) 0x24 Sev.info (chanAgent ch) slot)) ∧
  (∀ (ch : Fin 3) (m : MailCmd) (s : State), s.verified 2 ch 0x8041 1 m → Does (.keyRevoke ch) s fun t =>
    let slot := bitsOf (argOf m.words 0) 0 3
    (slot ≤ 3 ∨ s.streamOpen = true → s.refuses t 2 ch 0x8041 m ∧ t.keys = s.keys) ∧
    (4 ≤ slot → s.streamOpen = false → t.accepts 2 ch m ∧ mget 0 t.keys slot = 0 ∧ t.scRd Scp.VALID slot = 0 ∧
      t.scRd Scp.USE slot = 0 ∧ (∀ j, j ≠ slot → mget 0 t.keys j = mget 0 s.keys j) ∧
      s.enters t (Pg.mailbox 2) 0x24 Sev.info (chanAgent ch) (slot + 2 ^ 3))) ∧
  (∀ (ch : Fin 3) (m : MailCmd) (s : State), s.verified 2 ch 0x8042 10 m → Does (.patch ch) s fun t =>
    let p := bitsOf (argOf m.words 0) 0 2
    let n := argOf m.words 1
    let ok := 4 ≤ n ∧ n ≤ 32768 ∧ sha256 (s.patchBytes n) = ((m.words.drop 7).take 8).flatMap leBytes
    (¬ ok → s.refuses t 2 ch 0x8042 m ∧ t.sec = s.sec) ∧
    (ok → t.accepts 2 ch m ∧ mget 0 t.sec.patchLen p = n ∧
      (∀ k, k < ceilDiv n 4 → mget 0 t.sec.patches (8192 * p + k) = mget 0 s.sec.patchBuf k) ∧
      s.enters t (Pg.mailbox 2) 0x25 Sev.info (chanAgent ch) (p + ceilDiv n 4 * 2 ^ 2) ∧
      (p = 2 → t.sec.restartAfter = some ch.val) ∧
      (p ≠ 2 → (∀ c, c < 3 → t.chan (chanKey p c) = {}) ∧
        (s.logQ.length < 31 → s.enters t (Pg.mailbox p) 0x06 Sev.degraded Ag.hlp (p + 1))))) ∧
  (∀ (ch : Fin 3) (m : MailCmd) (s : State), s.verified 2 ch 0x8043 1 m → Does (.efusePolicy ch) s fun t =>
    let bits := bitsOf (argOf m.words 0) 0 4
    (s.thRd Thr.FUSE_WIN = 0 → s.refuses t 2 ch 0x8043 m ∧ t.scRd Scp.POLICY = s.scRd Scp.POLICY) ∧
    (s.thRd Thr.FUSE_WIN ≠ 0 → t.accepts 2 ch m ∧ t.scRd Scp.POLICY = (s.scRd Scp.POLICY ||| bits) % 2 ^ 4 ∧
      s.enters t (Pg.mailbox 2) 0x27 Sev.info (chanAgent ch) bits ∧
      t.body = ({ s with chans := t.chans } : State).body)) ∧
  (∀ (ch : Fin 3) (m : MailCmd) (s : State), s.verified 2 ch 0x8044 0 m → Does (.debugUnlock ch) s fun t =>
    (bitOf (s.scRd Scp.POLICY) 2 = 1 ∨ ch = 2 → s.refuses t 2 ch 0x8044 m ∧
      t.scRd Scp.DEBUG_OPEN = s.scRd Scp.DEBUG_OPEN) ∧
    (bitOf (s.scRd Scp.POLICY) 2 = 0 → ch ≠ 2 → t.accepts 2 ch m ∧ t.scRd Scp.DEBUG_OPEN = 1 ∧
      (s.scRd Scp.DEBUG_OPEN ≠ 1 → t.flag (Pg.mailbox 2) (irqBit 18) = true ∧
        s.enters t (Pg.mailbox 2) 0x26 Sev.info (chanAgent ch) 1) ∧
      t.body = ({ s with chans := t.chans } : State).body)) ∧
  (∀ (ch : Fin 3) (m : MailCmd) (n : Nat) (s : State), s.serving 2 ch 0x0045 n m →
    (n ≠ 0 → Does (.debugLock ch) s fun t => t.answered 2 ch m Res.badLength [] ∧ t = { s with chans := t.chans }) ∧
    (n = 0 → s.scRd Scp.DEBUG_OPEN = 0 → Does (.debugLock ch) s fun t => t.answered 2 ch m Res.ok [] ∧
      t = { s with chans := t.chans }) ∧
    (n = 0 → s.scRd Scp.DEBUG_OPEN = 1 → Does (.debugLock ch) s fun t => t.answered 2 ch m Res.ok [] ∧
      t.scRd Scp.DEBUG_OPEN = 0 ∧ t.flag (Pg.mailbox 2) (irqBit 18) = true ∧
      s.enters t (Pg.mailbox 2) 0x26 Sev.info (chanAgent ch) 0 ∧
      (∀ x, x < 1020 → s.claimed x = true → s.claimAgent x = Ag.debug → t.claimed x = false) ∧
      ∀ d, d < 270 → t.vote d Ag.debug = 0))

/-! ### The host bus and the pins (chapter 17) -/

/-- The host bus and the pins (R427, R504 to R514). A user access within sixteen lines is one request on the network, held
under a free tag until it is answered; a write of parts of words is counted and dropped; USER_TMO ends a request. A ring's
waiting event is written to host memory where there is room, its WP after it, and its vector is sent; RING_TMO discards it.
QUIESCE_N low in service stops the lanes and any stream, then saves the DDR4 channels and resets the flip-flops; its rise
returns the device to phase LOAD. A pin in mode 1 or 2 is claimed when its enable is set, and
keeps its owner until the enable is cleared (R58, R505, R518). A link that is lost takes the rings' events
and the host's claims along, and a debug port that leaves its claims and votes. How a user access becomes packets is the
model's reading (log entry 138). -/
def Obligations.hostBusAndPins : Prop :=
  (∀ (r : Fin 40) (off : BitVec 28) (n : Nat) (bs : List (BitVec 8)) (s : State),
    let ws := wordsOf8 (bs.map BitVec.toNat) bs.length
    let part := off.toNat % 8 ≠ 0 ∨ bs.length % 8 ≠ 0
    let lines := (off.toNat + n - 1) / 64 - off.toNat / 64 + 1
    let tags := ((List.range 256).filter fun g => !(s.usr.reqs.any fun q => q.tag = g)).length
    (∀ wr : Bool, (if wr then ¬ part ∧ bs ≠ [] else 0 < n) → Does (.userWindowAccess r off wr n bs) s fun t => ∃ rs,
      t.usr.reqs = s.usr.reqs ++ rs ∧ (∀ q ∈ rs, q.region = r.val ∧ q.wr = wr) ∧
      rs.length = min tags (if wr then ceilDiv (off.toNat / 8 % 8 + ws.length) 128 else ceilDiv lines 16)) ∧
    (part → Does (.userWindowAccess r off true n bs) s fun t => t.body = s.body ∧ t.logQ = s.logQ ∧
      t.peRd Pcie.USER_PARTIAL_CNT = satAdd 16 (s.peRd Pcie.USER_PARTIAL_CNT) 1 ∧
      s.onlyFields t [(Pg.pcie, Pcie.USER_PARTIAL_CNT, 0)]) ∧
    (n = 0 ∨ s.freeTag = none → Does (.userWindowAccess r off false n bs) s fun t => t = s) ∧
    (¬ part → bs = [] ∨ s.freeTag = none → Does (.userWindowAccess r off true n bs) s fun t => t = s) ∧
    (∀ g, s.freeTag = some g → ¬ part → bs ≠ [] → off.toNat / 8 % 8 + ws.length ≤ 128 →
      Does (.userWindowAccess r off true n bs) s fun t =>
        ({ s with usr := { s.usr with reqs := s.usr.reqs ++ [⟨g, r, true⟩] } } : State).sends t
          (userWritePacket r g (off.toNat / 8) ws).1) ∧
    (∀ g, s.freeTag = some g → 0 < n → lines ≤ 16 → Does (.userWindowAccess r off false n bs) s fun t =>
      ({ s with usr := { s.usr with reqs := s.usr.reqs ++ [⟨g, r, false⟩] } } : State).sends t
        ⟨Nw.req, 1, headerOf 0 (regionPlace r 1) pciePlace g + (lines - 1) * 2 ^ 36 + off.toNat / 64 * 64 * 2 ^ 40, []⟩)) ∧
  (∀ (r : Fin 40) (g : BitVec 8) (q : UserReq) (s : State), s.usr.reqs.find? (fun q => q.tag = g.toNat) = some q →
    q.region = r.val → s.peRd Pcie.USER_TMO ≠ 0 → Does (.userTimeout r g) s fun t =>
      t.usr = { s.usr with reqs := s.usr.reqs.filter (fun q => q.tag ≠ g.toNat), done := some ⟨r, g.toNat, false, []⟩ } ∧
      t.body = ({ s with usr := t.usr } : State).body ∧ (q.wr = true → t.regs = s.regs ∧ t.logQ = s.logQ) ∧
      (q.wr = false → t.peRd Pcie.USER_ABORT_CNT = satAdd 16 (s.peRd Pcie.USER_ABORT_CNT) 1 ∧
        t.flag Pg.pcie (irqBit 21) = true ∧ s.enters t Pg.pcie 0x24 Sev.info Ag.hlp (r.val + 7 * 2 ^ 6))) ∧
  (∀ (r : Fin 40) (g : BitVec 8) (s : State),
    s.peRd Pcie.USER_TMO = 0 ∨ (∀ q ∈ s.usr.reqs, q.tag ≠ g.toNat ∨ q.region ≠ r.val) →
    Does (.userTimeout r g) s fun t => t = s) ∧
  (∀ (r : Fin 4) (s : State), s.hostRing r = [] →
    (Does (.hostRingWrite r) s fun t => t = s) ∧ Does (.ringTimeout r) s fun t => t = s) ∧
  (∀ (r : Fin 4) (ws : List (Nat × Bool)) (es : List (List (Nat × Bool))) (s : State), s.hostRing r = ws :: es →
    let takes := s.linkTakes = true ∧ s.peRd Pcie.R_EN r ≠ 0
    let size := s.ringSize r
    let at_ (k : Nat) := (s.peRd Pcie.RBASE_HI r * 2 ^ 32 + s.peRd Pcie.RBASE_LO r) / 4096 * 512 +
      (s.peRd Pcie.WP r / 8 + k) % (size / 8)
    let wpa := (s.peRd Pcie.WPA_HI r * 2 ^ 32 + s.peRd Pcie.WPA_LO r) / 8
    let wp := (s.peRd Pcie.WP r + 8 * ws.length) % size
    let lost (t : State) : Prop := t.hostRing r = es ∧
      t.peRd Pcie.LINK_DISC_CNT = satAdd 16 (s.peRd Pcie.LINK_DISC_CNT) 1 ∧ t.usr.hostMem = s.usr.hostMem ∧
      t.body = ({ s with usr := t.usr } : State).body
    (¬ takes → Does (.hostRingWrite r) s lost ∧ Does (.ringTimeout r) s lost) ∧
    (takes → s.hostRoom r (8 * ws.length) = false →
      (Does (.hostRingWrite r) s fun t => t = s) ∧
      Does (.ringTimeout r) s fun t => t.hostRing r = es ∧ t.flag Pg.pcie (irqBit 20) = true ∧
        t.peRd Pcie.RING_FULL_CNT = satAdd 16 (s.peRd Pcie.RING_FULL_CNT) 1 ∧ t.usr.hostMem = s.usr.hostMem ∧
        (mget none s.lastLogs ((Pg.pcie * 256 + 0x23) * 2 ^ 16) ≠ some s.time64 →
          s.enters t Pg.pcie 0x23 Sev.info Ag.hlp r)) ∧
    (takes → s.hostRoom r (8 * ws.length) = true →
      let written (t : State) : Prop := t.hostRing r = es ∧ t.peRd Pcie.WP r = wp ∧
        t.peRd Pcie.R_EVENTS r = (s.peRd Pcie.R_EVENTS r + 1) % 2 ^ 32 ∧
        mget 0 t.usr.vectors (s.peRd Pcie.R_VEC r) = mget 0 s.usr.vectors (s.peRd Pcie.R_VEC r) + 1 ∧
        mget (0, false) t.usr.hostMem wpa = (wp, false) ∧
        (∀ k, k < ws.length → at_ k ≠ wpa → some (mget (0, false) t.usr.hostMem (at_ k)) = ws[k]?) ∧
        (∀ a, a ≠ wpa → (∀ k, k < ws.length → a ≠ at_ k) →
          mget (0, false) t.usr.hostMem a = mget (0, false) s.usr.hostMem a) ∧
        t.body = ({ s with usr := t.usr } : State).body ∧ t.logQ = s.logQ
      Does (.hostRingWrite r) s written ∧ Does (.ringTimeout r) s written)) ∧
  (∀ s : State, s.ldRd Ld.PHASE = 0 ∨ s.flag Pg.pcie Pcie.QUIESCED = true → Does .quiesce s fun t =>
    t = { s with usr := { s.usr with quiet := true } }) ∧
  (∀ s : State, s.ldRd Ld.PHASE ≠ 0 → s.flag Pg.pcie Pcie.QUIESCED = false → Does .quiesce s fun t =>
    t.usr.quiet = true ∧ t.flag Pg.pcie Pcie.QUIESCED = true ∧ t.flag Pg.pcie (irqBit 19) = true ∧
    (s.streamOpen = false → s.nothingBehind → s.enters t Pg.pcie 0x22 Sev.degraded Ag.hlp 0) ∧
    (s.logQ = [] → s.enters t Pg.pcie 0x22 Sev.degraded Ag.hlp 0) ∧
    (s.noSyncBehind → t.streamOpen = false ∧ t.cfg = s.cfg ∧ t.ff = s.ff ∧ t.latch = s.latch ∧
      (s.streamOpen = true → t.ldRd Ld.ABORTED = 1 ∧ t.ldRd Ld.WHY = Abort.host)) ∧
    (∀ g, g < 12 → (t.txg g).quiet = true) ∧ t.peRd Pcie.VDP_UP = 0) ∧
  (∀ s : State, s.flag Pg.pcie Pcie.QUIESCED = false ∨ s.flag Pg.pcie Pcie.QUIESCE_DONE = true →
    Does .quiesceDone s fun t => t = s) ∧
  (∀ s : State, s.flag Pg.pcie Pcie.QUIESCED = true → s.flag Pg.pcie Pcie.QUIESCE_DONE = false → s.usr.rose = false →
    Does .quiesceDone s fun t => t.flag Pg.pcie Pcie.QUIESCE_DONE = true ∧ t.tp.globalReset = true ∧
      t.tp.released = true ∧ t.ldRd Ld.CFG_ERR = 0 ∧
      (∀ c : Fin 8, s.isOn (En.ddr c) = true → t.flag (Pg.ddr c) Ddr.SELF_REFRESH = true) ∧
      (∀ i x r, i < 40 → x < 64 → r < 320 →
        mget 0 t.ff (ffKey i x r) = mget 0 (initOf i (s.latchSlots (s.rg i).active i)) (ffKey i x r)) ∧
      t.body = ({ s with tp := t.tp, ff := t.ff } : State).body ∧ t.logQ = s.logQ) ∧
  (∀ s : State, s.flag Pg.pcie Pcie.QUIESCED = true →
    let leaves (t : State) : Prop :=
      t.flag Pg.pcie Pcie.QUIESCED = false ∧ t.flag Pg.pcie Pcie.QUIESCE_DONE = false ∧ t.usr.quiet = false ∧
      t.usr.rose = false ∧ t.usr.held = false ∧
      (∀ d : Fin 8, s.isOn (En.ddr d) = true → t.flag (Pg.ddr d) Ddr.SELF_REFRESH = false) ∧
      (s.usr.held = true ∨ 4 ≤ s.ldRd Ld.PHASE → t.ldRd Ld.PHASE = 4 ∧ t.ldRd Ld.READY = 1 ∧ t.ldRd Ld.LOADED = 0) ∧
      (s.logQ.length < 31 → s.enters t Pg.pcie 0x22 Sev.degraded Ag.hlp 1) ∧ t.cfg = s.cfg
    (s.flag Pg.pcie Pcie.QUIESCE_DONE = false → s.usr.rose = true → Does .quiesceDone s leaves) ∧
    (s.flag Pg.pcie Pcie.QUIESCE_DONE = true → Does .quiesceRelease s leaves)) ∧
  (∀ s : State, s.flag Pg.pcie Pcie.QUIESCED = true → s.flag Pg.pcie Pcie.QUIESCE_DONE = false →
    Does .quiesceRelease s fun t => t = { s with usr := { s.usr with rose := true } }) ∧
  (∀ s : State, s.flag Pg.pcie Pcie.QUIESCED = false → Does .quiesceRelease s fun t => t.usr.quiet = false ∧
    t.usr.held = false ∧ (s.usr.held = true → t.ldRd Ld.PHASE = 4 ∧ t.ldRd Ld.READY = 1) ∧
    (s.usr.held = false → t.regs = s.regs) ∧ t.body = ({ s with usr := t.usr } : State).body ∧ t.logQ = s.logQ) ∧
  (∀ (ag : Agent) (p : Fin 192) (v : Word) (s : State), s.grants ag (Pg.gio (p.val / 24)) →
    let b := p.val / 24
    let j := p.val % 24
    let mode := v.toNat % 4
    let who := pinClaimant b mode ag
    let held := s.rd (Pg.gio b) Gio.EN j = 1 ∧ s.claimed (Reg.pin p) = true ∧ s.claimFeature (Reg.pin p) ≠ 2
    let claims := v.getLsb 11 = true ∧ (mode = 1 ∨ mode = 2) ∧ ¬ held
    let kept (t : State) : Prop := t.claimed (Reg.pin p) = s.claimed (Reg.pin p) ∧
      t.claimAgent (Reg.pin p) = s.claimAgent (Reg.pin p) ∧ t.claimFeature (Reg.pin p) = s.claimFeature (Reg.pin p) ∧
      t.logQ = s.logQ
    Does (.pinEnable ag p v) s fun t =>
      t.rd (Pg.gio b) Gio.PMODE j = mode ∧ t.rd (Pg.gio b) Gio.OUT j = (v.getLsb 2).toNat ∧
      t.rd (Pg.gio b) Gio.DRIVE j = bitsOf v.toNat 4 2 ∧ t.rd (Pg.gio b) Gio.PULL j = bitsOf v.toNat 6 2 ∧
      (v.getLsb 11 = false → t.rd (Pg.gio b) Gio.EN j = 0 ∧ t.logQ = s.logQ ∧
        (held → t.claimed (Reg.pin p) = false) ∧ (¬ held → kept t)) ∧
      (v.getLsb 11 = true → ¬ claims → t.rd (Pg.gio b) Gio.EN j = 1 ∧ kept t) ∧
      (claims → s.mayClaim (Reg.pin p) who.1 who.2 = true →
        t.rd (Pg.gio b) Gio.EN j = 1 ∧ t.claimed (Reg.pin p) = true ∧ t.claimAgent (Reg.pin p) = who.1 ∧
        t.claimFeature (Reg.pin p) = who.2 ∧ t.logQ = s.logQ) ∧
      (claims → s.mayClaim (Reg.pin p) who.1 who.2 = false →
        t.rd (Pg.gio b) Gio.EN j = 0 ∧ t.flag (Pg.gio b) Hdr.CLAIM_REFUSED = true ∧
        s.enters t (Pg.gio b) 0x01 Sev.info who.1
          (claimDetail (Reg.pin p) (s.claimAgent (Reg.pin p)) (s.claimFeature (Reg.pin p)))) ∧
      t.body = s.body) ∧
  (∀ (b : Fin 8) (s : State), s.rd (Pg.gio b) Gio.VIO_SEL < 4 →
    (Does (.vioMismatch b) s fun t => t.rd (Pg.gio b) Gio.VIO_OK = 0 ∧ t.flag (Pg.gio b) (irqBit 16) = true ∧
      s.enters t (Pg.gio b) 0x20 Sev.degraded Ag.hlp (s.rd (Pg.gio b) Gio.VIO_SEL) ∧ t.body = s.body ∧
      s.onlyFields t ([(Pg.gio b, Gio.VIO_OK, 0), (Pg.gio b, irqBit 16, 0)] ++ logFields (Pg.gio b))) ∧
    Does (.vioMatch b) s fun t => t.rd (Pg.gio b) Gio.VIO_OK = 1 ∧ t.body = s.body ∧ t.logQ = s.logQ ∧
      s.onlyFields t [(Pg.gio b, Gio.VIO_OK, 0)]) ∧
  (∀ s : State, s.peRd Pcie.LINK_SPEED = 0 → Does .pcieLinkDown s fun t => t = s) ∧
  (∀ s : State, s.peRd Pcie.LINK_SPEED ≠ 0 → Does .pcieLinkDown s fun t =>
    t.peRd Pcie.LINK_SPEED = 0 ∧ t.peRd Pcie.LINK_WIDTH = 0 ∧ t.flag Pg.pcie (irqBit 17) = true ∧
    s.enters t Pg.pcie 0x20 Sev.degraded Ag.hlp (s.peRd Pcie.LINK_SPEED % 2 ^ 32) ∧ t.peRd Pcie.VDP_UP = 0 ∧
    (∀ r, r < 4 → t.hostRing r = []) ∧
    t.peRd Pcie.LINK_DISC_CNT = satAdd 16 (s.peRd Pcie.LINK_DISC_CNT) (((List.range 4).map fun r => (s.hostRing r).length).sum) ∧
    (∀ x, x < 1020 → s.claimed x = true → s.claimAgent x = Ag.host → t.claimed x = false)) ∧
  (∀ (v : BitVec 4) (w : BitVec 5) (s : State),
    (s.peRd Pcie.LINK_SPEED ≠ 0 ∨ v = 0 ∨ 5 < v.toNat ∨ 16 < w.toNat ∨ s.usr.perst = true ∨ s.pllReady 2 = false ∨
      s.isOn En.pcie = false → Does (.pcieLinkUp v w) s fun t => t = s) ∧
    (s.peRd Pcie.LINK_SPEED = 0 → v ≠ 0 → v.toNat ≤ 5 → w.toNat ≤ 16 → s.usr.perst = false → s.pllReady 2 = true →
      s.isOn En.pcie = true → Does (.pcieLinkUp v w) s fun t => t.peRd Pcie.LINK_SPEED = v.toNat ∧
        t.peRd Pcie.LINK_WIDTH = w.toNat ∧ t.flag Pg.pcie (irqBit 16) = true ∧ t.usr = { s.usr with perstSince := false } ∧
        t.peRd Pcie.VDP_UP = (if s.flag Pg.pcie Pcie.QUIESCED = false ∧ s.tp.globalReset = false
          then s.peRd Pcie.VDP_EN % 2 ^ 4 else 0) ∧ t.body = ({ s with usr := t.usr } : State).body ∧ t.logQ = s.logQ)) ∧
  (∀ s : State, Does .debugDetach s fun t => (∀ d, d < 270 → t.vote d Ag.debug = 0) ∧
    (∀ x, x < 1020 → s.claimed x = true → s.claimAgent x = Ag.debug → t.claimed x = false) ∧ t.cfg = s.cfg ∧
    t.latch = s.latch ∧ t.ff = s.ff)
end

