-- ==== Sys2Proof/Laws/Ground.lean ====
section
/-! SUPPORT. Laws/Ground.lean: the operations that take another operation leave the queue and the keys as that leaves them. -/

namespace Sys2Proof.Machine

@[simp] theorem ground_pending_keys (s : State) : (s.pending, s.keys) = s.ground := rfl

/-- A record update is judged by its queue and its keys alone. -/
@[simp] theorem ground_mk
    pending fresh cycles regs bus shadow logQ chans doms gates plls trees ck tp ms ld pw rgs cfg latch ff
    restore sbank bm bmOut bmNext portIn portOut gio mgtLast rb rbOut ddr tes dm im mesh packers chns shallots
    gold arows usr wk txs rxs rxOut walks hots moves repairs paramErrs paramPar ceSums lastLogs points cchecks
    zones keys sec romFail :
    State.ground ⟨
      pending, fresh, cycles, regs, bus, shadow, logQ, chans, doms, gates, plls, trees, ck, tp, ms, ld, pw, rgs,
      cfg, latch, ff, restore, sbank, bm, bmOut, bmNext, portIn, portOut, gio, mgtLast, rb, rbOut, ddr, tes, dm,
      im, mesh, packers, chns, shallots, gold, arows, usr, wk, txs, rxs, rxOut, walks, hots, moves, repairs,
      paramErrs, paramPar, ceSums, lastLogs, points, cchecks, zones, keys, sec, romFail⟩ =
    (pending, keys) := rfl

@[simp] theorem ground_ite (c : Prop) [Decidable c] (a b : State) :
    (if c then a else b).ground = if c then a.ground else b.ground := apply_ite ..

@[simp] theorem elim_ground {α : Type} (o : Option α) (s : State) (f : α → State)
    (h : ∀ x, (f x).ground = s.ground) : (o.elim s f).ground = s.ground := by cases o <;> simp [h]

@[simp] theorem foldl_ground {α : Type} (xs : List α) (f : State → α → State) (s : State)
    (h : ∀ s x, (f s x).ground = s.ground) : (xs.foldl f s).ground = s.ground := by
  induction xs generalizing s with
  | nil => rfl
  | cons x xs ih => rw [List.foldl_cons, ih, h]

@[simp] theorem foldl_snd_ground {α β : Type} (xs : List α) (f : β × State → α → β × State) (a : β × State)
    (h : ∀ a x, (f a x).2.ground = a.2.ground) : (xs.foldl f a).2.ground = a.2.ground := by
  induction xs generalizing a with
  | nil => rfl
  | cons x xs ih => rw [List.foldl_cons, ih, h]

@[simp] theorem State.each_ground {α : Type} (s : State) (xs : List α) (f : α → State → State)
    (h : ∀ x s, (f x s).ground = s.ground) : (s.each xs f).ground = s.ground :=
  foldl_ground xs _ s fun s x => h x s

@[simp] theorem State.doIf_ground (s : State) (b : Bool) (f : State → State) (h : ∀ s, (f s).ground = s.ground) :
    (s.doIf b f).ground = s.ground := by
  unfold State.doIf
  split
  · exact h s
  · rfl

end Sys2Proof.Machine
end

