-- ==== Sys2Proof/Laws/Ops.lean ====
section
/-! SUPPORT. Laws/Ops.lean: what Machine/Ops.lean does to the queue and to the keys: nothing. -/

namespace Sys2Proof.Machine

@[simp] theorem State.wr_ground (s : State) (pg : Nat) (r : Row) (v : Nat) (i : Nat) :
    (State.wr s pg r v i).ground = s.ground := by simp [State.wr]

@[simp] theorem State.count_ground (s : State) (pg : Nat) (r : Row) (n : Nat) (i : Nat) :
    (State.count s pg r n i).ground = s.ground := by simp [State.count]

@[simp] theorem State.draw_ground (s : State) : (State.draw s).2.ground = s.ground := by simp [State.draw]

@[simp] theorem State.resetPage_ground (s : State) (pg : Nat) :
    (State.resetPage s pg).ground = s.ground := by simp [State.resetPage]

@[simp] theorem State.setDom_ground (s : State) (d : Nat) (v : Dom) :
    (State.setDom s d v).ground = s.ground := by simp [State.setDom]

@[simp] theorem State.setGate_ground (s : State) (e : Nat) (v : Gate) :
    (State.setGate s e v).ground = s.ground := by simp [State.setGate]

@[simp] theorem State.setPll_ground (s : State) (p : Nat) (v : Pll) :
    (State.setPll s p v).ground = s.ground := by simp [State.setPll]

@[simp] theorem State.setTree_ground (s : State) (t : Nat) (v : Tree) :
    (State.setTree s t v).ground = s.ground := by simp [State.setTree]

@[simp] theorem State.setChan_ground (s : State) (k : Nat) (v : Chan) :
    (State.setChan s k v).ground = s.ground := by simp [State.setChan]

@[simp] theorem State.irq_ground (s : State) (pg b : Nat) :
    (State.irq s pg b).ground = s.ground := by simp [State.irq]

@[simp] theorem State.logLost_ground (s : State) : (State.logLost s).ground = s.ground := by simp [State.logLost]

@[simp] theorem State.enqueue_ground (s : State) (r : LogRec) :
    (State.enqueue s r).ground = s.ground := by simp [State.enqueue]

@[simp] theorem State.log_ground (s : State) (pg code sev agent detail : Nat) :
    (State.log s pg code sev agent detail).ground = s.ground := by simp [State.log]

@[simp] theorem State.simultaneous_ground (s : State) (f : State → State) (hf : ∀ x0, (f x0).ground = x0.ground) :
    (State.simultaneous s f).ground = s.ground := by simp [State.simultaneous, hf]

@[simp] theorem State.logHw_ground (s : State) (pg code sev detail : Nat) :
    (State.logHw s pg code sev detail).ground = s.ground := by simp [State.logHw]

@[simp] theorem State.logOnce_ground (s : State) (pg code sev detail : Nat) (sub : Nat) :
    (State.logOnce s pg code sev detail sub).ground = s.ground := by simp [State.logOnce]

@[simp] theorem State.ignored_ground (s : State) (pg : Nat) :
    (State.ignored s pg).ground = s.ground := by simp [State.ignored]

@[simp] theorem State.lockRefused_ground (s : State) (pg off agent : Nat) :
    (State.lockRefused s pg off agent).ground = s.ground := by simp [State.lockRefused]

@[simp] theorem State.authRefused_ground (s : State) (pg off agent : Nat) :
    (State.authRefused s pg off agent).ground = s.ground := by simp [State.authRefused]

@[simp] theorem State.claimRefused_ground (s : State) (pg agent detail : Nat) :
    (State.claimRefused s pg agent detail).ground = s.ground := by simp [State.claimRefused]

@[simp] theorem State.setClaim_ground (s : State) (idx agent feature : Nat) (c : Bool) :
    (State.setClaim s idx agent feature c).ground = s.ground := by simp [State.setClaim]

@[simp] theorem State.unclaim_ground (s : State) (idx : Nat) :
    (State.unclaim s idx).ground = s.ground := by simp [State.unclaim]

@[simp] theorem State.refuseClaim_ground (s : State) (pg idx agent : Nat) :
    (State.refuseClaim s pg idx agent).ground = s.ground := by simp [State.refuseClaim]

@[simp] theorem State.setWb_ground (s : State) (e : Nat) (r : Row) (v : Nat) :
    (State.setWb s e r v).ground = s.ground := by simp [State.setWb]

@[simp] theorem State.wbStamp_ground (s : State) (c : WbChange) :
    (State.wbStamp s c).ground = s.ground := by simp [State.wbStamp]

@[simp] theorem State.wbNotify_ground (s : State) (c : WbChange) :
    (State.wbNotify s c).ground = s.ground := by simp [State.wbNotify]

@[simp] theorem State.wbUpdate_ground (s : State) (cs : List WbChange) (f : State → State) (hf : ∀ x0, (f x0).ground
    = x0.ground) :
    (State.wbUpdate s cs f).ground = s.ground := by simp [State.wbUpdate, hf]

@[simp] theorem State.countRepair_ground (s : State) (e : Nat) :
    (State.countRepair s e).ground = s.ground := by simp [State.countRepair]

@[simp] theorem State.treeShut_ground (s : State) (t : Nat) :
    (State.treeShut s t).ground = s.ground := by simp [State.treeShut]

@[simp] theorem State.refusedAccess_ground (s : State) (ag pg : Nat) (r : Resp) :
    (State.refusedAccess s ag pg r).ground = s.ground := by simp [State.refusedAccess]

@[simp] theorem State.access_ground (s : State) (ag pg : Nat) (f : State → State) (shown : Nat) (hf : ∀ x0, (f
    x0).ground = x0.ground) :
    (State.access s ag pg f shown).ground = s.ground := by unfold State.access; (repeat' split) <;> simp [hf]

@[simp] theorem State.answer_ground (s : State) (ag pg data : Nat) (poison : Bool) :
    (State.answer s ag pg data poison).ground = s.ground := by simp [State.answer]

@[simp] theorem State.shell_ground (s : State) (ag : Nat) (f : State → State) (hf : ∀ x0, (f x0).ground = x0.ground) :
    (State.shell s ag f).ground = s.ground := by simp [State.shell, hf]

@[simp] theorem State.put_ground (s : State) (pg : Nat) (r : Row) (word : Nat) (i : Nat) :
    (State.put s pg r word i).ground = s.ground := by simp [State.put]

end Sys2Proof.Machine
end

