-- ==== Sys2Proof/Laws/Votes.lean ====
section
/-! SUPPORT. Laws/Votes.lean: what Machine/Votes.lean does to the queue and to the keys: nothing. -/

namespace Sys2Proof.Machine

@[simp] theorem State.setSlots_ground (s : State) (d v : Nat) :
    (State.setSlots s d v).ground = s.ground := by simp [State.setSlots]

@[simp] theorem State.openBranches_ground (s : State) (e en : Nat) :
    (State.openBranches s e en).ground = s.ground := by simp [State.openBranches]

@[simp] theorem State.gateTo_ground (s : State) (e level : Nat) :
    (State.gateTo s e level).ground = s.ground := by simp [State.gateTo]

@[simp] theorem State.branchEdge_ground (s : State) :
    (State.branchEdge s).ground = s.ground := by simp [State.branchEdge]

@[simp] theorem State.followOne_ground (s : State) (d : Nat) :
    (State.followOne s d).ground = s.ground := by simp [State.followOne]

@[simp] theorem State.revoteOne_ground (s : State) (d : Nat) :
    (State.revoteOne s d).ground = s.ground := by simp [State.revoteOne]

@[simp] theorem State.hlpVotes_ground (s : State) (i : Nat) :
    (State.hlpVotes s i).ground = s.ground := by simp [State.hlpVotes]

@[simp] theorem State.follow_ground (s : State) (d : Nat) :
    (State.follow s d).ground = s.ground := by simp [State.follow]

@[simp] theorem State.revote_ground (s : State) (d : Nat) :
    (State.revote s d).ground = s.ground := by simp [State.revote]

@[simp] theorem State.wbRetire_ground (s : State) (cs : List WbChange) (f : State → State) (hf : ∀ x0, (f x0).ground
    = x0.ground) :
    (State.wbRetire s cs f).ground = s.ground := by simp [State.wbRetire, hf]

@[simp] theorem State.castVote_ground (s : State) (d a level : Nat) :
    (State.castVote s d a level).ground = s.ground := by simp [State.castVote]

@[simp] theorem State.closeGate_ground (s : State) (e : Nat) :
    (State.closeGate s e).ground = s.ground := by
  unfold State.closeGate
  cases treeOf e <;> dsimp only [Option.elim] <;> (repeat' split) <;> simp

@[simp] theorem State.abandonGate_ground (s : State) (e : Nat) :
    (State.abandonGate s e).ground = s.ground := by simp [State.abandonGate]

@[simp] theorem State.setWk_ground (s : State) (w : Walker) :
    (State.setWk s w).ground = s.ground := by simp [State.setWk]

@[simp] theorem State.sliceDeferred_ground (s : State) :
    (State.sliceDeferred s).ground = s.ground := by simp [State.sliceDeferred]

@[simp] theorem State.sliceEnd_ground (s : State) (c : Slice) :
    (State.sliceEnd s c).ground = s.ground := by simp [State.sliceEnd]

@[simp] theorem State.sliceCut_ground (s : State) (kind e : Nat) :
    (State.sliceCut s kind e).ground = s.ground := by simp [State.sliceCut]

end Sys2Proof.Machine
end

