-- ==== Sys2Proof/Laws/Mesh.lean ====
section
/-! SUPPORT. Laws/Mesh.lean: what Machine/Mesh.lean does to the queue and to the keys: nothing. -/

namespace Sys2Proof.Machine

@[simp] theorem State.setMesh_ground (s : State) (m : Mesh) :
    (State.setMesh s m).ground = s.ground := by simp [State.setMesh]

@[simp] theorem State.noSlot_ground (s : State) (p : Place) :
    (State.noSlot s p).ground = s.ground := by simp [State.noSlot]

@[simp] theorem State.injectCount_ground (s : State) (p : Packet) (w : Injected) (src : Place) :
    (State.injectCount s p w src).ground = s.ground := by unfold State.injectCount; (repeat' split) <;> simp

@[simp] theorem State.launch_ground (s : State) (p : Packet) (src : Place) :
    (State.launch s p src).ground = s.ground := by simp [State.launch]

@[simp] theorem State.inject_ground (s : State) (p : Packet) (src : Place) :
    (State.inject s p src).2.ground = s.ground := by simp [State.inject]

@[simp] theorem State.send_ground (s : State) (p : Packet) :
    (State.send s p).ground = s.ground := by simp [State.send]

@[simp] theorem State.respond_ground (s : State) (h op code : Nat) :
    (State.respond s h op code).ground = s.ground := by simp [State.respond]

@[simp] theorem State.setHome_ground (s : State) (k : Nat) (v : Home) :
    (State.setHome s k v).ground = s.ground := by simp [State.setHome]

@[simp] theorem State.invalidate_ground (s : State) (k line : Nat) :
    (State.invalidate s k line).ground = s.ground := by simp [State.invalidate]

@[simp] theorem State.share_ground (s : State) (k line i : Nat) :
    (State.share s k line i).2.ground = s.ground := by
  unfold State.share; dsimp only; (repeat' split) <;> simp (maxDischargeDepth := 6)

@[simp] theorem State.unshare_ground (s : State) (k line i : Nat) :
    (State.unshare s k line i).ground = s.ground := by simp [State.unshare]

@[simp] theorem State.checkFlit_ground (s : State) (h : Nat) (f : Flit) :
    (State.checkFlit s h f).2.ground = s.ground := by
  unfold State.checkFlit
  rw [State.doIf_ground, State.doIf_ground]
  · intro s; exact State.count_ground ..
  · intro s; rw [State.logHw_ground, State.irq_ground, State.count_ground]

@[simp] theorem State.checkFlits_ground (s : State) (h : Nat) (a1 : List Flit) :
    (State.checkFlits s h a1).2.ground = s.ground := by
  induction a1 generalizing s with
  | nil => rfl
  | cons x xs ih => simp [State.checkFlits, ih]

end Sys2Proof.Machine
end

