-- ==== Sys2Proof/Laws/Clocks.lean ====
section
/-! SUPPORT. Laws/Clocks.lean: what Machine/Clocks.lean does to the queue and to the keys: nothing. -/

namespace Sys2Proof.Machine

@[simp] theorem State.pllBegin_ground (s : State) (p : Nat) :
    (State.pllBegin s p).ground = s.ground := by simp [State.pllBegin]

@[simp] theorem State.pllLook_ground (s : State) (p : Nat) :
    (State.pllLook s p).ground = s.ground := by simp [State.pllLook]

@[simp] theorem State.overCeilEvent_ground (s : State) (t ag : Nat) :
    (State.overCeilEvent s t ag).ground = s.ground := by simp [State.overCeilEvent]

@[simp] theorem State.overCeil_ground (s : State) (t ag : Nat) :
    (State.overCeil s t ag).ground = s.ground := by simp [State.overCeil]

@[simp] theorem State.checkCeil_ground (s : State) (t : Nat) (image : Bool) (ag : Nat) :
    (State.checkCeil s t image ag).ground = s.ground := by unfold State.checkCeil; (repeat' split) <;> simp

@[simp] theorem State.switchRefused_ground (s : State) (t src reason : Nat) (ag : Nat) :
    (State.switchRefused s t src reason ag).ground = s.ground := by simp [State.switchRefused]

@[simp] theorem State.treeRequest_ground (s : State) (t src d : Nat) (ag : Nat) :
    (State.treeRequest s t src d ag).ground = s.ground := by
  unfold State.treeRequest; dsimp only; (repeat' split) <;> simp (maxDischargeDepth := 6)

@[simp] theorem State.clkGap_ground (s : State) (t gap : Nat) :
    (State.clkGap s t gap).ground = s.ground := by simp [State.clkGap]

@[simp] theorem State.treeRuns_ground (s : State) (t : Nat) :
    (State.treeRuns s t).ground = s.ground := by simp [State.treeRuns]

@[simp] theorem State.openTree_ground (s : State) (t : Nat) :
    (State.openTree s t).ground = s.ground := by unfold State.openTree; (repeat' split) <;> simp

@[simp] theorem State.readyFell_ground (s : State) (t : Nat) :
    (State.readyFell s t).ground = s.ground := by simp [State.readyFell]

@[simp] theorem State.readyGone_ground (s : State) (p : Nat) :
    (State.readyGone s p).ground = s.ground := by simp [State.readyGone]

@[simp] theorem State.pllFail_ground (s : State) (p : Nat) :
    (State.pllFail s p).ground = s.ground := by
  unfold State.pllFail; dsimp only; (repeat' split) <;> simp (maxDischargeDepth := 6)

@[simp] theorem State.pllLoss_ground (s : State) (p : Nat) :
    (State.pllLoss s p).ground = s.ground := by simp [State.pllLoss]

@[simp] theorem State.askTreeCloses_ground (s : State) :
    (State.askTreeCloses s).ground = s.ground := by simp [State.askTreeCloses]

@[simp] theorem State.pllEnWrite_ground (s : State) (p : Nat) (en : Bool) :
    (State.pllEnWrite s p en).ground = s.ground := by simp [State.pllEnWrite]

theorem execPllEnable_ground (ag : Agent) (p : Fin 20) (en : Bool) (s : State) :
    ∃ s', execPllEnable ag p en s = .next s' ∧ s'.ground = s.ground := ⟨_, rfl, by simp⟩

@[simp] theorem State.pllSetting_ground (s : State) (p refSel mult : Nat) (ag : Nat) :
    (State.pllSetting s p refSel mult ag).ground = s.ground := by unfold State.pllSetting; (repeat' split) <;> simp

theorem execPllSettingWrite_ground (ag : Agent) (p : Fin 20) (refSel : BitVec 2) (mult : BitVec 11) (s : State) :
    ∃ s', execPllSettingWrite ag p refSel mult s = .next s' ∧ s'.ground = s.ground := ⟨_, rfl, by simp⟩

@[simp] theorem State.mirrorWrite_ground (s : State) (p m : Nat) (ag : Nat) :
    (State.mirrorWrite s p m ag).ground = s.ground := by simp [State.mirrorWrite]

theorem execMirrorWrite_ground (ag : Agent) (p : Fin 20) (m : BitVec 5) (s : State) :
    ∃ s', execMirrorWrite ag p m s = .next s' ∧ s'.ground = s.ground := ⟨_, rfl, by simp⟩

theorem execPllLossOfLock_ground (p : Fin 20) (s : State) :
    ∃ s', execPllLossOfLock p s = .next s' ∧ s'.ground = s.ground := ⟨_, rfl, by simp⟩

@[simp] theorem State.refsReturn_ground (s : State) :
    (State.refsReturn s).ground = s.ground := by simp [State.refsReturn]

theorem execReferenceLoss_ground (p : Fin 20) (s : State) :
    ∃ s', execReferenceLoss p s = .next s' ∧ s'.ground = s.ground := ⟨_, rfl, by simp⟩

theorem execTimingPllRelockStart_ground (s : State) :
    ∃ s', execTimingPllRelockStart s = .next s' ∧ s'.ground = s.ground := ⟨_, rfl, by simp⟩

theorem execTreeOpen_ground (t : Fin 177) (s : State) :
    ∃ s', execTreeOpen t s = .next s' ∧ s'.ground = s.ground := ⟨_, rfl, by simp⟩

theorem execClockSwitchRequest_ground (ag : Agent) (t : Fin 177) (src div : BitVec 3) (s : State) :
    ∃ s', execClockSwitchRequest ag t src div s = .next s' ∧ s'.ground = s.ground := ⟨_, rfl, by simp⟩

theorem execClockSwitchDone_ground (t : Fin 177) (gap : Nat) (s : State) :
    ∃ s', execClockSwitchDone t gap s = .next s' ∧ s'.ground = s.ground := by
  unfold execClockSwitchDone; refine ⟨_, rfl, ?_⟩; (try simp (maxDischargeDepth := 6)); intros; (repeat' split) <;>
    (try simp (maxDischargeDepth := 6)) <;> intros <;> (repeat' split) <;> simp_all (maxDischargeDepth := 6)

theorem execOldStopped_ground (t : Fin 177) (gap : Nat) (s : State) :
    ∃ s', execOldStopped t gap s = .next s' ∧ s'.ground = s.ground := ⟨_, rfl, by simp⟩

theorem execDividerWrite_ground (ag : Agent) (t : Fin 177) (div : BitVec 3) (s : State) :
    ∃ s', execDividerWrite ag t div s = .next s' ∧ s'.ground = s.ground := ⟨_, rfl, by simp⟩

theorem execDividerApply_ground (t : Fin 177) (s : State) :
    ∃ s', execDividerApply t s = .next s' ∧ s'.ground = s.ground := by refine ⟨_, rfl, ?_⟩; (repeat' split) <;> simp

@[simp] theorem State.writeEnables_ground (s : State) (t en : Nat) :
    (State.writeEnables s t en).ground = s.ground := by simp [State.writeEnables]

theorem execGateRequest_ground (ag : Agent) (t : Fin 177) (enables : BitVec 9) (s : State) :
    ∃ s', execGateRequest ag t enables s = .next s' ∧ s'.ground = s.ground := ⟨_, rfl, by simp⟩

theorem execGateClose_ground (e : Fin 354) (s : State) :
    ∃ s', execGateClose e s = .next s' ∧ s'.ground = s.ground := ⟨_, rfl, by simp⟩

theorem execGateTimeout_ground (e : Fin 354) (s : State) :
    ∃ s', execGateTimeout e s = .next s' ∧ s'.ground = s.ground := ⟨_, rfl, by simp⟩

@[simp] theorem State.fcWrite_ground (s : State) (ag f w : Nat) :
    (State.fcWrite s ag f w).ground = s.ground := by simp [State.fcWrite]

theorem execFcStart_ground (ag : Agent) (f : Fin 16) (w0 : Word) (s : State) :
    ∃ s', execFcStart ag f w0 s = .next s' ∧ s'.ground = s.ground := ⟨_, rfl, by simp⟩

theorem execFcWindowEnd_ground (f : Fin 16) (edges : Word) (s : State) :
    ∃ s', execFcWindowEnd f edges s = .next s' ∧ s'.ground = s.ground := ⟨_, rfl, by simp⟩

theorem execBucketKhzUpdate_ground (khz : Word) (s : State) :
    ∃ s', execBucketKhzUpdate khz s = .next s' ∧ s'.ground = s.ground := ⟨_, rfl, by simp⟩

end Sys2Proof.Machine
end

