-- ==== Sys2Proof/Laws/MilestoneOps.lean ====
section
/-! SUPPORT. Laws/MilestoneOps.lean: what Machine/MilestoneOps.lean does to the queue and to the keys: nothing. -/

namespace Sys2Proof.Machine

@[simp] theorem State.setMe_ground (s : State) (e : Nat) (r : Row) (v : Nat) :
    (State.setMe s e r v).ground = s.ground := by simp [State.setMe]

@[simp] theorem State.setMap_ground (s : State) (r : Row) (e : Nat) :
    (State.setMap s r e).ground = s.ground := by simp [State.setMap]

@[simp] theorem State.setMs_ground (s : State) (m : Ms) :
    (State.setMs s m).ground = s.ground := by simp [State.setMs]

@[simp] theorem State.msDisarm_ground (s : State) (e : Nat) :
    (State.msDisarm s e).ground = s.ground := by simp [State.msDisarm]

@[simp] theorem State.msMissed_ground (s : State) (e why : Nat) :
    (State.msMissed s e why).ground = s.ground := by simp [State.msMissed]

@[simp] theorem State.missAbs_ground (s : State) (why : Nat) :
    (State.missAbs s why).ground = s.ground := by simp [State.missAbs]

@[simp] theorem State.missLen_ground (s : State) : (State.missLen s).ground = s.ground := by simp [State.missLen]

@[simp] theorem State.msStop_ground (s : State) : (State.msStop s).ground = s.ground := by simp [State.msStop]

@[simp] theorem State.msArm_ground (s : State) (ag e : Nat) :
    (State.msArm s ag e).ground = s.ground := by unfold State.msArm; (repeat' split) <;> simp

@[simp] theorem State.msFields_ground (s : State) (e w : Nat) :
    (State.msFields s e w).ground = s.ground := by simp [State.msFields]

@[simp] theorem State.msWrite0_ground (s : State) (ag e w : Nat) :
    (State.msWrite0 s ag e w).ground = s.ground := by simp [State.msWrite0]

@[simp] theorem State.msWriteN_ground (s : State) (e k w : Nat) :
    (State.msWriteN s e k w).ground = s.ground := by unfold State.msWriteN; (repeat' split) <;> simp

@[simp] theorem State.evaluate_ground (s : State) : (State.evaluate s).ground = s.ground := by simp [State.evaluate]

@[simp] theorem State.cmdTriggers_ground (s : State) (cmd : Nat) :
    (State.cmdTriggers s cmd).ground = s.ground := by simp [State.cmdTriggers]

@[simp] theorem State.msFail_ground (s : State) (e why : Nat) :
    (State.msFail s e why).ground = s.ground := by simp [State.msFail]

@[simp] theorem State.msFired_ground (s : State) (f : Firing) :
    (State.msFired s f).ground = s.ground := by simp [State.msFired]

@[simp] theorem State.fire_ground (s : State) (e a : Nat) (act : Firing → State → Bool × State) (hact : ∀ x0 x1, (act
    x0 x1).2.ground = x1.ground) :
    (State.fire s e a act).ground = s.ground := by unfold State.fire; (repeat' split) <;> simp [hact]

@[simp] theorem State.setTm_ground (s : State) (t : Nat) (r : Row) (v : Nat) :
    (State.setTm s t r v).ground = s.ground := by simp [State.setTm]

@[simp] theorem State.tmReload_ground (s : State) (t : Nat) :
    (State.tmReload s t).ground = s.ground := by simp [State.tmReload]

@[simp] theorem State.tickTimers_ground (s : State) (unit : Nat) :
    (State.tickTimers s unit).ground = s.ground := by simp [State.tickTimers]

@[simp] theorem State.tmWrite0_ground (s : State) (ag t w : Nat) :
    (State.tmWrite0 s ag t w).ground = s.ground := by simp [State.tmWrite0]

@[simp] theorem State.tmExpire_ground (s : State) (t : Nat) :
    (State.tmExpire s t).ground = s.ground := by simp [State.tmExpire]

end Sys2Proof.Machine
end

