-- ==== Sys2Proof/Laws/Timing.lean ====
section
/-! SUPPORT. Laws/Timing.lean: what Machine/Timing.lean does to the queue and to the keys: nothing. -/

namespace Sys2Proof.Machine

@[simp] theorem State.tpWr_ground (s : State) (r : Row) (v : Nat) :
    (State.tpWr s r v).ground = s.ground := by simp [State.tpWr]

@[simp] theorem State.setTp_ground (s : State) (t : Tp) :
    (State.setTp s t).ground = s.ground := by simp [State.setTp]

@[simp] theorem State.laybyLook_ground (s : State) :
    (State.laybyLook s).ground = s.ground := by simp [State.laybyLook]

@[simp] theorem State.setTurnLen_ground (s : State) (n : Nat) :
    (State.setTurnLen s n).ground = s.ground := by simp [State.setTurnLen]

@[simp] theorem State.laybyTake_ground (s : State) :
    (State.laybyTake s).ground = s.ground := by simp [State.laybyTake]

@[simp] theorem State.laybyWrite_ground (s : State) (v : Nat) :
    (State.laybyWrite s v).ground = s.ground := by simp [State.laybyWrite]

@[simp] theorem State.loadPending_ground (s : State) :
    (State.loadPending s).ground = s.ground := by simp [State.loadPending]

@[simp] theorem State.applyLoad_ground (s : State) (due : Nat × Nat → Bool) :
    (State.applyLoad s due).ground = s.ground := by
  unfold State.applyLoad; dsimp only; (repeat' split) <;> simp (maxDischargeDepth := 6)

@[simp] theorem State.timingCmd_ground (s : State) (cmd arg : Nat) :
    (State.timingCmd s cmd arg).ground = s.ground := by unfold State.timingCmd; (repeat' split) <;> simp

@[simp] theorem State.lockLost_ground (s : State) (st : Nat) :
    (State.lockLost s st).ground = s.ground := by simp [State.lockLost]

@[simp] theorem State.enterHoldover_ground (s : State) :
    (State.enterHoldover s).ground = s.ground := by simp [State.enterHoldover]

@[simp] theorem State.enterLocked_ground (s : State) (len : Nat) :
    (State.enterLocked s len).ground = s.ground := by simp [State.enterLocked]

@[simp] theorem State.huntMarker_ground (s : State) (k : Option Nat) :
    (State.huntMarker s k).ground = s.ground := by unfold State.huntMarker; (repeat' split) <;> simp

@[simp] theorem State.huntWord_ground (s : State) (good tm : Bool) (cmd arg : Nat) :
    (State.huntWord s good tm cmd arg).ground = s.ground := by
  unfold State.huntWord; dsimp only; (repeat' split) <;> simp (maxDischargeDepth := 6)

@[simp] theorem State.markerErr_ground (s : State) (tm : Bool) :
    (State.markerErr s tm).ground = s.ground := by simp [State.markerErr]

@[simp] theorem State.lockedWord_ground (s : State) (good tm : Bool) (cmd arg : Nat) :
    (State.lockedWord s good tm cmd arg).ground = s.ground := by simp [State.lockedWord]

@[simp] theorem State.holdWord_ground (s : State) (good tm : Bool) (cmd arg : Nat) :
    (State.holdWord s good tm cmd arg).ground = s.ground := by simp [State.holdWord]

@[simp] theorem State.wordHunt_ground (s : State) (good : Bool) :
    (State.wordHunt s good).ground = s.ground := by simp [State.wordHunt]

@[simp] theorem State.timingWord_ground (s : State) (w : Nat) :
    (State.timingWord s w).ground = s.ground := by unfold State.timingWord; (repeat' split) <;> simp

theorem execTimingWord_ground (w : Word) (s : State) :
    ∃ s', execTimingWord w s = .next s' ∧ s'.ground = s.ground := ⟨_, rfl, by simp⟩

theorem execCmdNop_ground (tm : Bool) (arg : BitVec 16) (s : State) :
    ∃ s', execCmdNop tm arg s = .next s' ∧ s'.ground = s.ground := ⟨_, rfl, by simp⟩

theorem execTurnLo_ground (tm : Bool) (arg : BitVec 16) (s : State) :
    ∃ s', execTurnLo tm arg s = .next s' ∧ s'.ground = s.ground := ⟨_, rfl, by simp⟩

theorem execTurnHi_ground (tm : Bool) (arg : BitVec 16) (s : State) :
    ∃ s', execTurnHi tm arg s = .next s' ∧ s'.ground = s.ground := ⟨_, rfl, by simp⟩

theorem execLaybyCancel_ground (tm : Bool) (arg : BitVec 16) (s : State) :
    ∃ s', execLaybyCancel tm arg s = .next s' ∧ s'.ground = s.ground := ⟨_, rfl, by simp⟩

theorem execUserCommand_ground (tm : Bool) (cmd : BitVec 8) (arg : BitVec 16) (s : State) :
    ∃ s', execUserCommand tm cmd arg s = .next s' ∧ s'.ground = s.ground := ⟨_, rfl, by simp⟩

theorem execTmgCkStart_ground (s : State) :
    ∃ s', execTmgCkStart s = .next s' ∧ s'.ground = s.ground := ⟨_, rfl, by simp⟩

theorem execTmgCkStop_ground (s : State) :
    ∃ s', execTmgCkStop s = .next s' ∧ s'.ground = s.ground := ⟨_, rfl, by simp⟩

theorem execHoldoverTimeout_ground (s : State) :
    ∃ s', execHoldoverTimeout s = .next s' ∧ s'.ground = s.ground := ⟨_, rfl, by simp⟩

@[simp] theorem State.busShift_ground (s : State) : (State.busShift s).ground = s.ground := by simp [State.busShift]

@[simp] theorem State.boundary_ground (s : State) :
    (State.boundary s).ground = s.ground := by
  unfold State.boundary; dsimp only; (repeat' split) <;> simp (maxDischargeDepth := 6)

@[simp] theorem State.turnLoad_ground (s : State) : (State.turnLoad s).ground = s.ground := by simp [State.turnLoad]

theorem execTurnLoad_ground (ag : Agent) (s : State) :
    ∃ s', execTurnLoad ag s = .next s' ∧ s'.ground = s.ground := ⟨_, rfl, by simp⟩

theorem execTurnLoaded_ground (s : State) :
    ∃ s', execTurnLoaded s = .next s' ∧ s'.ground = s.ground := ⟨_, rfl, by simp⟩

@[simp] theorem State.turnLenWrite_ground (s : State) (ag v : Nat) (rwl : Bool) :
    (State.turnLenWrite s ag v rwl).ground = s.ground := by simp [State.turnLenWrite]

theorem execTurnLenWrite_ground (ag : Agent) (v : BitVec 16) (s : State) :
    ∃ s', execTurnLenWrite ag v s = .next s' ∧ s'.ground = s.ground := ⟨_, rfl, by simp⟩

theorem execLaybyWrite_ground (ag : Agent) (v : Word) (s : State) :
    ∃ s', execLaybyWrite ag v s = .next s' ∧ s'.ground = s.ground := ⟨_, rfl, by simp⟩

theorem execLaybyApply_ground (s : State) :
    ∃ s', execLaybyApply s = .next s' ∧ s'.ground = s.ground := ⟨_, rfl, by simp⟩

theorem execCfgDoneRelease_ground (s : State) :
    ∃ s', execCfgDoneRelease s = .next s' ∧ s'.ground = s.ground := ⟨_, rfl, by simp⟩

theorem execCfgDoneSample_ground (othersLow : Bool) (s : State) :
    ∃ s', execCfgDoneSample othersLow s = .next s' ∧ s'.ground = s.ground := ⟨_, rfl, by simp⟩

@[simp] theorem State.pllReadyNow_ground (s : State) (p : Nat) :
    (State.pllReadyNow s p).ground = s.ground := by
  unfold State.pllReadyNow; dsimp only; (repeat' split) <;> simp (maxDischargeDepth := 6)

theorem execTimerEnable_ground (ag : Agent) (t : Fin 32) (w0 : Word) (s : State) :
    ∃ s', execTimerEnable ag t w0 s = .next s' ∧ s'.ground = s.ground := ⟨_, rfl, by simp⟩

theorem execTimerDisable_ground (ag : Agent) (t : Fin 32) (w0 : Word) (s : State) :
    ∃ s', execTimerDisable ag t w0 s = .next s' ∧ s'.ground = s.ground := ⟨_, rfl, by simp⟩

theorem execTimerRestart_ground (ag : Agent) (t : Fin 32) (s : State) :
    ∃ s', execTimerRestart ag t s = .next s' ∧ s'.ground = s.ground := ⟨_, rfl, by simp⟩

theorem execTimerExpiry_ground (t : Fin 32) (s : State) :
    ∃ s', execTimerExpiry t s = .next s' ∧ s'.ground = s.ground := ⟨_, rfl, by simp⟩

end Sys2Proof.Machine
end

