-- ==== Sys2Proof/Laws/Stores.lean ====
section
/-! SUPPORT. Laws/Stores.lean: what Machine/Stores.lean does to the queue and to the keys: nothing. -/

namespace Sys2Proof.Machine

@[simp] theorem State.setRg_ground (s : State) (i : Nat) (v : Rg) :
    (State.setRg s i v).ground = s.ground := by simp [State.setRg]

@[simp] theorem State.addRepair_ground (s : State) (r : Repair) :
    (State.addRepair s r).ground = s.ground := by simp [State.addRepair]

@[simp] theorem State.degrade_ground (s : State) (e reason : Nat) :
    (State.degrade s e reason).ground = s.ground := by simp [State.degrade]

@[simp] theorem State.ceSummary_ground (s : State) (pg arr code shift n : Nat) :
    (State.ceSummary s pg arr code shift n).ground = s.ground := by simp [State.ceSummary]

@[simp] theorem State.tellMove_ground (s : State) (st : Store) (row spare : Nat) (dead : Bool) :
    (State.tellMove s st row spare dead).ground = s.ground := by unfold State.tellMove; (repeat' split) <;> simp

@[simp] theorem State.showSpares_ground (s : State) (st : Store) :
    (State.showSpares s st).ground = s.ground := by unfold State.showSpares; (repeat' split) <;> simp

@[simp] theorem State.rowDead_ground (s : State) (st : Store) (row : Nat) :
    (State.rowDead s st row).ground = s.ground := by simp [State.rowDead]

@[simp] theorem State.moveRow_ground (s : State) (st : Store) (row : Nat) :
    (State.moveRow s st row).ground = s.ground := by simp [State.moveRow]

@[simp] theorem State.showHot_ground (s : State) (st : Store) :
    (State.showHot s st).ground = s.ground := by unfold State.showHot; (repeat' split) <;> simp

@[simp] theorem State.setHot_ground (s : State) (st : Store) (t : List Hot) :
    (State.setHot s st t).ground = s.ground := by simp [State.setHot]

@[simp] theorem State.hotEvict_ground (s : State) (st : Store) :
    (State.hotEvict s st).ground = s.ground := by unfold State.hotEvict; (repeat' split) <;> simp

@[simp] theorem State.hotWord_ground (s : State) (st : Store) (addr synd row : Nat) :
    (State.hotWord s st addr synd row).ground = s.ground := by
  unfold State.hotWord; dsimp only; (repeat' split) <;> simp (maxDischargeDepth := 6)

@[simp] theorem State.paramRead_ground (s : State) (e w : Nat) :
    (State.paramRead s e w).2.ground = s.ground := by
  unfold State.paramRead; dsimp only; (repeat' split) <;> simp (maxDischargeDepth := 6)

@[simp] theorem State.slabUe_ground (s : State) (i : Nat) (block : Bool) (unit sub : Nat) :
    (State.slabUe s i block unit sub).ground = s.ground := by simp [State.slabUe]

@[simp] theorem State.rbRead_ground (s : State) (i w : Nat) :
    (State.rbRead s i w).2.2.ground = s.ground := by
  unfold State.rbRead; dsimp only; (repeat' split) <;> simp (maxDischargeDepth := 6)

@[simp] theorem State.rbWrite_ground (s : State) (i w d : Nat) (poison : Bool) :
    (State.rbWrite s i w d poison).ground = s.ground := by simp [State.rbWrite]

@[simp] theorem State.ddrRead_ground (s : State) (c w : Nat) :
    (State.ddrRead s c w).2.2.ground = s.ground := by
  unfold State.ddrRead; dsimp only; (repeat' split) <;> simp (maxDischargeDepth := 6)

@[simp] theorem State.ddrWrite_ground (s : State) (c w d : Nat) (poison : Bool) :
    (State.ddrWrite s c w d poison).ground = s.ground := by simp [State.ddrWrite]

@[simp] theorem State.bmRead_ground (s : State) (i blk b : Nat) :
    (State.bmRead s i blk b).2.2.ground = s.ground := by
  unfold State.bmRead; dsimp only; (repeat' split) <;> simp (maxDischargeDepth := 6)

@[simp] theorem State.bmWrite_ground (s : State) (i blk b d : Nat) :
    (State.bmWrite s i blk b d).ground = s.ground := by simp [State.bmWrite]

@[simp] theorem State.sbRead_ground (s : State) (i bank x r b : Nat) :
    (State.sbRead s i bank x r b).2.2.ground = s.ground := by
  unfold State.sbRead; dsimp only; (repeat' split) <;> simp (maxDischargeDepth := 6)

@[simp] theorem State.sbWrite_ground (s : State) (i bank x r q : Nat) :
    (State.sbWrite s i bank x r q).ground = s.ground := by simp [State.sbWrite]

@[simp] theorem State.copyRow_ground (s : State) (st : Store) (row : Nat) :
    (State.copyRow s st row).ground = s.ground := by unfold State.copyRow; (repeat' split) <;> simp

@[simp] theorem State.rowSpared_ground (s : State) (store : Store) (unit : Nat) :
    (State.rowSpared s store unit).ground = s.ground := by simp [State.rowSpared]

theorem execRowSpareDone_ground (store : Store) (unit : Nat) (s : State) :
    ∃ s', execRowSpareDone store unit s = .next s' ∧ s'.ground = s.ground := ⟨_, rfl, by simp⟩

theorem execHotWordExpiry_ground (store : Store) (unit : Nat) (s : State) :
    ∃ s', execHotWordExpiry store unit s = .next s' ∧ s'.ground = s.ground := by
  refine ⟨_, rfl, ?_⟩; (repeat' split) <;> simp

end Sys2Proof.Machine
end

