-- ==== Sys2Proof/Laws/Contexts.lean ====
section
/-! SUPPORT. Laws/Contexts.lean: what Machine/Contexts.lean does to the queue and to the keys: nothing. -/

namespace Sys2Proof.Machine

@[simp] theorem State.rgWr_ground (s : State) (i : Nat) (r : Row) (v : Nat) (k : Nat) :
    (State.rgWr s i r v k).ground = s.ground := by simp [State.rgWr]

@[simp] theorem State.resetFfs_ground (s : State) (i : Nat) :
    (State.resetFfs s i).ground = s.ground := by simp [State.resetFfs]

@[simp] theorem State.regionSrst_ground (s : State) (i : Nat) :
    (State.regionSrst s i).ground = s.ground := by simp [State.regionSrst]

@[simp] theorem State.attRefused_ground (s : State) (i c k why : Nat) (ag : Nat) :
    (State.attRefused s i c k why ag).ground = s.ground := by simp [State.attRefused]

@[simp] theorem State.claimFifos_ground (s : State) (i c : Nat) :
    (State.claimFifos s i c).ground = s.ground := by
  exact State.each_ground _ _ _ fun k s => by
    dsimp only
    (repeat' split) <;> simp

@[simp] theorem State.releaseFifos_ground (s : State) (i staged : Nat) :
    (State.releaseFifos s i staged).ground = s.ground := by simp [State.releaseFifos]

@[simp] theorem State.attWrite_ground (s : State) (ag i c k v : Nat) :
    (State.attWrite s ag i c k v).ground = s.ground := by
  unfold State.attWrite; dsimp only; (repeat' split) <;> simp (maxDischargeDepth := 6)

@[simp] theorem State.liveUnscrubbed_ground (s : State) (i : Nat) :
    (State.liveUnscrubbed s i).ground = s.ground := by simp [State.liveUnscrubbed]

@[simp] theorem State.ctxSpoil_ground (s : State) (i c cause : Nat) :
    (State.ctxSpoil s i c cause).ground = s.ground := by simp [State.ctxSpoil]

@[simp] theorem State.ctxInvalid_ground (s : State) (i c cause : Nat) :
    (State.ctxInvalid s i c cause).ground = s.ground := by simp [State.ctxInvalid]

@[simp] theorem State.ctxLost_ground (s : State) (i c : Nat) :
    (State.ctxLost s i c).ground = s.ground := by simp [State.ctxLost]

@[simp] theorem State.fillInit_ground (s : State) (i c : Nat) :
    (State.fillInit s i c).ground = s.ground := by simp [State.fillInit]

@[simp] theorem State.ctxClose_ground (s : State) (i c : Nat) (bankWritten : Bool) :
    (State.ctxClose s i c bankWritten).ground = s.ground := by simp [State.ctxClose]

@[simp] theorem State.prefetch_ground (s : State) (i c : Nat) :
    (State.prefetch s i c).ground = s.ground := by simp [State.prefetch]

@[simp] theorem State.stageBegin_ground (s : State) (i c src : Nat) :
    (State.stageBegin s i c src).ground = s.ground := by simp [State.stageBegin]

@[simp] theorem State.stageRefused_ground (s : State) (i : Nat) (q : Req) (why : Nat) :
    (State.stageRefused s i q why).ground = s.ground := by simp [State.stageRefused]

@[simp] theorem State.stageTake_ground (s : State) (i : Nat) (q : Req) :
    (State.stageTake s i q).ground = s.ground := by simp [State.stageTake]

@[simp] theorem State.stageTry_ground (s : State) (i : Nat) (q : Req) :
    (State.stageTry s i q).2.ground = s.ground := by
  unfold State.stageTry
  split <;> simp

@[simp] theorem State.stageHeld_ground (s : State) (i : Nat) :
    (State.stageHeld s i).ground = s.ground := by unfold State.stageHeld; (repeat' split) <;> simp

@[simp] theorem State.stageOver_ground (s : State) (i : Nat) :
    (State.stageOver s i).ground = s.ground := by simp [State.stageOver]

@[simp] theorem State.stageEnd_ground (s : State) (i : Nat) :
    (State.stageEnd s i).ground = s.ground := by unfold State.stageEnd; (repeat' split) <;> simp

@[simp] theorem State.stagingEdge_ground (s : State) (i : Nat) :
    (State.stagingEdge s i).ground = s.ground := by unfold State.stagingEdge; (repeat' split) <;> simp

@[simp] theorem State.showPersist_ground (s : State) (pair : Nat) :
    (State.showPersist s pair).ground = s.ground := by simp [State.showPersist]

@[simp] theorem State.logConflict_ground (s : State) (pair : Nat) (c : Conflict) :
    (State.logConflict s pair c).ground = s.ground := by simp [State.logConflict]

@[simp] theorem State.settle_ground (s : State) (i : Nat) :
    (State.settle s i).ground = s.ground := by simp [State.settle]

@[simp] theorem State.cutRestage_ground (s : State) (i out inc : Nat) :
    (State.cutRestage s i out inc).ground = s.ground := by simp [State.cutRestage]

@[simp] theorem State.applyMap_ground (s : State) (i : Nat) :
    (State.applyMap s i).ground = s.ground := by simp [State.applyMap]

@[simp] theorem State.saveBank_ground (s : State) (i bank : Nat) (ffs : List (Nat × Nat)) :
    (State.saveBank s i bank ffs).ground = s.ground := by simp [State.saveBank]

@[simp] theorem State.switchNow_ground (s : State) (i c edge : Nat) :
    (State.switchNow s i c edge).ground = s.ground := by simp [State.switchNow]

@[simp] theorem State.switchRefusedCtx_ground (s : State) (i : Nat) (q : Req) (why : Nat) :
    (State.switchRefusedCtx s i q why).ground = s.ground := by simp [State.switchRefusedCtx]

@[simp] theorem State.switchTry_ground (s : State) (i : Nat) (q : Req) (edge : Nat) :
    (State.switchTry s i q edge).2.ground = s.ground := by
  unfold State.switchTry; (try dsimp only); (try simp (maxDischargeDepth := 6)); intros; (repeat' split) <;> (try
    simp (maxDischargeDepth := 6)) <;> intros <;> (repeat' split) <;> simp_all (maxDischargeDepth := 6)

@[simp] theorem State.captureNow_ground (s : State) (i edge : Nat) :
    (State.captureNow s i edge).ground = s.ground := by simp [State.captureNow]

@[simp] theorem State.captureTake_ground (s : State) (i : Nat) :
    (State.captureTake s i).ground = s.ground := by simp [State.captureTake]

@[simp] theorem State.regionAct_ground (f : Firing) (s : State) :
    (State.regionAct f s).2.ground = s.ground := by
  unfold State.regionAct; dsimp only; (repeat' split) <;> simp (maxDischargeDepth := 6)

@[simp] theorem State.regionFire_ground (s : State) (i a : Nat) :
    (State.regionFire s i a).ground = s.ground := by simp [State.regionFire]

@[simp] theorem State.captures_ground (s : State) (i : Nat) :
    (State.captures s i).ground = s.ground := by simp [State.captures]

@[simp] theorem State.switchReqs_ground (s : State) (i : Nat) (srcs : List Nat) (edge : Nat) :
    (State.switchReqs s i srcs edge).ground = s.ground := by simp [State.switchReqs]

@[simp] theorem State.edgeBefore_ground (s : State) (i a : Nat) :
    (State.edgeBefore s i a).ground = s.ground := by unfold State.edgeBefore; (repeat' split) <;> simp

@[simp] theorem State.regionMilestone_ground (s : State) (e a : Nat) :
    (State.regionMilestone s e a).ground = s.ground := by unfold State.regionMilestone; (repeat' split) <;> simp

theorem execCwConflict_ground (pair : Fin 20) (x : Fin 64) (r : Fin 320) (idx : Fin 64) (s : State) :
    ∃ s', execCwConflict pair x r idx s = .next s' ∧ s'.ground = s.ground := ⟨_, rfl, by simp⟩

@[simp] theorem State.restage_ground (s : State) (i x r : Nat) :
    (State.restage s i x r).ground = s.ground := by simp [State.restage]

theorem execRestageDone_ground (pair : Fin 20) (x : Fin 64) (r : Fin 320) (s : State) :
    ∃ s', execRestageDone pair x r s = .next s' ∧ s'.ground = s.ground := ⟨_, rfl, by simp⟩

@[simp] theorem State.bmPortRead_ground (s : State) (i blk : Nat) (wide : Bool) (p : BmPort) :
    (State.bmPortRead s i blk wide p).2.ground = s.ground := by
  unfold State.bmPortRead; dsimp only; (repeat' split) <;> simp (maxDischargeDepth := 6)

@[simp] theorem State.bmCollide_ground (s : State) (i blk : Nat) :
    (State.bmCollide s i blk).ground = s.ground := by simp [State.bmCollide]

@[simp] theorem State.bmAccess_ground (s : State) (i x k : Nat) (portA portB : BmPort) (out : State → Nat → Nat →
    State) (hout : ∀ x0 x1 x2, (out x0 x1 x2).ground = x0.ground) :
    (State.bmAccess s i x k portA portB out).ground = s.ground := by simp [State.bmAccess, hout]

theorem execBmPortAccess_ground (region : Fin 40) (x : Fin 64) (k : Fin 16) (portA portB : BmPort) (s : State) :
    ∃ s', execBmPortAccess region x k portA portB s = .next s' ∧ s'.ground = s.ground := by
  unfold execBmPortAccess
  refine ⟨_, rfl, ?_⟩
  dsimp only
  split
  · exact State.bmAccess_ground _ _ _ _ _ _ _ fun _ _ _ => rfl
  · rfl

@[simp] theorem State.voteStrobe_ground (s : State) (i domain level : Nat) :
    (State.voteStrobe s i domain level).ground = s.ground := by simp [State.voteStrobe]

theorem execFabricVoteStrobe_ground (region : Fin 40) (domain : BitVec 9) (level : BitVec 2) (s : State) :
    ∃ s', execFabricVoteStrobe region domain level s = .next s' ∧ s'.ground = s.ground := ⟨_, rfl, by simp⟩

theorem execAttachmentWrite_ground (ag : Agent) (region : Fin 40) (ctx : Fin 8) (n : Fin 16) (v : Word) (s : State) :
    ∃ s', execAttachmentWrite ag region ctx n v s = .next s' ∧ s'.ground = s.ground := ⟨_, rfl, by simp⟩

@[simp] theorem State.selfSwitch_ground (s : State) (i edge : Nat) :
    (State.selfSwitch s i edge).ground = s.ground := by simp [State.selfSwitch]

theorem execRemapApply_ground (pair : Fin 20) (edge : BitVec 16) (s : State) :
    ∃ s', execRemapApply pair edge s = .next s' ∧ s'.ground = s.ground := ⟨_, rfl, by simp⟩

@[simp] theorem State.captureReq_ground (s : State) (i : Nat) :
    (State.captureReq s i).ground = s.ground := by simp [State.captureReq]

@[simp] theorem State.captureAccess_ground (s : State) (ag i : Nat) (f : State → State) (shown : Nat) (hf : ∀ x0, (f
    x0).ground = x0.ground) :
    (State.captureAccess s ag i f shown).ground = s.ground := by simp [State.captureAccess, hf]

theorem execCaptureRequest_ground (ag : Agent) (region : Fin 40) (s : State) :
    ∃ s', execCaptureRequest ag region s = .next s' ∧ s'.ground = s.ground := ⟨_, rfl, by simp⟩

theorem execCapture_ground (region : Fin 40) (edge : BitVec 16) (s : State) :
    ∃ s', execCapture region edge s = .next s' ∧ s'.ground = s.ground := ⟨_, rfl, by simp⟩

@[simp] theorem State.stageReq_ground (s : State) (ag i c : Nat) :
    (State.stageReq s ag i c).ground = s.ground := by simp [State.stageReq]

@[simp] theorem State.switchReq_ground (s : State) (ag i c : Nat) :
    (State.switchReq s ag i c).ground = s.ground := by simp [State.switchReq]

theorem execStageRequest_ground (ag : Agent) (region : Fin 40) (ctx : Fin 8) (s : State) :
    ∃ s', execStageRequest ag region ctx s = .next s' ∧ s'.ground = s.ground := ⟨_, rfl, by simp⟩

theorem execSwitchRequest_ground (ag : Agent) (region : Fin 40) (ctx : Fin 8) (s : State) :
    ∃ s', execSwitchRequest ag region ctx s = .next s' ∧ s'.ground = s.ground := ⟨_, rfl, by simp⟩

@[simp] theorem State.clusterStage_ground (s : State) (i c : Nat) :
    (State.clusterStage s i c).ground = s.ground := by simp [State.clusterStage]

@[simp] theorem State.clusterSwitch_ground (s : State) (i c : Nat) :
    (State.clusterSwitch s i c).ground = s.ground := by simp [State.clusterSwitch]

theorem execFabricStageStrobe_ground (region : Fin 40) (ctx : Fin 8) (s : State) :
    ∃ s', execFabricStageStrobe region ctx s = .next s' ∧ s'.ground = s.ground := ⟨_, rfl, by simp⟩

theorem execFabricSwitchStrobe_ground (region : Fin 40) (ctx : Fin 8) (s : State) :
    ∃ s', execFabricSwitchStrobe region ctx s = .next s' ∧ s'.ground = s.ground := ⟨_, rfl, by simp⟩

@[simp] theorem State.stageApply_ground (s : State) (i : Nat) :
    (State.stageApply s i).ground = s.ground := by simp [State.stageApply]

theorem execStageApply_ground (region : Fin 40) (s : State) :
    ∃ s', execStageApply region s = .next s' ∧ s'.ground = s.ground := ⟨_, rfl, by simp⟩

theorem execStageDone_ground (region : Fin 40) (s : State) :
    ∃ s', execStageDone region s = .next s' ∧ s'.ground = s.ground := ⟨_, rfl, by simp⟩

@[simp] theorem State.switchApply_ground (s : State) (i edge : Nat) :
    (State.switchApply s i edge).ground = s.ground := by simp [State.switchApply]

theorem execSwitchApply_ground (region : Fin 40) (edge : BitVec 16) (s : State) :
    ∃ s', execSwitchApply region edge s = .next s' ∧ s'.ground = s.ground := ⟨_, rfl, by simp⟩

end Sys2Proof.Machine
end

