-- ==== Sys2Proof/Laws/Packer.lean ====
section
/-! SUPPORT. Laws/Packer.lean: what Machine/Packer.lean does to the queue and to the keys: nothing. -/

namespace Sys2Proof.Machine

@[simp] theorem State.pkWr_ground (s : State) (i : Nat) (r : Row) (v : Nat) :
    (State.pkWr s i r v).ground = s.ground := by simp [State.pkWr]

@[simp] theorem State.setPk_ground (s : State) (i : Nat) (p : Packer) :
    (State.setPk s i p).ground = s.ground := by simp [State.setPk]

@[simp] theorem State.addWide_ground (s : State) (pg : Nat) (lo hi : Row) (n : Nat) :
    (State.addWide s pg lo hi n).ground = s.ground := by simp [State.addWide]

@[simp] theorem State.evDrop_ground (s : State) (i why evno : Nat) :
    (State.evDrop s i why evno).ground = s.ground := by simp [State.evDrop]

@[simp] theorem State.descWrite_ground (s : State) (i d wmask : Nat) :
    (State.descWrite s i d wmask).ground = s.ground := by simp [State.descWrite]

@[simp] theorem State.packRead_ground (s : State) (i : Nat) (a1 : List Nat) :
    (State.packRead s i a1).2.ground = s.ground := by
  induction a1 generalizing s with
  | nil => rfl
  | cons a as ih =>
    unfold State.packRead
    dsimp only
    (repeat' split) <;> simp [ih]

@[simp] theorem State.workOn_ground (s : State) (i : Nat) (k : Desc) (f : Framing) (ws : List Nat) :
    (State.workOn s i k f ws).ground = s.ground := by simp [State.workOn]

@[simp] theorem State.dropRecord_ground (s : State) (i : Nat) (k : Desc) (f : Framing) :
    (State.dropRecord s i k f).ground = s.ground := by simp [State.dropRecord]

@[simp] theorem State.srcDone_ground (s : State) (i evno : Nat) :
    (State.srcDone s i evno).ground = s.ground := by simp [State.srcDone]

@[simp] theorem State.fallBack_ground (s : State) (i : Nat) (k : Desc) (addrs : List Nat) :
    (State.fallBack s i k addrs).ground = s.ground := by
  unfold State.fallBack
  (try dsimp only)
  (repeat' split) <;> first
    | (simp; done)
    | grind [State.packRead_ground, State.dropRecord_ground, State.workOn_ground, State.srcDone_ground,
    State.logHw_ground, State.irq_ground, State.count_ground, State.wr_ground]

@[simp] theorem State.packStart_ground (s : State) (i : Nat) :
    (State.packStart s i).ground = s.ground := by
  unfold State.packStart
  (try dsimp only)
  (repeat' split) <;> first
    | (simp; done)
    | grind [State.packRead_ground, State.dropRecord_ground, State.workOn_ground, State.srcDone_ground,
    State.fallBack_ground, State.setPk_ground, State.pkWr_ground]

@[simp] theorem State.trailerFormed_ground (s : State) (i : Nat) :
    (State.trailerFormed s i).ground = s.ground := by
  unfold State.trailerFormed; dsimp only; (repeat' split) <;> simp (maxDischargeDepth := 6)

@[simp] theorem State.eventSend_ground (s : State) (i : Nat) :
    (State.eventSend s i).ground = s.ground := by
  unfold State.eventSend
  (try dsimp only)
  (repeat' split) <;> first
    | (simp; done)
    | grind [State.inject_ground, State.addWide_ground, State.evDrop_ground, State.setPk_ground]

@[simp] theorem State.packSrst_ground (s : State) (i : Nat) :
    (State.packSrst s i).ground = s.ground := by simp [State.packSrst]

theorem execDescriptorWrite_ground (region : Fin 40) (d : BitVec 512) (wmask : BitVec 8) (s : State) :
    ∃ s', execDescriptorWrite region d wmask s = .next s' ∧ s'.ground = s.ground := ⟨_, rfl, by simp⟩

theorem execPackStart_ground (region : Fin 40) (s : State) :
    ∃ s', execPackStart region s = .next s' ∧ s'.ground = s.ground := ⟨_, rfl, by simp⟩

theorem execTrailerFormed_ground (region : Fin 40) (s : State) :
    ∃ s', execTrailerFormed region s = .next s' ∧ s'.ground = s.ground := ⟨_, rfl, by simp⟩

theorem execEventSend_ground (region : Fin 40) (s : State) :
    ∃ s', execEventSend region s = .next s' ∧ s'.ground = s.ground := ⟨_, rfl, by simp⟩

end Sys2Proof.Machine
end

