-- ==== Sys2Proof/Laws/HostOps.lean ====
section
/-! SUPPORT. Laws/HostOps.lean: what Machine/HostOps.lean does to the queue and to the keys: nothing. -/

namespace Sys2Proof.Machine

@[simp] theorem State.peWr_ground (s : State) (r : Row) (v : Nat) (i : Nat) :
    (State.peWr s r v i).ground = s.ground := by simp [State.peWr]

@[simp] theorem State.setUsr_ground (s : State) (u : Usr) :
    (State.setUsr s u).ground = s.ground := by simp [State.setUsr]

@[simp] theorem State.userReads_ground (s : State) (region line n : Nat) (a1 : Nat) :
    (State.userReads s region line n a1).ground = s.ground := by
  induction a1 generalizing s line n with
  | zero => rfl
  | succ m ih =>
    unfold State.userReads
    dsimp only
    (repeat' split) <;> first
      | (simp [ih]; done)
      | grind [State.send_ground, State.setUsr_ground]

@[simp] theorem State.userWrites_ground (s : State) (region at_ : Nat) (ws : List Nat) (a1 : Nat) :
    (State.userWrites s region at_ ws a1).ground = s.ground := by
  induction a1 generalizing s at_ ws with
  | zero => rfl
  | succ n ih =>
    unfold State.userWrites
    dsimp only
    (repeat' split) <;> first
      | (simp [ih]; done)
      | grind [State.send_ground, State.setUsr_ground]

@[simp] theorem State.userAccess_ground (s : State) (region off : Nat) (wr : Bool) (len : Nat) (bytes : List Nat) :
    (State.userAccess s region off wr len bytes).ground = s.ground := by simp [State.userAccess]

@[simp] theorem State.userEnd_ground (s : State) (t : Nat) (ok : Bool) (words : List (Nat × Bool)) :
    (State.userEnd s t ok words).ground = s.ground := by unfold State.userEnd; (repeat' split) <;> simp

@[simp] theorem State.userAbort_ground (s : State) (t code : Nat) :
    (State.userAbort s t code).ground = s.ground := by unfold State.userAbort; (repeat' split) <;> simp

@[simp] theorem State.userData_ground (s : State) (t : Nat) (flits : List (List Nat × Bool)) :
    (State.userData s t flits).ground = s.ground := by simp [State.userData]

@[simp] theorem State.setHostRing_ground (s : State) (r : Nat) (es : List (List (Nat × Bool))) :
    (State.setHostRing s r es).ground = s.ground := by simp [State.setHostRing]

@[simp] theorem State.ringFull_ground (s : State) (r : Nat) :
    (State.ringFull s r).ground = s.ground := by simp [State.ringFull]

@[simp] theorem State.hostEvent_ground (s : State) (i : Nat) (ws : List (Nat × Bool)) :
    (State.hostEvent s i ws).ground = s.ground := by simp [State.hostEvent]

@[simp] theorem State.hostRingWrite_ground (s : State) (r : Nat) :
    (State.hostRingWrite s r).ground = s.ground := by unfold State.hostRingWrite; (repeat' split) <;> simp

@[simp] theorem State.hostRingTimeout_ground (s : State) (r : Nat) :
    (State.hostRingTimeout s r).ground = s.ground := by unfold State.hostRingTimeout; (repeat' split) <;> simp

@[simp] theorem State.ringsLost_ground (s : State) :
    (State.ringsLost s).ground = s.ground := by simp [State.ringsLost]

@[simp] theorem State.ringCtl_ground (s : State) (r w : Nat) :
    (State.ringCtl s r w).ground = s.ground := by simp [State.ringCtl]

@[simp] theorem State.pinWrite_ground (s : State) (ag b i w : Nat) :
    (State.pinWrite s ag b i w).ground = s.ground := by simp [State.pinWrite]

theorem execPinEnable_ground (ag : Agent) (pin : Fin 192) (v : Word) (s : State) :
    ∃ s', execPinEnable ag pin v s = .next s' ∧ s'.ground = s.ground := ⟨_, rfl, by simp⟩

theorem execVioMismatch_ground (b : Fin 8) (s : State) :
    ∃ s', execVioMismatch b s = .next s' ∧ s'.ground = s.ground := ⟨_, rfl, by simp⟩

theorem execVioMatch_ground (b : Fin 8) (s : State) :
    ∃ s', execVioMatch b s = .next s' ∧ s'.ground = s.ground := ⟨_, rfl, by simp⟩

theorem execUserWindowAccess_ground (region : Fin 40) (off : BitVec 28) (wr : Bool) (len : Nat) (bytes : List (BitVec
    8)) (s : State) :
    ∃ s', execUserWindowAccess region off wr len bytes s = .next s' ∧ s'.ground = s.ground := ⟨_, rfl, by simp⟩

theorem execUserTimeout_ground (region : Fin 40) (tag : BitVec 8) (s : State) :
    ∃ s', execUserTimeout region tag s = .next s' ∧ s'.ground = s.ground := ⟨_, rfl, by simp⟩

theorem execHostRingWrite_ground (r : Fin 4) (s : State) :
    ∃ s', execHostRingWrite r s = .next s' ∧ s'.ground = s.ground := ⟨_, rfl, by simp⟩

theorem execRingTimeout_ground (r : Fin 4) (s : State) :
    ∃ s', execRingTimeout r s = .next s' ∧ s'.ground = s.ground := ⟨_, rfl, by simp⟩

end Sys2Proof.Machine
end

