-- ==== Sys2Proof/Laws/LoaderOps.lean ====
section
/-! SUPPORT. Laws/LoaderOps.lean: what Machine/LoaderOps.lean does to the queue and to the keys: nothing. -/

namespace Sys2Proof.Machine

@[simp] theorem State.ldWr_ground (s : State) (r : Row) (v : Nat) :
    (State.ldWr s r v).ground = s.ground := by simp [State.ldWr]

@[simp] theorem State.setLd_ground (s : State) (l : Ld) :
    (State.setLd s l).ground = s.ground := by simp [State.setLd]

@[simp] theorem State.setFence_ground (s : State) (lo hi ctx : Nat) :
    (State.setFence s lo hi ctx).ground = s.ground := by simp [State.setFence]

@[simp] theorem State.ldAbort_ground (s : State) (why chk : Nat) (far : Option Nat) :
    (State.ldAbort s why chk far).ground = s.ground := by simp [State.ldAbort]

@[simp] theorem State.newStream_ground (s : State) (src : Nat) :
    (State.newStream s src).ground = s.ground := by simp [State.newStream]

@[simp] theorem State.readbackGo_ground (s : State) :
    (State.readbackGo s).ground = s.ground := by simp [State.readbackGo]

end Sys2Proof.Machine
end

