-- ==== Sys2Proof/Laws/Engine.lean ====
section
/-! SUPPORT. Laws/Engine.lean: what Machine/Engine.lean does to the queue and to the keys: nothing. -/

namespace Sys2Proof.Machine

@[simp] theorem State.setTe_ground (s : State) (t : Nat) (v : Te) :
    (State.setTe s t v).ground = s.ground := by simp [State.setTe]

@[simp] theorem State.teWr_ground (s : State) (t : Nat) (r : Row) (v : Nat) (i : Nat) :
    (State.teWr s t r v i).ground = s.ground := by simp [State.teWr]

@[simp] theorem State.dmLane_ground (s : State) (t row lane : Nat) :
    (State.dmLane s t row lane).2.ground = s.ground := by
  unfold State.dmLane
  dsimp only
  split
  · exact ground_pending_keys s
  · exact ground_pending_keys s
  · exact (State.doIf_ground _ _ _ fun _ => State.hotWord_ground ..).trans
      ((State.count_ground ..).trans (ground_pending_keys s))
  · refine (State.logHw_ground ..).trans ((State.irq_ground ..).trans ((State.wr_ground ..).trans
      ((State.wr_ground ..).trans ((State.wr_ground ..).trans ((State.count_ground ..).trans ?_)))))
    exact ground_pending_keys s

@[simp] theorem State.dmLanes_ground (s : State) (t row j : Nat) (a1 : Nat) :
    (State.dmLanes s t row j a1).2.ground = s.ground := by
  induction a1 generalizing s j with
  | zero => rfl
  | succ n ih => simp [State.dmLanes, ih]

@[simp] theorem State.dmWrite_ground (s : State) (t row : Nat) (vs : List Lane) :
    (State.dmWrite s t row vs).ground = s.ground := by simp [State.dmWrite]

@[simp] theorem State.imRead_ground (s : State) (t a : Nat) :
    (State.imRead s t a).2.ground = s.ground := by
  unfold State.imRead; dsimp only; (repeat' split) <;> simp (maxDischargeDepth := 6)

@[simp] theorem State.dmWindowWrite_ground (s : State) (t row lane v : Nat) :
    (State.dmWindowWrite s t row lane v).ground = s.ground := by simp [State.dmWindowWrite]

@[simp] theorem State.imWindowWrite_ground (s : State) (t a : Nat) (high : Bool) (v : Nat) :
    (State.imWindowWrite s t a high v).ground = s.ground := by simp [State.imWindowWrite]

@[simp] theorem State.setFifo_ground (s : State) (t f : Nat) (x : Fifo) :
    (State.setFifo s t f x).ground = s.ground := by simp [State.setFifo]

@[simp] theorem State.fifoClose_ground (s : State) (t f : Nat) (last : Bool) :
    (State.fifoClose s t f last).ground = s.ground := by simp [State.fifoClose]

@[simp] theorem State.fifoIn_ground (s : State) (t f data : Nat) (wr last poison : Bool) :
    (State.fifoIn s t f data wr last poison).ground = s.ground := by simp [State.fifoIn]

@[simp] theorem State.fifoOut_ground (s : State) (t f : Nat) :
    (State.fifoOut s t f).ground = s.ground := by
  unfold State.fifoOut; dsimp only; (repeat' split) <;> simp (maxDischargeDepth := 6)

@[simp] theorem State.fifoPush_ground (s : State) (t f : Nat) (vs : List Lane) :
    (State.fifoPush s t f vs).ground = s.ground := by simp [State.fifoPush]

@[simp] theorem State.fifoPop_ground (s : State) (t f : Nat) :
    (State.fifoPop s t f).ground = s.ground := by
  unfold State.fifoPop; dsimp only; (repeat' split) <;> simp (maxDischargeDepth := 6)

@[simp] theorem State.fifoFlush_ground (s : State) (t f : Nat) :
    (State.fifoFlush s t f).ground = s.ground := by simp [State.fifoFlush]

@[simp] theorem State.teHaltNow_ground (s : State) (t : Nat) :
    (State.teHaltNow s t).ground = s.ground := by simp [State.teHaltNow]

@[simp] theorem State.teStart_ground (s : State) (t pc : Nat) :
    (State.teStart s t pc).ground = s.ground := by simp [State.teStart]

@[simp] theorem State.teStartRefused_ground (s : State) (t why ag : Nat) (milestone : Bool) :
    (State.teStartRefused s t why ag milestone).ground = s.ground := by simp [State.teStartRefused]

@[simp] theorem State.teTrapNow_ground (s : State) (t cause : Nat) :
    (State.teTrapNow s t cause).ground = s.ground := by simp [State.teTrapNow]

@[simp] theorem State.teClock_ground (s : State) (t : Nat) :
    (State.teClock s t).ground = s.ground := by simp [State.teClock]

@[simp] theorem State.teAdvance_ground (s : State) (t pc : Nat) :
    (State.teAdvance s t pc).ground = s.ground := by simp [State.teAdvance]

@[simp] theorem State.teJump_ground (s : State) (t a : Nat) :
    (State.teJump s t a).ground = s.ground := by simp [State.teJump]

@[simp] theorem State.teIssue_ground (s : State) (t op : Nat) (run : Nat → State → Nat ⊕ State) (hrun : ∀ x0 x1 y,
    run x0 x1 = .inr y → y.ground = x1.ground) :
    (State.teIssue s t op run).ground = s.ground := by
  unfold State.teIssue
  (try dsimp only)
  (repeat' split) <;> first
    | (simp; done)
    | grind [State.imRead_ground, State.teTrapNow_ground, State.setTe_ground, State.teWr_ground, State.teClock_ground]

@[simp] theorem State.teControl_ground (s : State) (t op : Nat) (f : Nat → State → State) (hf : ∀ x0 x1, (f x0
    x1).ground = x1.ground) :
    (State.teControl s t op f).ground = s.ground := by simp [State.teControl, hf]

@[simp] theorem State.setVreg_ground (s : State) (t v : Nat) (vs : List Lane) :
    (State.setVreg s t v vs).ground = s.ground := by simp [State.setVreg]

@[simp] theorem State.setAccs_ground (s : State) (t k : Nat) (vs : List Int) :
    (State.setAccs s t k vs).ground = s.ground := by simp [State.setAccs]

@[simp] theorem State.source_ground (s : State) (t sel : Nat) :
    (State.source s t sel).2.ground = s.ground := by unfold State.source; (repeat' split) <;> simp

@[simp] theorem State.sources_ground (s : State) (t : Nat) (a1 : List (Nat × Bool)) :
    (State.sources s t a1).2.ground = s.ground := by
  induction a1 generalizing s with
  | nil => rfl
  | cons x xs ih => simp [State.sources, ih]

@[simp] theorem State.storeTo_ground (s : State) (t d row : Nat) (vs : List Lane) :
    (State.storeTo s t d row vs).ground = s.ground := by simp [State.storeTo]

@[simp] theorem State.agTake_ground (s : State) (t : Nat) (us : List (Nat × Nat)) :
    (State.agTake s t us).ground = s.ground := by simp [State.agTake]

@[simp] theorem State.teVector_ground (s : State) (t op : Nat) (consumes : Bool) (f : Nat → List (List Lane) → Nat →
    State → State) (hf : ∀ x0 x1 x2 x3, (f x0 x1 x2 x3).ground = x3.ground) :
    (State.teVector s t op consumes f).ground = s.ground := by
  unfold State.teVector
  refine State.teIssue_ground _ _ _ _ fun i s y h => ?_
  revert h
  dsimp only
  (repeat' split) <;> intro h <;> cases h <;> simp [hf]

@[simp] theorem State.accWrite_ground (s : State) (t k : Nat) (zs : List Int) :
    (State.accWrite s t k zs).ground = s.ground := by simp [State.accWrite]

@[simp] theorem State.teLanes_ground (s : State) (t op : Nat) (f : Int → Int → Int) :
    (State.teLanes s t op f).ground = s.ground := by simp [State.teLanes]

@[simp] theorem State.teProduct_ground (s : State) (t op : Nat) (g : Int → Int → Int) :
    (State.teProduct s t op g).ground = s.ground := by simp [State.teProduct]

@[simp] theorem State.engineAct_ground (f : Firing) (s : State) :
    (State.engineAct f s).2.ground = s.ground := by unfold State.engineAct; (repeat' split) <;> simp

@[simp] theorem State.engineFireOn_ground (s : State) (n : Nat) (acts : List Nat) :
    (State.engineFireOn s n acts).ground = s.ground := by simp [State.engineFireOn]

@[simp] theorem State.engineFire_ground (s : State) (t : Nat) (acts : List Nat) :
    (State.engineFire s t acts).ground = s.ground := by simp [State.engineFire]

@[simp] theorem State.startGo_ground (s : State) (ag t pc : Nat) :
    (State.startGo s ag t pc).ground = s.ground := by simp [State.startGo]

theorem execStartGo_ground (ag : Agent) (te : Fin 104) (pc : BitVec 11) (s : State) :
    ∃ s', execStartGo ag te pc s = .next s' ∧ s'.ground = s.ground := ⟨_, rfl, by simp⟩

@[simp] theorem State.haltGo_ground (s : State) (t : Nat) :
    (State.haltGo s t).ground = s.ground := by simp [State.haltGo]

theorem execHaltGo_ground (ag : Agent) (te : Fin 104) (s : State) :
    ∃ s', execHaltGo ag te s = .next s' ∧ s'.ground = s.ground := ⟨_, rfl, by simp⟩

@[simp] theorem State.startApply_ground (s : State) (t : Nat) :
    (State.startApply s t).ground = s.ground := by
  unfold State.startApply; dsimp only; (repeat' split) <;> simp (maxDischargeDepth := 6)

theorem execTeStartApply_ground (te : Fin 104) (s : State) :
    ∃ s', execTeStartApply te s = .next s' ∧ s'.ground = s.ground := ⟨_, rfl, by simp⟩

theorem execTeHaltApply_ground (te : Fin 104) (s : State) :
    ∃ s', execTeHaltApply te s = .next s' ∧ s'.ground = s.ground := ⟨_, rfl, by simp⟩

theorem execTeNop_ground (te : Fin 104) (s : State) :
    ∃ s', execTeNop te s = .next s' ∧ s'.ground = s.ground := ⟨_, rfl, by simp⟩

theorem execTeHalt_ground (te : Fin 104) (s : State) :
    ∃ s', execTeHalt te s = .next s' ∧ s'.ground = s.ground := ⟨_, rfl, by simp⟩

theorem execTeWait_ground (te : Fin 104) (s : State) :
    ∃ s', execTeWait te s = .next s' ∧ s'.ground = s.ground := by
  unfold execTeWait
  refine ⟨_, rfl, State.teIssue_ground _ _ _ _ fun i s y h => ?_⟩
  revert h
  (try dsimp only)
  (repeat' split) <;> intro h <;> cases h <;> simp

theorem execWaitEnd_ground (te : Fin 104) (s : State) :
    ∃ s', execWaitEnd te s = .next s' ∧ s'.ground = s.ground := by refine ⟨_, rfl, ?_⟩; (repeat' split) <;> simp

theorem execTeLoop_ground (te : Fin 104) (s : State) :
    ∃ s', execTeLoop te s = .next s' ∧ s'.ground = s.ground := by
  unfold execTeLoop
  refine ⟨_, rfl, State.teIssue_ground _ _ _ _ fun i s y h => ?_⟩
  revert h
  (try dsimp only)
  (repeat' split) <;> intro h <;> cases h <;> simp

theorem execTeJmp_ground (te : Fin 104) (s : State) :
    ∃ s', execTeJmp te s = .next s' ∧ s'.ground = s.ground := ⟨_, rfl, by simp⟩

@[simp] theorem State.teBranch_ground (s : State) (t op : Nat) (taken : Nat → Bool) :
    (State.teBranch s t op taken).ground = s.ground := by simp [State.teBranch]

theorem execTeBrz_ground (te : Fin 104) (s : State) :
    ∃ s', execTeBrz te s = .next s' ∧ s'.ground = s.ground := ⟨_, rfl, by simp⟩

theorem execTeBrnz_ground (te : Fin 104) (s : State) :
    ∃ s', execTeBrnz te s = .next s' ∧ s'.ground = s.ground := ⟨_, rfl, by simp⟩

theorem execTeSli_ground (te : Fin 104) (s : State) :
    ∃ s', execTeSli te s = .next s' ∧ s'.ground = s.ground := ⟨_, rfl, by simp⟩

theorem execTeSadd_ground (te : Fin 104) (s : State) :
    ∃ s', execTeSadd te s = .next s' ∧ s'.ground = s.ground := ⟨_, rfl, by simp⟩

theorem execTeSetag_ground (te : Fin 104) (s : State) :
    ∃ s', execTeSetag te s = .next s' ∧ s'.ground = s.ground := ⟨_, rfl, by simp⟩

theorem execTeSetagr_ground (te : Fin 104) (s : State) :
    ∃ s', execTeSetagr te s = .next s' ∧ s'.ground = s.ground := ⟨_, rfl, by simp⟩

theorem execTeGetag_ground (te : Fin 104) (s : State) :
    ∃ s', execTeGetag te s = .next s' ∧ s'.ground = s.ground := ⟨_, rfl, by simp⟩

theorem execTePushctl_ground (te : Fin 104) (s : State) :
    ∃ s', execTePushctl te s = .next s' ∧ s'.ground = s.ground := by
  unfold execTePushctl
  refine ⟨_, rfl, State.teControl_ground _ _ _ _ fun i s => ?_⟩
  dsimp only
  rw [State.setTe_ground]
  split <;> simp

theorem execTeRtag_ground (te : Fin 104) (s : State) :
    ∃ s', execTeRtag te s = .next s' ∧ s'.ground = s.ground := ⟨_, rfl, by simp⟩

theorem execTeRtt_ground (te : Fin 104) (s : State) :
    ∃ s', execTeRtt te s = .next s' ∧ s'.ground = s.ground := by
  unfold execTeRtt
  refine ⟨_, rfl, State.teIssue_ground _ _ _ _ fun i s y h => ?_⟩
  revert h
  (try dsimp only)
  (repeat' split) <;> intro h <;> cases h <;> simp

theorem execTeTrap_ground (te : Fin 104) (s : State) :
    ∃ s', execTeTrap te s = .next s' ∧ s'.ground = s.ground := ⟨_, rfl, by simp⟩

theorem execTeMac_ground (te : Fin 104) (s : State) :
    ∃ s', execTeMac te s = .next s' ∧ s'.ground = s.ground := ⟨_, rfl, by simp⟩

theorem execTeMsu_ground (te : Fin 104) (s : State) :
    ∃ s', execTeMsu te s = .next s' ∧ s'.ground = s.ground := ⟨_, rfl, by simp⟩

theorem execTeMul_ground (te : Fin 104) (s : State) :
    ∃ s', execTeMul te s = .next s' ∧ s'.ground = s.ground := ⟨_, rfl, by simp⟩

theorem execTeClra_ground (te : Fin 104) (s : State) :
    ∃ s', execTeClra te s = .next s' ∧ s'.ground = s.ground := ⟨_, rfl, by simp⟩

theorem execTeLda_ground (te : Fin 104) (s : State) :
    ∃ s', execTeLda te s = .next s' ∧ s'.ground = s.ground := ⟨_, rfl, by simp⟩

@[simp] theorem State.staStore_ground (s : State) (t i row hiRow : Nat) :
    (State.staStore s t i row hiRow).ground = s.ground := by simp [State.staStore]

theorem execTeSta_ground (te : Fin 104) (s : State) :
    ∃ s', execTeSta te s = .next s' ∧ s'.ground = s.ground := by
  unfold execTeSta
  refine ⟨_, rfl, State.teIssue_ground _ _ _ _ fun i s y h => ?_⟩
  revert h
  (try dsimp only)
  (repeat' split) <;> intro h <;> cases h <;> simp

theorem execTeAddv_ground (te : Fin 104) (s : State) :
    ∃ s', execTeAddv te s = .next s' ∧ s'.ground = s.ground := ⟨_, rfl, by simp⟩

theorem execTeSubv_ground (te : Fin 104) (s : State) :
    ∃ s', execTeSubv te s = .next s' ∧ s'.ground = s.ground := ⟨_, rfl, by simp⟩

theorem execTeMaxv_ground (te : Fin 104) (s : State) :
    ∃ s', execTeMaxv te s = .next s' ∧ s'.ground = s.ground := ⟨_, rfl, by simp⟩

theorem execTeMinv_ground (te : Fin 104) (s : State) :
    ∃ s', execTeMinv te s = .next s' ∧ s'.ground = s.ground := ⟨_, rfl, by simp⟩

theorem execTeAbsv_ground (te : Fin 104) (s : State) :
    ∃ s', execTeAbsv te s = .next s' ∧ s'.ground = s.ground := ⟨_, rfl, by simp⟩

theorem execTeMov_ground (te : Fin 104) (s : State) :
    ∃ s', execTeMov te s = .next s' ∧ s'.ground = s.ground := ⟨_, rfl, by simp⟩

theorem execTeExpa_ground (te : Fin 104) (s : State) :
    ∃ s', execTeExpa te s = .next s' ∧ s'.ground = s.ground := ⟨_, rfl, by simp⟩

theorem execTeNorma_ground (te : Fin 104) (s : State) :
    ∃ s', execTeNorma te s = .next s' ∧ s'.ground = s.ground := ⟨_, rfl, by simp⟩

theorem execTeBfpa_ground (te : Fin 104) (s : State) :
    ∃ s', execTeBfpa te s = .next s' ∧ s'.ground = s.ground := by
  unfold execTeBfpa
  refine ⟨_, rfl, State.teVector_ground _ _ _ _ _ fun i vs row s => ?_⟩
  rw [State.teWr_ground, State.setAccs_ground]

theorem execTeClrp_ground (te : Fin 104) (s : State) :
    ∃ s', execTeClrp te s = .next s' ∧ s'.ground = s.ground := ⟨_, rfl, by simp⟩

theorem execIllegalInstruction_ground (te : Fin 104) (s : State) :
    ∃ s', execIllegalInstruction te s = .next s' ∧ s'.ground = s.ground := by
  unfold execIllegalInstruction
  refine ⟨_, rfl, ?_⟩
  (try dsimp only)
  (repeat' split) <;> first
    | (simp; done)
    | grind [State.imRead_ground, State.teTrapNow_ground]

@[simp] theorem State.fifoWrite_ground (s : State) (i n f data : Nat) (wr last poison : Bool) :
    (State.fifoWrite s i n f data wr last poison).ground = s.ground := by simp [State.fifoWrite]

@[simp] theorem State.fifoRead_ground (s : State) (i n f : Nat) :
    (State.fifoRead s i n f).ground = s.ground := by simp [State.fifoRead]

theorem execFifoWrite_ground (region : Fin 40) (lte : Fin 96) (f : Fin 2) (data : Word) (wr last poison : Bool) (s :
    State) :
    ∃ s', execFifoWrite region lte f data wr last poison s = .next s' ∧ s'.ground = s.ground := ⟨_, rfl, by simp⟩

theorem execFifoRead_ground (region : Fin 40) (lte : Fin 96) (f : Fin 2) (s : State) :
    ∃ s', execFifoRead region lte f s = .next s' ∧ s'.ground = s.ground := ⟨_, rfl, by simp⟩

theorem execFifoFlush_ground (ag : Agent) (te : Fin 104) (mask : BitVec 4) (s : State) :
    ∃ s', execFifoFlush ag te mask s = .next s' ∧ s'.ground = s.ground := ⟨_, rfl, by simp⟩

theorem execFifoStallTimeout_ground (te : Fin 104) (s : State) :
    ∃ s', execFifoStallTimeout te s = .next s' ∧ s'.ground = s.ground := by
  refine ⟨_, rfl, ?_⟩; (repeat' split) <;> simp

@[simp] theorem State.teSlot_ground (s : State) (t : Nat) :
    (State.teSlot s t).ground = s.ground := by simp [State.teSlot]

theorem execEngineMaintenanceSlot_ground (te : Fin 104) (s : State) :
    ∃ s', execEngineMaintenanceSlot te s = .next s' ∧ s'.ground = s.ground := ⟨_, rfl, by simp⟩

theorem execForcedSlot_ground (te : Fin 104) (s : State) :
    ∃ s', execForcedSlot te s = .next s' ∧ s'.ground = s.ground := ⟨_, rfl, by simp⟩

@[simp] theorem State.dmWindowRead_ground (s : State) (ag t row lane : Nat) :
    (State.dmWindowRead s ag t row lane).ground = s.ground := by simp [State.dmWindowRead]

theorem execDataWindowAccess_ground (ag : Agent) (te : Fin 104) (row : Fin 2048) (lane : Fin 32) (wr : Bool) (v :
    Word) (s : State) :
    ∃ s', execDataWindowAccess ag te row lane wr v s = .next s' ∧ s'.ground = s.ground := ⟨_, rfl, by simp⟩

theorem execInstructionWindowWrite_ground (ag : Agent) (te : Fin 104) (word : Fin 2048) (high : Bool) (v : Word) (s :
    State) :
    ∃ s', execInstructionWindowWrite ag te word high v s = .next s' ∧ s'.ground = s.ground := ⟨_, rfl, by simp⟩

theorem execImemScrubRead_ground (te : Fin 104) (s : State) :
    ∃ s', execImemScrubRead te s = .next s' ∧ s'.ground = s.ground := ⟨_, rfl, by simp⟩

@[simp] theorem State.teFail_ground (s : State) (t : Nat) :
    (State.teFail s t).ground = s.ground := by simp [State.teFail]

@[simp] theorem State.teWipe_ground (s : State) (t : Nat) :
    (State.teWipe s t).ground = s.ground := by simp [State.teWipe]

@[simp] theorem State.setLogical_ground (s : State) (t n : Nat) :
    (State.setLogical s t n).ground = s.ground := by simp [State.setLogical]

@[simp] theorem State.copyTeRegs_ground (s : State) (t u : Nat) :
    (State.copyTeRegs s t u).ground = s.ground := by
  unfold State.copyTeRegs
  exact (State.teWr_ground ..).trans (State.each_ground _ _ _ fun _ _ => rfl)

@[simp] theorem State.copyTe_ground (s : State) (t u : Nat) :
    (State.copyTe s t u).ground = s.ground := by simp [State.copyTe]

@[simp] theorem State.moveClaims_ground (s : State) (t u : Nat) :
    (State.moveClaims s t u).ground = s.ground := by simp [State.moveClaims]

theorem execEngineMove_ground (te : Fin 104) (intact : Bool) (s : State) :
    ∃ s', execEngineMove te intact s = .next s' ∧ s'.ground = s.ground := by
  refine ⟨_, rfl, ?_⟩; (repeat' split) <;> simp

@[simp] theorem State.shiftRow_ground (s : State) (p : Nat) (intact : Bool) (a1 : Nat) :
    (State.shiftRow s p intact a1).ground = s.ground := by
  induction a1 generalizing s with
  | zero => rfl
  | succ n ih => simp [State.shiftRow, ih]

theorem execEngineMoved_ground (te : Fin 104) (s : State) :
    ∃ s', execEngineMoved te s = .next s' ∧ s'.ground = s.ground := by refine ⟨_, rfl, ?_⟩; (repeat' split) <;> simp

end Sys2Proof.Machine
end

