-- ==== Sys2Proof/Laws/Shallot.lean ====
section
/-! SUPPORT. Laws/Shallot.lean: what Machine/Shallot.lean does to the queue and to the keys: nothing. -/

namespace Sys2Proof.Machine

@[simp] theorem State.setSh_ground (s : State) (k : Nat) (v : Shallot) :
    (State.setSh s k v).ground = s.ground := by simp [State.setSh]

@[simp] theorem State.shWr_ground (s : State) (k : Nat) (r : Row) (v : Nat) :
    (State.shWr s k r v).ground = s.ground := by simp [State.shWr]

@[simp] theorem State.setBank_ground (s : State) (k b v : Nat) :
    (State.setBank s k b v).ground = s.ground := by simp [State.setBank]

@[simp] theorem State.showLost_ground (s : State) (k : Nat) :
    (State.showLost s k).ground = s.ground := by simp [State.showLost]

@[simp] theorem State.losePattern_ground (s : State) (k bank n : Nat) :
    (State.losePattern s k bank n).ground = s.ground := by
  unfold State.losePattern
  split
  · rfl
  · dsimp only
    rw [State.logHw_ground, State.irq_ground, State.shWr_ground, State.doIf_ground (h := fun _ => by simp),
      State.showLost_ground, State.setSh_ground]

@[simp] theorem State.goldRead_ground (s : State) (k bank n w : Nat) :
    (State.goldRead s k bank n w).2.ground = s.ground := by
  unfold State.goldRead; dsimp only; (repeat' split) <;> simp (maxDischargeDepth := 6)

@[simp] theorem State.goldRecord_ground (s : State) (k bank n : Nat) :
    (State.goldRecord s k bank n).2.ground = s.ground := by simp [State.goldRecord]

@[simp] theorem State.goldWrite_ground (s : State) (k off v : Nat) :
    (State.goldWrite s k off v).ground = s.ground := by simp [State.goldWrite]

@[simp] theorem State.patternWrite_ground (s : State) (k off : Nat) (size8 : Bool) (v : Nat) :
    (State.patternWrite s k off size8 v).ground = s.ground := by
  unfold State.patternWrite; dsimp only; (repeat' split) <;> simp (maxDischargeDepth := 6)

@[simp] theorem State.verifyStart_ground (s : State) (k bank : Nat) :
    (State.verifyStart s k bank).ground = s.ground := by simp [State.verifyStart]

@[simp] theorem State.verifyGo_ground (s : State) (k bank : Nat) :
    (State.verifyGo s k bank).ground = s.ground := by simp [State.verifyGo]

@[simp] theorem State.commitGo_ground (s : State) (k bank : Nat) :
    (State.commitGo s k bank).ground = s.ground := by simp [State.commitGo]

@[simp] theorem State.autoVerify_ground (s : State) (k : Nat) :
    (State.autoVerify s k).ground = s.ground := by simp [State.autoVerify]

@[simp] theorem State.autoCommit_ground (s : State) (k : Nat) :
    (State.autoCommit s k).ground = s.ground := by simp [State.autoCommit]

@[simp] theorem State.verifyRead_ground (s : State) (k bank : Nat) :
    (State.verifyRead s k bank).2.ground = s.ground := by simp [State.verifyRead]

@[simp] theorem State.verifyDone_ground (s : State) (k : Nat) :
    (State.verifyDone s k).ground = s.ground := by
  unfold State.verifyDone; dsimp only; (repeat' split) <;> simp (maxDischargeDepth := 6)

@[simp] theorem State.fillStart_ground (s : State) (k : Nat) :
    (State.fillStart s k).ground = s.ground := by simp [State.fillStart]

@[simp] theorem State.wantedRow_ground (s : State) (k bank n : Nat) :
    (State.wantedRow s k bank n).2.ground = s.ground := by
  unfold State.wantedRow
  (try dsimp only)
  (repeat' split) <;> first
    | (simp; done)
    | grind [State.goldRecord_ground]

@[simp] theorem State.fillDone_ground (s : State) (k : Nat) :
    (State.fillDone s k).ground = s.ground := by simp [State.fillDone]

@[simp] theorem State.hitIn_ground (s : State) (k layer ss : Nat) :
    (State.hitIn s k layer ss).ground = s.ground := by simp [State.hitIn]

@[simp] theorem State.setClose_ground (s : State) (k : Nat) :
    (State.setClose s k).ground = s.ground := by simp [State.setClose]

@[simp] theorem State.majority_ground (s : State) (k : Nat) :
    (State.majority s k).ground = s.ground := by
  unfold State.majority; dsimp only; (repeat' split) <;> simp (maxDischargeDepth := 6)

@[simp] theorem State.roadEnd_ground (s : State) (k port : Nat) (r : RoadSet) (sent : Nat) :
    (State.roadEnd s k port r sent).2.ground = s.ground := by simp [State.roadEnd]

@[simp] theorem State.roadStream_ground (s : State) (k port : Nat) (cut : Bool) (a1 : Nat) (a2 : List RoadSet) :
    (State.roadStream s k port cut a1 a2).2.ground = s.ground := by
  induction a2 generalizing s a1 with
  | nil => unfold State.roadStream; rfl
  | cons r rs ih =>
    unfold State.roadStream
    dsimp only
    (repeat' split) <;> simp [ih]

@[simp] theorem State.roadPurge_ground (s : State) (k : Nat) :
    (State.roadPurge s k).ground = s.ground := by simp [State.roadPurge]

@[simp] theorem State.roadWindow_ground (s : State) (k port edges : Nat) :
    (State.roadWindow s k port edges).ground = s.ground := by
  unfold State.roadWindow; dsimp only; (repeat' split) <;> simp (maxDischargeDepth := 6)

@[simp] theorem State.patternStuck_ground (s : State) (k bank n : Nat) :
    (State.patternStuck s k bank n).ground = s.ground := by simp [State.patternStuck]

@[simp] theorem State.patternFix_ground (s : State) (k n : Nat) :
    (State.patternFix s k n).ground = s.ground := by simp [State.patternFix]

@[simp] theorem State.patternScrub_ground (s : State) (k slice : Nat) :
    (State.patternScrub s k slice).ground = s.ground := by simp [State.patternScrub]

@[simp] theorem State.lostRestore_ground (s : State) (k : Nat) :
    (State.lostRestore s k).ground = s.ground := by
  unfold State.lostRestore; dsimp only; (repeat' split) <;> simp (maxDischargeDepth := 6)

@[simp] theorem State.shOff_ground (s : State) (k : Nat) :
    (State.shOff s k).ground = s.ground := by simp [State.shOff]

@[simp] theorem State.hitWrite_ground (s : State) (k port : Nat) (hs : List (Nat × Nat)) :
    (State.hitWrite s k port hs).ground = s.ground := by simp [State.hitWrite]

theorem execHitWrite_ground (k : Fin 12) (port : Fin 8) (hits : List (Fin 8 × BitVec 16)) (s : State) :
    ∃ s', execHitWrite k port hits s = .next s' ∧ s'.ground = s.ground := ⟨_, rfl, by simp⟩

theorem execSetClose_ground (k : Fin 12) (s : State) :
    ∃ s', execSetClose k s = .next s' ∧ s'.ground = s.ground := ⟨_, rfl, by simp⟩

theorem execMajority_ground (k : Fin 12) (s : State) :
    ∃ s', execMajority k s = .next s' ∧ s'.ground = s.ground := ⟨_, rfl, by simp⟩

theorem execRoadWindow_ground (k : Fin 12) (port : Fin 8) (edges : Nat) (s : State) :
    ∃ s', execRoadWindow k port edges s = .next s' ∧ s'.ground = s.ground := ⟨_, rfl, by simp⟩

theorem execPatternWindowWrite_ground (ag : Agent) (k : Fin 12) (off : BitVec 23) (size8 : Bool) (v : BitVec 64) (s :
    State) :
    ∃ s', execPatternWindowWrite ag k off size8 v s = .next s' ∧ s'.ground = s.ground := ⟨_, rfl, by simp⟩

theorem execVerifyGo_ground (ag : Agent) (k : Fin 12) (bank : Fin 2) (s : State) :
    ∃ s', execVerifyGo ag k bank s = .next s' ∧ s'.ground = s.ground := ⟨_, rfl, by simp⟩

theorem execVerifyDone_ground (k : Fin 12) (s : State) :
    ∃ s', execVerifyDone k s = .next s' ∧ s'.ground = s.ground := ⟨_, rfl, by simp⟩

theorem execCommitGo_ground (ag : Agent) (k : Fin 12) (bank : Fin 2) (s : State) :
    ∃ s', execCommitGo ag k bank s = .next s' ∧ s'.ground = s.ground := ⟨_, rfl, by simp⟩

theorem execFillStart_ground (k : Fin 12) (s : State) :
    ∃ s', execFillStart k s = .next s' ∧ s'.ground = s.ground := ⟨_, rfl, by simp⟩

theorem execFillDone_ground (k : Fin 12) (s : State) :
    ∃ s', execFillDone k s = .next s' ∧ s'.ground = s.ground := ⟨_, rfl, by simp⟩

theorem execPatternScrub_ground (k : Fin 12) (slice : Fin 4) (s : State) :
    ∃ s', execPatternScrub k slice s = .next s' ∧ s'.ground = s.ground := ⟨_, rfl, by simp⟩

theorem execLostPatternRestore_ground (k : Fin 12) (s : State) :
    ∃ s', execLostPatternRestore k s = .next s' ∧ s'.ground = s.ground := ⟨_, rfl, by simp⟩

end Sys2Proof.Machine
end

