-- ==== Sys2Proof/Laws/Lanes.lean ====
section
/-! SUPPORT. Laws/Lanes.lean: what Machine/Lanes.lean does to the queue and to the keys: nothing. -/

namespace Sys2Proof.Machine

@[simp] theorem State.setTxg_ground (s : State) (g : Nat) (v : TxGroup) :
    (State.setTxg s g v).ground = s.ground := by simp [State.setTxg]

@[simp] theorem State.setRxg_ground (s : State) (g : Nat) (v : RxGroup) :
    (State.setRxg s g v).ground = s.ground := by simp [State.setRxg]

@[simp] theorem State.txWr_ground (s : State) (g : Nat) (r : Row) (v : Nat) (i : Nat) :
    (State.txWr s g r v i).ground = s.ground := by simp [State.txWr]

@[simp] theorem State.rxWr_ground (s : State) (g : Nat) (r : Row) (v : Nat) (i : Nat) :
    (State.rxWr s g r v i).ground = s.ground := by simp [State.rxWr]

@[simp] theorem State.setHalf_ground (s : State) (g h : Nat) (v : TxHalf) :
    (State.setHalf s g h v).ground = s.ground := by simp [State.setHalf]

@[simp] theorem State.txLook_ground (s : State) (g : Nat) :
    (State.txLook s g).ground = s.ground := by simp [State.txLook]

@[simp] theorem State.halfWrite_ground (s : State) (ag g h w : Nat) :
    (State.halfWrite s ag g h w).ground = s.ground := by simp [State.halfWrite]

theorem execHalfSourceWrite_ground (ag : Agent) (g : Fin 12) (h : Fin 2) (v : Word) (s : State) :
    ∃ s', execHalfSourceWrite ag g h v s = .next s' ∧ s'.ground = s.ground := ⟨_, rfl, by simp⟩

@[simp] theorem State.cellEnter_ground (s : State) (g h pay : Nat) (mark poison : Bool) :
    (State.cellEnter s g h pay mark poison).ground = s.ground := by simp [State.cellEnter]

@[simp] theorem State.txCellWrite_ground (s : State) (i port data : Nat) (mark poison : Bool) :
    (State.txCellWrite s i port data mark poison).ground = s.ground := by
  unfold State.txCellWrite; (repeat' split) <;> simp

theorem execTxCellWrite_ground (region : Fin 40) (port : Fin 2) (data : BitVec 512) (mark poison : Bool) (s : State) :
    ∃ s', execTxCellWrite region port data mark poison s = .next s' ∧ s'.ground = s.ground := by
  refine ⟨_, rfl, ?_⟩; (repeat' split) <;> simp

@[simp] theorem State.txFill_ground (s : State) (g h : Nat) (a1 : Nat) :
    (State.txFill s g h a1).ground = s.ground := by
  induction a1 generalizing s with
  | zero => rfl
  | succ n ih =>
    unfold State.txFill
    dsimp only
    (repeat' split) <;> first
      | (simp [ih]; done)
      | grind [State.setHalf_ground, State.cellEnter_ground]

@[simp] theorem State.txEvent_ground (s : State) (g addr : Nat) (ws : List (Nat × Bool)) :
    (State.txEvent s g addr ws).ground = s.ground := by simp [State.txEvent]

@[simp] theorem State.moveLook_ground (s : State) (g : Nat) :
    (State.moveLook s g).ground = s.ground := by
  unfold State.moveLook; dsimp only; (repeat' split) <;> simp (maxDischargeDepth := 6)

@[simp] theorem State.lineOut_ground (s : State) (g p c : Nat) :
    (State.lineOut s g p c).ground = s.ground := by simp [State.lineOut]

@[simp] theorem State.cellSend_ground (s : State) (g p : Nat) :
    (State.cellSend s g p).ground = s.ground := by
  unfold State.cellSend; dsimp only; (repeat' split) <;> simp (maxDischargeDepth := 6)

theorem execCellSend_ground (g : Fin 12) (lane : Fin 9) (s : State) :
    ∃ s', execCellSend g lane s = .next s' ∧ s'.ground = s.ground := ⟨_, rfl, by simp⟩

theorem execTxIdleEnd_ground (g : Fin 12) (s : State) :
    ∃ s', execTxIdleEnd g s = .next s' ∧ s'.ground = s.ground := ⟨_, rfl, by simp⟩

@[simp] theorem State.parkTo_ground (s : State) (g p : Nat) :
    (State.parkTo s g p).ground = s.ground := by simp [State.parkTo]

theorem execParkMove_ground (g : Fin 12) (s : State) :
    ∃ s', execParkMove g s = .next s' ∧ s'.ground = s.ground := ⟨_, rfl, by simp⟩

@[simp] theorem State.parkGo_ground (s : State) (g next : Nat) :
    (State.parkGo s g next).ground = s.ground := by simp [State.parkGo]

theorem execParkGo_ground (ag : Agent) (g : Fin 12) (next : BitVec 4) (s : State) :
    ∃ s', execParkGo ag g next s = .next s' ∧ s'.ground = s.ground := ⟨_, rfl, by simp⟩

@[simp] theorem State.parkReset_ground (s : State) (g : Nat) :
    (State.parkReset s g).ground = s.ground := by simp [State.parkReset]

@[simp] theorem State.laneSpared_ground (s : State) (g p dir : Nat) (dead : Bool) :
    (State.laneSpared s g p dir dead).ground = s.ground := by simp [State.laneSpared]

@[simp] theorem State.txLaneFail_ground (s : State) (g p : Nat) :
    (State.txLaneFail s g p).ground = s.ground := by simp [State.txLaneFail]

@[simp] theorem State.rxLaneFail_ground (s : State) (g p : Nat) :
    (State.rxLaneFail s g p).ground = s.ground := by simp [State.rxLaneFail]

@[simp] theorem State.setRxLane_ground (s : State) (g p : Nat) (v : RxLane) :
    (State.setRxLane s g p v).ground = s.ground := by simp [State.setRxLane]

@[simp] theorem State.setRxLogical_ground (s : State) (g l : Nat) (v : RxLogical) :
    (State.setRxLogical s g l v).ground = s.ground := by simp [State.setRxLogical]

@[simp] theorem State.showRxPark_ground (s : State) (g : Nat) :
    (State.showRxPark s g).ground = s.ground := by simp [State.showRxPark]

@[simp] theorem State.clearHalf_ground (s : State) (g h : Nat) :
    (State.clearHalf s g h).ground = s.ground := by simp [State.clearHalf]

@[simp] theorem State.halfRise_ground (s : State) (g h : Nat) :
    (State.halfRise s g h).ground = s.ground := by simp [State.halfRise]

@[simp] theorem State.halfFall_ground (s : State) (g h : Nat) :
    (State.halfFall s g h).ground = s.ground := by simp [State.halfFall]

@[simp] theorem State.scanEnd_ground (s : State) (g : Nat) (aborted : Bool) :
    (State.scanEnd s g aborted).ground = s.ground := by simp [State.scanEnd]

@[simp] theorem State.adapt_ground (s : State) (g p : Nat) :
    (State.adapt s g p).ground = s.ground := by simp [State.adapt]

@[simp] theorem State.adaptEnd_ground (s : State) (g p : Nat) :
    (State.adaptEnd s g p).ground = s.ground := by simp [State.adaptEnd]

@[simp] theorem State.laneTo_ground (s : State) (g p st : Nat) :
    (State.laneTo s g p st).ground = s.ground := by simp [State.laneTo]

@[simp] theorem State.rxLook_ground (s : State) (g : Nat) :
    (State.rxLook s g).ground = s.ground := by simp [State.rxLook]

theorem execRateCheck_ground (g : Fin 12) (inBand : Bool) (s : State) :
    ∃ s', execRateCheck g inBand s = .next s' ∧ s'.ground = s.ground := ⟨_, rfl, by simp⟩

theorem execCdrLock_ground (g : Fin 12) (lane : Fin 9) (s : State) :
    ∃ s', execCdrLock g lane s = .next s' ∧ s'.ground = s.ground := ⟨_, rfl, by simp⟩

@[simp] theorem State.rxFill_ground (s : State) (g l : Nat) (a1 : Nat) :
    (State.rxFill s g l a1).ground = s.ground := by
  induction a1 generalizing s with
  | zero => rfl
  | succ n ih =>
    unfold State.rxFill
    dsimp only
    (repeat' split) <;> first
      | (simp [ih]; done)
      | grind [State.setRxLogical_ground, State.count_ground]

@[simp] theorem State.rxCell_ground (s : State) (g p l c : Nat) :
    (State.rxCell s g p l c).ground = s.ground := by simp [State.rxCell]

@[simp] theorem State.takeHead_ground (s : State) (g l : Nat) :
    (State.takeHead s g l).ground = s.ground := by simp [State.takeHead]

@[simp] theorem State.inOrder_ground (s : State) (g h : Nat) (ok : Nat → RxCell → Bool) (a1 : Nat) :
    (State.inOrder s g h ok a1).2.ground = s.ground := by
  induction a1 generalizing s with
  | zero => rfl
  | succ n ih =>
    unfold State.inOrder
    dsimp only
    (repeat' split) <;> first
      | (simp [ih]; done)
      | grind [State.takeHead_ground]

@[simp] theorem State.drive_ground (s : State) (i port : Nat) (os : List RxOut) :
    (State.drive s i port os).ground = s.ground := by simp [State.drive]

@[simp] theorem State.countCells_ground (s : State) (g : Nat) (cs : List RxCell) :
    (State.countCells s g cs).ground = s.ground := by simp [State.countCells]

@[simp] theorem State.deliverNow_ground (s : State) (g h : Nat) :
    (State.deliverNow s g h).ground = s.ground := by simp [State.deliverNow]

@[simp] theorem State.goodCell_ground (s : State) (g p c : Nat) :
    (State.goodCell s g p c).ground = s.ground := by simp [State.goodCell]

@[simp] theorem State.cellReceive_ground (s : State) (g p : Nat) (bs : List Bool) :
    (State.cellReceive s g p bs).ground = s.ground := by simp [State.cellReceive]

theorem execCellReceive_ground (g : Fin 12) (lane : Fin 9) (bits : List Bool) (s : State) :
    ∃ s', execCellReceive g lane bits s = .next s' ∧ s'.ground = s.ground := ⟨_, rfl, by simp⟩

@[simp] theorem State.dropLate_ground (s : State) (g h t : Nat) :
    (State.dropLate s g h t).ground = s.ground := by simp [State.dropLate]

@[simp] theorem State.dropEarlier_ground (s : State) (g h b : Nat) :
    (State.dropEarlier s g h b).ground = s.ground := by simp [State.dropEarlier]

@[simp] theorem State.driveCells_ground (s : State) (g h : Nat) (edges : List Nat) (cs : List RxCell) :
    (State.driveCells s g h edges cs).ground = s.ground := by simp [State.driveCells]

@[simp] theorem State.releaseBucket_ground (s : State) (g h b : Nat) (edges : List Nat) :
    (State.releaseBucket s g h b edges).ground = s.ground := by simp [State.releaseBucket]

@[simp] theorem State.cellRelease_ground (s : State) (g h : Nat) (edges : List Nat) :
    (State.cellRelease s g h edges).ground = s.ground := by
  unfold State.cellRelease
  (try dsimp only)
  (repeat' split) <;> first
    | (simp; done)
    | grind []

theorem execCellRelease_ground (g : Fin 12) (h : Fin 2) (edges : List Nat) (s : State) :
    ∃ s', execCellRelease g h edges s = .next s' ∧ s'.ground = s.ground := ⟨_, rfl, by simp⟩

@[simp] theorem State.setSlotWord_ground (s : State) (g h w : Nat) :
    (State.setSlotWord s g h w).ground = s.ground := by simp [State.setSlotWord]

@[simp] theorem State.slotWrite_ground (s : State) (ag g h w : Nat) :
    (State.slotWrite s ag g h w).ground = s.ground := by
  unfold State.slotWrite; dsimp only; (repeat' split) <;> simp (maxDischargeDepth := 6)

theorem execDestSlotWrite_ground (ag : Agent) (g : Fin 12) (h : Fin 2) (v : Word) (s : State) :
    ∃ s', execDestSlotWrite ag g h v s = .next s' ∧ s'.ground = s.ground := ⟨_, rfl, by simp⟩

theorem execLaneErrorCheck_ground (g : Fin 12) (lane : Fin 9) (s : State) :
    ∃ s', execLaneErrorCheck g lane s = .next s' ∧ s'.ground = s.ground := ⟨_, rfl, by simp⟩

@[simp] theorem State.scanGo_ground (s : State) (g : Nat) :
    (State.scanGo s g).ground = s.ground := by simp [State.scanGo]

@[simp] theorem State.scanWrite_ground (s : State) (g w : Nat) :
    (State.scanWrite s g w).ground = s.ground := by simp [State.scanWrite]

theorem execEyeScanStart_ground (ag : Agent) (g : Fin 12) (v : Word) (s : State) :
    ∃ s', execEyeScanStart ag g v s = .next s' ∧ s'.ground = s.ground := ⟨_, rfl, by simp⟩

theorem execEyeScanSlice_ground (g : Fin 12) (bits errs : Nat) (s : State) :
    ∃ s', execEyeScanSlice g bits errs s = .next s' ∧ s'.ground = s.ground := ⟨_, rfl, by simp⟩

@[simp] theorem State.laneBoundary_ground (s : State) :
    (State.laneBoundary s).ground = s.ground := by simp [State.laneBoundary]

end Sys2Proof.Machine
end

