-- ==== Sys2Proof/Laws/Memory.lean ====
section
/-! SUPPORT. Laws/Memory.lean: what Machine/Memory.lean does to the queue and to the keys: nothing. -/

namespace Sys2Proof.Machine

@[simp] theorem State.rbLine_ground (s : State) (i line j : Nat) (a1 : Nat) :
    (State.rbLine s i line j a1).2.ground = s.ground := by
  induction a1 generalizing s j with
  | zero => rfl
  | succ n ih => simp [State.rbLine, ih]

@[simp] theorem State.rbRange_ground (s : State) (i addr : Nat) :
    (State.rbRange s i addr).ground = s.ground := by simp [State.rbRange]

@[simp] theorem State.rbShow_ground (s : State) (i d p : Nat) :
    (State.rbShow s i d p).ground = s.ground := by simp [State.rbShow]

@[simp] theorem State.rbAccess_ground (s : State) (i addr : Nat) (we re : Bool) (wmask wdata : Nat) :
    (State.rbAccess s i addr we re wmask wdata).ground = s.ground := by simp [State.rbAccess]

theorem execRbAccess_ground (region : Fin 40) (addr : BitVec 20) (we re : Bool) (wmask : BitVec 8) (wdata : BitVec
    512) (s : State) :
    ∃ s', execRbAccess region addr we re wmask wdata s = .next s' ∧ s'.ground = s.ground := ⟨_, rfl, by simp⟩

@[simp] theorem State.scrubUnit_ground (s : State) (i arr u : Nat) :
    (State.scrubUnit s i arr u).ground = s.ground := by unfold State.scrubUnit; (repeat' split) <;> simp

@[simp] theorem State.scrubStep_ground (s : State) (i arr : Nat) :
    (State.scrubStep s i arr).ground = s.ground := by unfold State.scrubStep; (repeat' split) <;> simp

theorem execSlabScrub_ground (region : Fin 40) (arr : Fin 3) (s : State) :
    ∃ s', execSlabScrub region arr s = .next s' ∧ s'.ground = s.ground := ⟨_, rfl, by simp⟩

theorem execSlabForcedSlot_ground (region : Fin 40) (s : State) :
    ∃ s', execSlabForcedSlot region s = .next s' ∧ s'.ground = s.ground := ⟨_, rfl, by simp⟩

theorem execScrubLate_ground (region : Fin 40) (arr : Fin 3) (s : State) :
    ∃ s', execScrubLate region arr s = .next s' ∧ s'.ground = s.ground := ⟨_, rfl, by simp⟩

@[simp] theorem State.setCh_ground (s : State) (c : Nat) (v : Chn) :
    (State.setCh s c v).ground = s.ground := by simp [State.setCh]

theorem execDdrTrainingStart_ground (c : Fin 8) (s : State) :
    ∃ s', execDdrTrainingStart c s = .next s' ∧ s'.ground = s.ground := ⟨_, rfl, by simp⟩

theorem execDdrTrainingDone_ground (c : Fin 8) (failLane : Option (Fin 10)) (s : State) :
    ∃ s', execDdrTrainingDone c failLane s = .next s' ∧ s'.ground = s.ground := by
  refine ⟨_, rfl, ?_⟩; (repeat' split) <;> simp

@[simp] theorem State.setDebt_ground (s : State) (c rank : Nat) (v : Int) :
    (State.setDebt s c rank v).ground = s.ground := by simp [State.setDebt]

@[simp] theorem State.spill_ground (s : State) (c rank : Nat) :
    (State.spill s c rank).ground = s.ground := by simp [State.spill]

theorem execRefreshTick_ground (c : Fin 8) (rank : Fin 2) (s : State) :
    ∃ s', execRefreshTick c rank s = .next s' ∧ s'.ground = s.ground := ⟨_, rfl, by simp⟩

theorem execRefIssue_ground (c : Fin 8) (rank : Fin 2) (pendingReq : Bool) (s : State) :
    ∃ s', execRefIssue c rank pendingReq s = .next s' ∧ s'.ground = s.ground := ⟨_, rfl, by simp⟩

@[simp] theorem State.refreshAction_ground (s : State) (c param : Nat) :
    ∀ t ∈ State.refreshAction s c param, t.ground = s.ground := by
  intro t ht
  unfold State.refreshAction at ht
  (try dsimp only at ht)
  (repeat' split at ht) <;> cases ht <;> simp

theorem execPatrolRead_ground (c : Fin 8) (s : State) :
    ∃ s', execPatrolRead c s = .next s' ∧ s'.ground = s.ground := ⟨_, rfl, by simp⟩

theorem execPatrolLate_ground (c : Fin 8) (s : State) :
    ∃ s', execPatrolLate c s = .next s' ∧ s'.ground = s.ground := ⟨_, rfl, by simp⟩

@[simp] theorem State.setRing_ground (s : State) (c r : Nat) (es : List (List (Nat × Bool))) :
    (State.setRing s c r es).ground = s.ground := by simp [State.setRing]

@[simp] theorem State.evDiscard_ground (s : State) (c r : Nat) :
    (State.evDiscard s c r).ground = s.ground := by simp [State.evDiscard]

@[simp] theorem State.ddrEvent_ground (s : State) (c r : Nat) (ws : List (Nat × Bool)) :
    (State.ddrEvent s c r ws).ground = s.ground := by simp [State.ddrEvent]

@[simp] theorem State.ringWrite_ground (s : State) (c r : Nat) :
    (State.ringWrite s c r).ground = s.ground := by unfold State.ringWrite; (repeat' split) <;> simp

theorem execRingEventWrite_ground (c : Fin 8) (r : Fin 4) (s : State) :
    ∃ s', execRingEventWrite c r s = .next s' ∧ s'.ground = s.ground := ⟨_, rfl, by simp⟩

theorem execEvrTimeout_ground (c : Fin 8) (r : Fin 4) (s : State) :
    ∃ s', execEvrTimeout c r s = .next s' ∧ s'.ground = s.ground := by refine ⟨_, rfl, ?_⟩; (repeat' split) <;> simp

@[simp] theorem State.evrWrite_ground (s : State) (c r v : Nat) :
    (State.evrWrite s c r v).ground = s.ground := by simp [State.evrWrite]

theorem execEvrEnable_ground (ag : Agent) (c : Fin 8) (r : Fin 4) (v : Word) (s : State) :
    ∃ s', execEvrEnable ag c r v s = .next s' ∧ s'.ground = s.ground := ⟨_, rfl, by simp⟩

end Sys2Proof.Machine
end

