-- ==== Sys2Proof/Laws/Routers.lean ====
section
/-! SUPPORT. Laws/Routers.lean: what Machine/Routers.lean does to the queue and to the keys: nothing. -/

namespace Sys2Proof.Machine

@[simp] theorem State.flitLate_ground (s : State) (x y net n : Nat) :
    (State.flitLate s x y net n).ground = s.ground := by simp [State.flitLate]

end Sys2Proof.Machine
end

