-- ==== Sys2Proof/Laws/Network.lean ====
section
/-! SUPPORT. Laws/Network.lean: what Machine/Network.lean does to the queue and to the keys: nothing. -/

namespace Sys2Proof.Machine

@[simp] theorem State.netIn_ground (s : State) (op : Nat) (p : Packet) (f : Packet → State → State) (hf : ∀ x0 x1, (f
    x0 x1).ground = x1.ground) :
    (State.netIn s op p f).ground = s.ground := by unfold State.netIn; (repeat' split) <;> simp [hf]

@[simp] theorem State.discard_ground (s : State) (h : Nat) :
    (State.discard s h).ground = s.ground := by simp [State.discard]

@[simp] theorem State.gtLate_ground (s : State) (p : Packet) (n : Nat) :
    (State.gtLate s p n).ground = s.ground := by simp [State.gtLate]

@[simp] theorem State.setNp_ground (s : State) (i : Nat) (v : NetPort) :
    (State.setNp s i v).ground = s.ground := by simp [State.setNp]

@[simp] theorem State.portDeliver_ground (s : State) (i : Nat) (p : Packet) (fs : List PortFlit) :
    (State.portDeliver s i p fs).ground = s.ground := by simp [State.portDeliver]

@[simp] theorem State.netRefused_ground (s : State) (k code : Nat) :
    (State.netRefused s k code).ground = s.ground := by simp [State.netRefused]

@[simp] theorem State.memRead_ground (s : State) (k w : Nat) :
    (State.memRead s k w).2.2.ground = s.ground := by unfold State.memRead; (repeat' split) <;> simp

@[simp] theorem State.memWrite_ground (s : State) (k w d : Nat) (poison : Bool) :
    (State.memWrite s k w d poison).ground = s.ground := by simp [State.memWrite]

@[simp] theorem State.memWords_ground (s : State) (k w : Nat) (a1 : Nat) :
    (State.memWords s k w a1).2.ground = s.ground := by
  induction a1 generalizing s w with
  | zero => rfl
  | succ n ih => simp [State.memWords, ih]

@[simp] theorem State.memLines_ground (s : State) (k line : Nat) (a1 : Nat) :
    (State.memLines s k line a1).2.ground = s.ground := by
  induction a1 generalizing s line with
  | zero => rfl
  | succ n ih => simp [State.memLines, ih]

@[simp] theorem State.answerData_ground (s : State) (h : Nat) (fs : List Flit) (shared : Bool) :
    (State.answerData s h fs shared).ground = s.ground := by simp [State.answerData]

@[simp] theorem State.shareLines_ground (s : State) (k line i : Nat) (a1 : Nat) :
    (State.shareLines s k line i a1).2.ground = s.ground := by
  induction a1 generalizing s line with
  | zero => rfl
  | succ n ih => simp [State.shareLines, ih]

@[simp] theorem State.serveRead_ground (s : State) (k h : Nat) (shared : Bool) :
    (State.serveRead s k h shared).ground = s.ground := by
  unfold State.serveRead; dsimp only; (repeat' split) <;> simp (maxDischargeDepth := 6)

@[simp] theorem State.serveRelease_ground (s : State) (k h : Nat) :
    (State.serveRelease s k h).ground = s.ground := by simp [State.serveRelease]

@[simp] theorem State.serveWrite_ground (s : State) (k h : Nat) (fs : List (List Nat × Bool)) :
    (State.serveWrite s k h fs).ground = s.ground := by unfold State.serveWrite; (repeat' split) <;> simp

@[simp] theorem State.homeDone_ground (s : State) (k : Nat) :
    (State.homeDone s k).ground = s.ground := by simp [State.homeDone]

@[simp] theorem State.invAcked_ground (s : State) (k line i : Nat) :
    (State.invAcked s k line i).ground = s.ground := by simp [State.invAcked]

@[simp] theorem State.windowWord_ground (s : State) (t o : Nat) :
    (State.windowWord s t o).2.ground = s.ground := by simp [State.windowWord]

@[simp] theorem State.windowWordsOf_ground (s : State) (t o : Nat) (a1 : Nat) :
    (State.windowWordsOf s t o a1).2.ground = s.ground := by
  induction a1 generalizing s o with
  | zero => rfl
  | succ n ih => simp [State.windowWordsOf, ih]

@[simp] theorem State.engineRead_ground (s : State) (t h : Nat) :
    (State.engineRead s t h).ground = s.ground := by simp [State.engineRead]

@[simp] theorem State.engineWrite_ground (s : State) (t h : Nat) (fs : List (List Nat × Bool)) :
    (State.engineWrite s t h fs).ground = s.ground := by simp [State.engineWrite]

@[simp] theorem State.reqArrives_ground (s : State) (p : Packet) :
    (State.reqArrives s p).ground = s.ground := by
  unfold State.reqArrives; dsimp only; (repeat' split) <;> simp (maxDischargeDepth := 6)

theorem execNetRead_ground (vc : Fin 4) (h : BitVec 128) (s : State) :
    ∃ s', execNetRead vc h s = .next s' ∧ s'.ground = s.ground := ⟨_, rfl, by simp⟩

theorem execNetReadShared_ground (vc : Fin 4) (h : BitVec 128) (s : State) :
    ∃ s', execNetReadShared vc h s = .next s' ∧ s'.ground = s.ground := ⟨_, rfl, by simp⟩

theorem execNetRelease_ground (vc : Fin 4) (h : BitVec 128) (s : State) :
    ∃ s', execNetRelease vc h s = .next s' ∧ s'.ground = s.ground := ⟨_, rfl, by simp⟩

@[simp] theorem State.writeArrives_ground (s : State) (p : Packet) :
    (State.writeArrives s p).ground = s.ground := by
  unfold State.writeArrives; dsimp only; (repeat' split) <;> simp (maxDischargeDepth := 6)

theorem execNetWrite_ground (vc : Fin 4) (h : BitVec 512) (flits : List DataFlit) (s : State) :
    ∃ s', execNetWrite vc h flits s = .next s' ∧ s'.ground = s.ground := ⟨_, rfl, by simp⟩

@[simp] theorem State.portAnswer_ground (s : State) (i tag : Nat) :
    (State.portAnswer s i tag).2.ground = s.ground := by
  unfold State.portAnswer; dsimp only; (repeat' split) <;> simp (maxDischargeDepth := 6)

@[simp] theorem State.dataArrives_ground (s : State) (p : Packet) :
    (State.dataArrives s p).ground = s.ground := by
  unfold State.dataArrives; dsimp only; (repeat' split) <;> simp (maxDischargeDepth := 6)

theorem execNetReadData_ground (vc : Fin 4) (h : BitVec 512) (flits : List DataFlit) (s : State) :
    ∃ s', execNetReadData vc h flits s = .next s' ∧ s'.ground = s.ground := ⟨_, rfl, by simp⟩

@[simp] theorem State.eventArrives_ground (s : State) (p : Packet) :
    (State.eventArrives s p).ground = s.ground := by
  unfold State.eventArrives; dsimp only; (repeat' split) <;> simp (maxDischargeDepth := 6)

theorem execNetEvent_ground (vc : Fin 4) (h : BitVec 512) (flits : List DataFlit) (s : State) :
    ∃ s', execNetEvent vc h flits s = .next s' ∧ s'.ground = s.ground := ⟨_, rfl, by simp⟩

@[simp] theorem State.rspArrives_ground (s : State) (p : Packet) (host : State → State) (hhost : ∀ x0, (host
    x0).ground = x0.ground) :
    (State.rspArrives s p host).ground = s.ground := by
  unfold State.rspArrives; dsimp only; (repeat' split) <;> simp (maxDischargeDepth := 6) [hhost]

@[simp] theorem State.doneArrives_ground (s : State) (p : Packet) :
    (State.doneArrives s p).ground = s.ground := by simp [State.doneArrives]

theorem execWriteDone_ground (vc : Fin 2) (h : BitVec 64) (s : State) :
    ∃ s', execWriteDone vc h s = .next s' ∧ s'.ground = s.ground := ⟨_, rfl, by simp⟩

@[simp] theorem State.failArrives_ground (s : State) (p : Packet) :
    (State.failArrives s p).ground = s.ground := by simp [State.failArrives]

theorem execReadFail_ground (vc : Fin 2) (h : BitVec 64) (s : State) :
    ∃ s', execReadFail vc h s = .next s' ∧ s'.ground = s.ground := ⟨_, rfl, by simp⟩

theorem execReleaseDone_ground (vc : Fin 2) (h : BitVec 64) (s : State) :
    ∃ s', execReleaseDone vc h s = .next s' ∧ s'.ground = s.ground := ⟨_, rfl, by simp⟩

@[simp] theorem State.invArrives_ground (s : State) (p : Packet) :
    (State.invArrives s p).ground = s.ground := by unfold State.invArrives; (repeat' split) <;> simp

theorem execInv_ground (vc : Fin 2) (h : BitVec 64) (s : State) :
    ∃ s', execInv vc h s = .next s' ∧ s'.ground = s.ground := by
  unfold execInv
  refine ⟨_, rfl, State.netIn_ground _ _ _ _ fun p s => ?_⟩
  (repeat' split) <;> simp

@[simp] theorem State.ackArrives_ground (s : State) (p : Packet) :
    (State.ackArrives s p).ground = s.ground := by unfold State.ackArrives; (repeat' split) <;> simp

theorem execInvAck_ground (vc : Fin 2) (h : BitVec 64) (s : State) :
    ∃ s', execInvAck vc h s = .next s' ∧ s'.ground = s.ground := by
  unfold execInvAck
  refine ⟨_, rfl, State.netIn_ground _ _ _ _ fun p s => ?_⟩
  (repeat' split) <;> simp

@[simp] theorem State.arrives_ground (s : State) (p : Packet) :
    (State.arrives s p).ground = s.ground := by unfold State.arrives; (repeat' split) <;> simp

@[simp] theorem State.netEdge_ground (s : State) : (State.netEdge s).ground = s.ground := by simp [State.netEdge]

theorem execSnpTimeout_ground (unit : SharedHome) (line : Nat) (s : State) :
    ∃ s', execSnpTimeout unit line s = .next s' ∧ s'.ground = s.ground := ⟨_, rfl, by simp⟩

@[simp] theorem State.hopError_ground (s : State) (x y out net : Nat) :
    (State.hopError s x y out net).ground = s.ground := by simp [State.hopError]

theorem execHopErr_ground (x : Fin 12) (y : Fin 8) (out : Fin 5) (net : Fin 4) (s : State) :
    ∃ s', execHopErr x y out net s = .next s' ∧ s'.ground = s.ground := ⟨_, rfl, by simp⟩

@[simp] theorem State.wireFail_ground (s : State) (l w : Nat) :
    (State.wireFail s l w).ground = s.ground := by simp [State.wireFail]

theorem execLinkTest_ground (x : Fin 12) (y : Fin 8) (out : Fin 5) (net : Fin 4) (badWire : Option (BitVec 10)) (s :
    State) :
    ∃ s', execLinkTest x y out net badWire s = .next s' ∧ s'.ground = s.ground := ⟨_, rfl, by simp⟩

@[simp] theorem State.slotWindow_ground (s : State) (off v : Nat) :
    (State.slotWindow s off v).ground = s.ground := by simp [State.slotWindow]

theorem execSlotWindowWrite_ground (ag : Agent) (off : BitVec 19) (v : BitVec 16) (s : State) :
    ∃ s', execSlotWindowWrite ag off v s = .next s' ∧ s'.ground = s.ground := ⟨_, rfl, by simp⟩

@[simp] theorem State.slotCommit_ground (s : State) :
    (State.slotCommit s).ground = s.ground := by simp [State.slotCommit]

theorem execTblCommit_ground (ag : Agent) (s : State) :
    ∃ s', execTblCommit ag s = .next s' ∧ s'.ground = s.ground := ⟨_, rfl, by simp⟩

theorem execSlotTableSwitch_ground (s : State) :
    ∃ s', execSlotTableSwitch s = .next s' ∧ s'.ground = s.ground := ⟨_, rfl, by simp⟩

@[simp] theorem State.pulse_ground (s : State) (i : Nat) (p : NetPulse) :
    (State.pulse s i p).ground = s.ground := by simp [State.pulse]

@[simp] theorem State.portSend_ground (s : State) (i : Nat) (p : Packet) :
    (State.portSend s i p).ground = s.ground := by
  unfold State.portSend; dsimp only; (repeat' split) <;> simp (maxDischargeDepth := 6)

@[simp] theorem State.portFlit_ground (s : State) (i : Nat) (f : PortFlit) :
    (State.portFlit s i f).ground = s.ground := by
  unfold State.portFlit; dsimp only; (repeat' split) <;> simp (maxDischargeDepth := 6)

@[simp] theorem State.netPortFlit_ground (s : State) (i net vc : Nat) (head tail poison : Bool) (flit : Nat) :
    (State.netPortFlit s i net vc head tail poison flit).ground = s.ground := by simp [State.netPortFlit]

theorem execNetPortFlit_ground (region : Fin 40) (net vc : Fin 4) (head tail poison : Bool) (flit : BitVec 512) (s :
    State) :
    ∃ s', execNetPortFlit region net vc head tail poison flit s = .next s' ∧ s'.ground = s.ground :=
  ⟨_, rfl, by simp⟩

@[simp] theorem State.creditReturn_ground (s : State) (i k : Nat) (toFabric : Bool) :
    (State.creditReturn s i k toFabric).ground = s.ground := by simp [State.creditReturn]

theorem execNetCreditReturn_ground (region : Fin 40) (net vc : Fin 4) (toFabric : Bool) (s : State) :
    ∃ s', execNetCreditReturn region net vc toFabric s = .next s' ∧ s'.ground = s.ground := ⟨_, rfl, by simp⟩

theorem execReqTimeout_ground (region : Fin 40) (tag : BitVec 8) (s : State) :
    ∃ s', execReqTimeout region tag s = .next s' ∧ s'.ground = s.ground := ⟨_, rfl, by simp⟩

end Sys2Proof.Machine
end

