-- ==== Sys2Proof/Laws/Thermal.lean ====
section
/-! SUPPORT. Laws/Thermal.lean: what Machine/Thermal.lean does to the queue and to the keys: nothing. -/

namespace Sys2Proof.Machine

@[simp] theorem State.thWr_ground (s : State) (r : Row) (v : Nat) (i : Nat) :
    (State.thWr s r v i).ground = s.ground := by simp [State.thWr]

@[simp] theorem State.broken_ground (s : State) (n : Nat) (ext : Bool) :
    (State.broken s n ext).ground = s.ground := by simp [State.broken]

@[simp] theorem State.showRate_ground (s : State) (p : Nat) :
    (State.showRate s p).ground = s.ground := by simp [State.showRate]

@[simp] theorem State.convert_ground (s : State) (r : TempReading) :
    (State.convert s r).ground = s.ground := by simp [State.convert]

@[simp] theorem State.windowLook_ground (s : State) (fuse : Bool) :
    (State.windowLook s fuse).ground = s.ground := by simp [State.windowLook]

@[simp] theorem State.windows_ground (s : State) : (State.windows s).ground = s.ground := by simp [State.windows]

theorem execTempConversion_ground (readings : List TempReading) (s : State) :
    ∃ s', execTempConversion readings s = .next s' ∧ s'.ground = s.ground := ⟨_, rfl, by simp⟩

@[simp] theorem State.suspect_ground (s : State) (p rule : Nat) :
    (State.suspect s p rule).ground = s.ground := by simp [State.suspect]

@[simp] theorem State.modelCheck_ground (s : State) (j : Nat) :
    (State.modelCheck s j).ground = s.ground := by
  unfold State.modelCheck; dsimp only; (repeat' split) <;> simp (maxDischargeDepth := 6)

theorem execModelEvaluation_ground (s : State) :
    ∃ s', execModelEvaluation s = .next s' ∧ s'.ground = s.ground := ⟨_, rfl, by simp⟩

@[simp] theorem State.zoneEnter_ground (s : State) (z st : Nat) (t r : Nat × Int) :
    (State.zoneEnter s z st t r).ground = s.ground := by unfold State.zoneEnter; (repeat' split) <;> simp

@[simp] theorem State.zoneMove_ground (s : State) (z st st' : Nat) (t r : Nat × Int) :
    (State.zoneMove s z st st' t r).ground = s.ground := by simp [State.zoneMove]

@[simp] theorem State.board_ground (s : State) : (State.board s).ground = s.ground := by simp [State.board]

@[simp] theorem State.zoneEvaluate_ground (s : State) (z : Nat) :
    (State.zoneEvaluate s z).ground = s.ground := by simp [State.zoneEvaluate]

theorem execZoneEvaluate_ground (z : Fin 33) (s : State) :
    ∃ s', execZoneEvaluate z s = .next s' ∧ s'.ground = s.ground := ⟨_, rfl, by simp⟩

@[simp] theorem State.pwWr_ground (s : State) (r : Row) (v : Nat) (i : Nat) :
    (State.pwWr s r v i).ground = s.ground := by simp [State.pwWr]

theorem execPowerMeasure_ground (readings : List (Fin 270 × Nat)) (always : Nat) (s : State) :
    ∃ s', execPowerMeasure readings always s = .next s' ∧ s'.ground = s.ground := ⟨_, rfl, by simp⟩

theorem execPcapShed_ground (s : State) :
    ∃ s', execPcapShed s = .next s' ∧ s'.ground = s.ground := by refine ⟨_, rfl, ?_⟩; (repeat' split) <;> simp

theorem execPcapLift_ground (s : State) :
    ∃ s', execPcapLift s = .next s' ∧ s'.ground = s.ground := by refine ⟨_, rfl, ?_⟩; (repeat' split) <;> simp

@[simp] theorem State.forceLevel_ground (s : State) (d level : Nat) :
    (State.forceLevel s d level).ground = s.ground := by simp [State.forceLevel]

@[simp] theorem State.setLimits_ground (s : State) (w0 w1 : Nat) :
    (State.setLimits s w0 w1).ground = s.ground := by simp [State.setLimits]

@[simp] theorem State.handover_ground (s : State) : (State.handover s).ground = s.ground := by simp [State.handover]

end Sys2Proof.Machine
end

