-- ==== Sys2Proof/Laws/Resilience.lean ====
section
/-! SUPPORT. Laws/Resilience.lean: what Machine/Resilience.lean does to the queue and to the keys: nothing. -/

namespace Sys2Proof.Machine

@[simp] theorem State.wkWr_ground (s : State) (r : Row) (v : Nat) :
    (State.wkWr s r v).ground = s.ground := by simp [State.wkWr]

@[simp] theorem State.cRead_ground (s : State) (i w : Nat) :
    (State.cRead s i w).2.ground = s.ground := by
  unfold State.cRead; dsimp only; (repeat' split) <;> simp (maxDischargeDepth := 6)

theorem execMenderWalk_ground (plane : Fin 40) (tile : Nat) (s : State) :
    ∃ s', execMenderWalk plane tile s = .next s' ∧ s'.ground = s.ground := ⟨_, rfl, by simp⟩

@[simp] theorem State.voteFix_ground (s : State) : (State.voteFix s).ground = s.ground := by simp [State.voteFix]

@[simp] theorem State.walkerRestart_ground (s : State) (i : Nat) :
    (State.walkerRestart s i).ground = s.ground := by simp [State.walkerRestart]

@[simp] theorem State.tablesOk_ground (s : State) (i : Nat) :
    (State.tablesOk s i).2.ground = s.ground := by
  unfold State.tablesOk; dsimp only; (repeat' split) <;> simp (maxDischargeDepth := 6)

theorem execWalkerRestartDone_ground (s : State) :
    ∃ s', execWalkerRestartDone s = .next s' ∧ s'.ground = s.ground := ⟨_, rfl, by simp⟩

@[simp] theorem State.retireEntry_ground (s : State) (e reason : Nat) :
    (State.retireEntry s e reason).ground = s.ground := by simp [State.retireEntry]

@[simp] theorem State.remapStart_ground (s : State) (q : Remap) :
    (State.remapStart s q).ground = s.ground := by simp [State.remapStart]

@[simp] theorem State.columnLost_ground (s : State) (q : Remap) :
    (State.columnLost s q).ground = s.ground := by simp [State.columnLost]

@[simp] theorem State.remapOr_ground (s : State) (q : Remap) :
    (State.remapOr s q).ground = s.ground := by simp [State.remapOr]

@[simp] theorem State.remapAbandon_ground (s : State) (pair : Nat) :
    (State.remapAbandon s pair).ground = s.ground := by simp [State.remapAbandon]

@[simp] theorem State.remapNext_ground (s : State) :
    (State.remapNext s).ground = s.ground := by
  unfold State.remapNext; dsimp only; (repeat' split) <;> simp (maxDischargeDepth := 6)

@[simp] theorem State.passEnd_ground (s : State) (i walk interval : Nat) (r : Row) :
    (State.passEnd s i walk interval r).ground = s.ground := by simp [State.passEnd]

@[simp] theorem State.latchStuck_ground (s : State) (i x key detail : Nat) :
    (State.latchStuck s i x key detail).ground = s.ground := by simp [State.latchStuck]

@[simp] theorem State.candidate_ground (s : State) (i x key value detail : Nat) :
    (State.candidate s i x key value detail).ground = s.ground := by
  unfold State.candidate; dsimp only; (repeat' split) <;> simp (maxDischargeDepth := 6)

@[simp] theorem State.cCluster_ground (s : State) (i c x r : Nat) :
    (State.cCluster s i c x r).2.ground = s.ground := by
  unfold State.cCluster
  rw [foldl_snd_ground]
  intro a n
  exact State.cRead_ground ..

@[simp] theorem State.compareCluster_ground (s : State) (i k c x r : Nat) (staged : Bool) :
    (State.compareCluster s i k c x r staged).ground = s.ground := by
  unfold State.compareCluster
  dsimp only
  rw [elim_ground]
  · exact State.cCluster_ground ..
  · intro ws
    (try dsimp only)
    (repeat' split) <;> simp

@[simp] theorem State.latchCompare_ground (s : State) (i : Nat) (staged : Bool) (r : Nat) :
    (State.latchCompare s i staged r).ground = s.ground := by simp [State.latchCompare]

theorem execLatchCompare_ground (region : Fin 40) (staged : Bool) (r : Fin 320) (s : State) :
    ∃ s', execLatchCompare region staged r s = .next s' ∧ s'.ground = s.ground := ⟨_, rfl, by simp⟩

@[simp] theorem State.walkRow_ground (s : State) (i row : Nat) (a1 : Nat) :
    (State.walkRow s i row a1).ground = s.ground := by
  induction a1 generalizing s with
  | zero => rfl
  | succ n ih => simp [State.walkRow, ih]

@[simp] theorem State.arrayWalk_ground (s : State) (i : Nat) :
    (State.arrayWalk s i).ground = s.ground := by simp [State.arrayWalk]

theorem execArrayWalkRead_ground (region : Fin 40) (s : State) :
    ∃ s', execArrayWalkRead region s = .next s' ∧ s'.ground = s.ground := ⟨_, rfl, by simp⟩

@[simp] theorem State.causewayDead_ground (s : State) (pair x r signal place : Nat) :
    (State.causewayDead s pair x r signal place).ground = s.ground := by simp [State.causewayDead]

@[simp] theorem State.viaFail_ground (s : State) (pair layer group x r signal : Nat) :
    (State.viaFail s pair layer group x r signal).ground = s.ground := by
  unfold State.viaFail; dsimp only; (repeat' split) <;> simp (maxDischargeDepth := 6)

theorem execViaFail_ground (pair : Fin 20) (layer : Fin 2) (group : Fin 4) (x : Fin 64) (r : Fin 320) (signal : Fin
    64) (s : State) :
    ∃ s', execViaFail pair layer group x r signal s = .next s' ∧ s'.ground = s.ground := ⟨_, rfl, by simp⟩

@[simp] theorem State.setWear_ground (s : State) (m : Nat) (v : Wear) :
    (State.setWear s m v).ground = s.ground := by simp [State.setWear]

@[simp] theorem State.wearJudge_ground (s : State) (m : Nat) :
    (State.wearJudge s m).ground = s.ground := by simp [State.wearJudge]

theorem execWearStep_ground (m : Fin 84) (s : State) :
    ∃ s', execWearStep m s = .next s' ∧ s'.ground = s.ground := ⟨_, rfl, by simp⟩

@[simp] theorem State.sliceStart_ground (s : State) (kind e : Nat) :
    (State.sliceStart s kind e).ground = s.ground := by simp [State.sliceStart]

theorem execSelftestSlice_ground (kind : Fin 11) (entry : Fin 354) (foreground : Bool) (s : State) :
    ∃ s', execSelftestSlice kind entry foreground s = .next s' ∧ s'.ground = s.ground := ⟨_, rfl, by simp⟩

@[simp] theorem State.spareFails_ground (s : State) (e : Nat) :
    (State.spareFails s e).ground = s.ground := by simp [State.spareFails]

@[simp] theorem State.sliceFailed_ground (s : State) (kind e detail : Nat) :
    (State.sliceFailed s kind e detail).ground = s.ground := by unfold State.sliceFailed; (repeat' split) <;> simp

@[simp] theorem State.wearReading_ground (s : State) (detail : Nat) :
    (State.wearReading s detail).ground = s.ground := by simp [State.wearReading]

@[simp] theorem State.sliceDone_ground (s : State) (kind e : Nat) (fail : Bool) (detail : Nat) :
    (State.sliceDone s kind e fail detail).ground = s.ground := by unfold State.sliceDone; (repeat' split) <;> simp

theorem execSliceDone_ground (kind : Fin 11) (entry : Fin 354) (fail : Bool) (detail : Nat) (s : State) :
    ∃ s', execSliceDone kind entry fail detail s = .next s' ∧ s'.ground = s.ground := ⟨_, rfl, by simp⟩

end Sys2Proof.Machine
end

