-- ==== Sys2Proof/Laws/PageOps.lean ====
section
/-! SUPPORT. Laws/PageOps.lean: what Machine/PageOps.lean does to the queue and to the keys: nothing. -/

namespace Sys2Proof.Machine

@[simp] theorem State.ownerWrite_ground (s : State) (ag pg w : Nat) :
    (State.ownerWrite s ag pg w).ground = s.ground := by simp [State.ownerWrite]

@[simp] theorem State.keyWrite_ground (s : State) (ag pg v : Nat) :
    (State.keyWrite s ag pg v).ground = s.ground := by simp [State.keyWrite]

@[simp] theorem State.voteWord_ground (s : State) (ag pg w : Nat) :
    (State.voteWord s ag pg w).ground = s.ground := by unfold State.voteWord; (repeat' split) <;> simp

@[simp] theorem State.irqClear_ground (s : State) (pg w : Nat) :
    (State.irqClear s pg w).ground = s.ground := by simp [State.irqClear]

@[simp] theorem State.teSrst_ground (s : State) (t : Nat) :
    (State.teSrst s t).ground = s.ground := by simp [State.teSrst]

@[simp] theorem State.shSrst_ground (s : State) (k : Nat) :
    (State.shSrst s k).ground = s.ground := by simp [State.shSrst]

@[simp] theorem State.blockSrst_ground (s : State) (e : Nat) :
    (State.blockSrst s e).ground = s.ground := by unfold State.blockSrst; (repeat' split) <;> simp

@[simp] theorem State.srst_ground (s : State) (pg : Nat) :
    (State.srst s pg).ground = s.ground := by unfold State.srst; (repeat' split) <;> simp

@[simp] theorem State.profileReq_ground (s : State) (ag pg p : Nat) :
    (State.profileReq s ag pg p).ground = s.ground := by unfold State.profileReq; (repeat' split) <;> simp

@[simp] theorem State.profileTake_ground (s : State) (e : Nat) :
    (State.profileTake s e).ground = s.ground := by simp [State.profileTake]

@[simp] theorem State.releaseResource_ground (s : State) (idx : Nat) :
    (State.releaseResource s idx).ground = s.ground := by simp [State.releaseResource]

@[simp] theorem State.ownerWord_ground (s : State) (ag idx w : Nat) :
    (State.ownerWord s ag idx w).ground = s.ground := by simp [State.ownerWord]

@[simp] theorem State.releaseAgent_ground (s : State) (ag : Nat) :
    (State.releaseAgent s ag).ground = s.ground := by simp [State.releaseAgent]

@[simp] theorem State.chanWrite_ground (s : State) (ag p c off w : Nat) :
    (State.chanWrite s ag p c off w).ground = s.ground := by unfold State.chanWrite; (repeat' split) <;> simp

@[simp] theorem State.chanDone_ground (s : State) (p c : Nat) (ws : List Nat) :
    (State.chanDone s p c ws).ground = s.ground := by simp [State.chanDone]

@[simp] theorem State.mailReply_ground (s : State) (p c result : Nat) (ws : List Nat) :
    (State.mailReply s p c result ws).ground = s.ground := by
  unfold State.mailReply; dsimp only; (repeat' split) <;> simp (maxDischargeDepth := 6)

@[simp] theorem State.patchVerify_ground (s : State) (p : Nat) :
    (State.patchVerify s p).ground = s.ground := by simp [State.patchVerify]

@[simp] theorem State.procRestart_ground (s : State) (p : Nat) :
    (State.procRestart s p).ground = s.ground := by
  unfold State.procRestart
  dsimp only
  rw [State.each_ground]
  · simp
  · intro c s
    (try dsimp only)
    split <;> simp

@[simp] theorem State.logPut_ground (s : State) (k seq : Nat) (r : LogRec) :
    (State.logPut s k seq r).ground = s.ground := by simp [State.logPut]

@[simp] theorem State.logTake_ground (s : State) :
    (State.logTake s).ground = s.ground := by unfold State.logTake; (repeat' split) <;> simp

@[simp] theorem State.logRdWrite_ground (s : State) (v : Nat) :
    (State.logRdWrite s v).ground = s.ground := by simp [State.logRdWrite]

@[simp] theorem State.vdpLook_ground (s : State) (first : Bool) :
    (State.vdpLook s first).ground = s.ground := by simp [State.vdpLook]

end Sys2Proof.Machine
end

