-- ==== Sys2Proof/Laws/Access.lean ====
section
/-! SUPPORT. Laws/Access.lean: what Machine/Access.lean does to the queue and to the keys: nothing. -/

namespace Sys2Proof.Machine

@[simp] theorem State.setGio_ground (s : State) (b : Nat) (v : GioPipe) :
    (State.setGio s b v).ground = s.ground := by simp [State.setGio]

@[simp] theorem State.clearRc_ground (s : State) (pg off : Nat) :
    (State.clearRc s pg off).ground = s.ground := by simp [State.clearRc]

@[simp] theorem State.readServed_ground (s : State) (pg off : Nat) :
    (State.readServed s pg off).ground = s.ground := by
  unfold State.readServed
  split
  rename_i n t h
  have ht : t.ground = s.ground := by
    split at h <;> cases h <;> simp
  dsimp only
  refine (ground_pending_keys (State.clearRc _ pg off)).trans ((State.clearRc_ground ..).trans ?_)
  refine (State.doIf_ground _ _ _ fun u => ?_).trans ?_
  · exact ground_pending_keys u
  · exact (ground_pending_keys t).trans ht

@[simp] theorem State.paramAnswer_ground (s : State) (ag pg off : Nat) :
    (State.paramAnswer s ag pg off).ground = s.ground := by
  unfold State.paramAnswer; dsimp only; (repeat' split) <;> simp (maxDischargeDepth := 6)

@[simp] theorem State.windowWrite_ground (s : State) (w : Window) (v : Nat) :
    (State.windowWrite s w v).ground = s.ground := by unfold State.windowWrite; (repeat' split) <;> simp

@[simp] theorem State.windowRead_ground (s : State) (ag a : Nat) (w : Window) :
    (State.windowRead s ag a w).ground = s.ground := by
  unfold State.windowRead; dsimp only; (repeat' split) <;> simp (maxDischargeDepth := 6)

@[simp] theorem State.pageRead_ground (s : State) (ag a size : Nat) :
    (State.pageRead s ag a size).ground = s.ground := by unfold State.pageRead; (repeat' split) <;> simp

@[simp] theorem State.fieldWrite_ground (s : State) (pg w : Nat) (rwl : Bool) (x : Refused) (f : Row × Nat) :
    (State.fieldWrite s pg w rwl x f).2.ground = s.ground := by unfold State.fieldWrite; (repeat' split) <;> simp

@[simp] theorem State.fieldsWrite_ground (s : State) (ag pg off w : Nat) (rwl : Bool) (keep : Row → Bool) :
    (State.fieldsWrite s ag pg off w rwl keep).ground = s.ground := by simp [State.fieldsWrite]

@[simp] theorem State.unless_ground (s : State) (ag pg off w : Nat) (rwl : Bool) (r : Row) (i : Nat) (busy : Bool) :
    (State.unless s ag pg off w rwl r i busy).ground = s.ground := by simp [State.unless]

@[simp] theorem State.enWrite_ground (s : State) (pg v : Nat) :
    (State.enWrite s pg v).ground = s.ground := by unfold State.enWrite; (repeat' split) <;> simp

@[simp] theorem State.headerWrite_ground (s : State) (ag pg off w : Nat) (rwl : Bool) :
    (State.headerWrite s ag pg off w rwl).ground = s.ground := by unfold State.headerWrite; (repeat' split) <;> simp

@[simp] theorem State.timingWrite_ground (s : State) (ag off w : Nat) (rwl : Bool) :
    (State.timingWrite s ag off w rwl).ground = s.ground := by unfold State.timingWrite; (repeat' split) <;> simp

@[simp] theorem State.milestoneWrite_ground (s : State) (ag pg off w : Nat) (rwl : Bool) :
    (State.milestoneWrite s ag pg off w rwl).ground = s.ground := by simp [State.milestoneWrite]

@[simp] theorem State.clockWrite_ground (s : State) (ag off w : Nat) (rwl : Bool) :
    (State.clockWrite s ag off w rwl).ground = s.ground := by simp [State.clockWrite]

@[simp] theorem State.pllWrite_ground (s : State) (ag p off w : Nat) (rwl : Bool) :
    (State.pllWrite s ag p off w rwl).ground = s.ground := by unfold State.pllWrite; (repeat' split) <;> simp

@[simp] theorem State.regionWrite_ground (s : State) (ag i off w : Nat) (rwl : Bool) :
    (State.regionWrite s ag i off w rwl).ground = s.ground := by unfold State.regionWrite; (repeat' split) <;> simp

@[simp] theorem State.engineRegWrite_ground (s : State) (ag t off w : Nat) (rwl : Bool) :
    (State.engineRegWrite s ag t off w rwl).ground = s.ground := by
  unfold State.engineRegWrite; (repeat' split) <;> simp

@[simp] theorem State.shallotWrite_ground (s : State) (ag k off w : Nat) (rwl : Bool) :
    (State.shallotWrite s ag k off w rwl).ground = s.ground := by unfold State.shallotWrite; (repeat' split) <;> simp

@[simp] theorem State.txRegWrite_ground (s : State) (ag g off w : Nat) (rwl : Bool) :
    (State.txRegWrite s ag g off w rwl).ground = s.ground := by unfold State.txRegWrite; (repeat' split) <;> simp

@[simp] theorem State.rxRegWrite_ground (s : State) (ag g off w : Nat) (rwl : Bool) :
    (State.rxRegWrite s ag g off w rwl).ground = s.ground := by unfold State.rxRegWrite; (repeat' split) <;> simp

@[simp] theorem State.ddrRegWrite_ground (s : State) (ag c off w : Nat) (rwl : Bool) :
    (State.ddrRegWrite s ag c off w rwl).ground = s.ground := by simp [State.ddrRegWrite]

@[simp] theorem State.networkWrite_ground (s : State) (ag off w : Nat) (rwl : Bool) :
    (State.networkWrite s ag off w rwl).ground = s.ground := by simp [State.networkWrite]

@[simp] theorem State.pcieWrite_ground (s : State) (ag off w : Nat) (rwl : Bool) :
    (State.pcieWrite s ag off w rwl).ground = s.ground := by simp [State.pcieWrite]

@[simp] theorem State.blockWrite_ground (s : State) (ag pg off w : Nat) (rwl : Bool) :
    (State.blockWrite s ag pg off w rwl).ground = s.ground := by unfold State.blockWrite; (repeat' split) <;> simp

@[simp] theorem State.pageWrite_ground (s : State) (ag a size v : Nat) (rwl : Bool) :
    (State.pageWrite s ag a size v rwl).ground = s.ground := by unfold State.pageWrite; (repeat' split) <;> simp

@[simp] theorem State.bulkWrite_ground (s : State) (a w : Nat) :
    ∀ t ∈ State.bulkWrite s a w, t.ground = s.ground := by
  intro t ht
  unfold State.bulkWrite at ht
  (try dsimp only at ht)
  (repeat' split at ht) <;> cases ht <;> simp

end Sys2Proof.Machine
end

