-- ==== Sys2Proof/Laws/Maps.lean ====
section
/-! SUPPORT. Laws/Maps.lean: what the sparse maps answer after each operation, and that every operation keeps their canonical
form. -/

namespace Sys2Proof.Machine

variable {α : Type}

/-! ### What a read answers -/

@[simp] theorem mget_nil (d : α) (k : Nat) : mget d [] k = d := rfl

theorem mget_cons (d : α) (e : Nat × α) (m : List (Nat × α)) (k : Nat) :
    mget d (e :: m) k = if k = e.1 then e.2 else mget d m k := rfl

@[simp] theorem mget_mput_same (d : α) (m : List (Nat × α)) (k : Nat) (v : α) : mget d (mput m k v) k = v := by
  induction m with
  | nil => simp [mput, mget]
  | cons e m ih =>
    unfold mput
    split
    · simp [mget]
    · split
      · simp [mget]
      · rename_i h
        simp [mget, h, ih]

theorem mget_mput_ne (d : α) (m : List (Nat × α)) {k j : Nat} (v : α) (h : j ≠ k) : mget d (mput m k v) j = mget d m j := by
  induction m with
  | nil => simp [mput, mget, h]
  | cons e m ih =>
    unfold mput
    split
    · simp [mget, h]
    · split
      · rename_i h'
        subst h'
        simp [mget, h]
      · simp [mget, ih]

@[simp] theorem mget_mdel_same (d : α) (m : List (Nat × α)) (k : Nat) : mget d (mdel m k) k = d := by
  induction m with
  | nil => rfl
  | cons e m ih =>
    unfold mdel
    split
    · exact ih
    · rename_i h
      simp [mget, h, ih]

theorem mget_mdel_ne (d : α) (m : List (Nat × α)) {k j : Nat} (h : j ≠ k) : mget d (mdel m k) j = mget d m j := by
  induction m with
  | nil => rfl
  | cons e m ih =>
    unfold mdel
    split
    · rename_i h'
      subst h'
      simp [mget, h, ih]
    · simp [mget, ih]

@[simp] theorem mget_mset_same [DecidableEq α] (d : α) (m : List (Nat × α)) (k : Nat) (v : α) :
    mget d (mset d m k v) k = v := by
  unfold mset
  split
  · rename_i h
    simp [h]
  · simp

theorem mget_mset_ne [DecidableEq α] (d : α) (m : List (Nat × α)) {k j : Nat} (v : α) (h : j ≠ k) :
    mget d (mset d m k v) j = mget d m j := by
  unfold mset
  split
  · exact mget_mdel_ne d m h
  · exact mget_mput_ne d m v h

theorem mget_filter (d : α) (p : Nat → Bool) (m : List (Nat × α)) (k : Nat) :
    mget d (m.filter fun e => p e.1) k = if p k then mget d m k else d := by
  induction m with
  | nil => simp
  | cons e m ih =>
    simp only [List.filter_cons]
    split
    · rename_i h
      simp only [mget_cons, ih]
      split
      · rename_i h'
        subst h'
        simp [h]
      · rfl
    · rename_i h
      rw [ih, mget_cons]
      split
      · rename_i hk
        split
        · rename_i h'
          subst h'
          exact absurd hk h
        · rfl
      · rfl

/-- A cleared range reads as the default, and nothing else changes. -/
theorem mget_mclear (d : α) (m : List (Nat × α)) (lo n k : Nat) :
    mget d (mclear m lo n) k = if lo ≤ k ∧ k < lo + n then d else mget d m k := by
  have h := mget_filter d (fun j => !(lo ≤ j && j < lo + n)) m k
  unfold mclear
  rw [h]
  by_cases hk : lo ≤ k ∧ k < lo + n
  · simp [hk]
  · simp only [hk, if_false]
    rw [if_pos]
    simp; omega

/-! ### The canonical form -/

/-- The canonical form, said of the list as a whole. -/
theorem mwf_iff [DecidableEq α] (d : α) (m : List (Nat × α)) :
    mwf d m = true ↔ m.Pairwise (fun a b => a.1 < b.1) ∧ ∀ e ∈ m, e.2 ≠ d := by
  induction m with
  | nil => simp [mwf]
  | cons e m ih =>
    obtain ⟨k, v⟩ := e
    simp only [mwf, Bool.and_eq_true, decide_eq_true_eq, ih, List.pairwise_cons, List.mem_cons, forall_eq_or_imp]
    constructor
    · rintro ⟨⟨hv, hk⟩, hp, hd⟩
      refine ⟨⟨?_, hp⟩, by simpa using hv, hd⟩
      intro b hb
      cases m with
      | nil => cases hb
      | cons c m =>
        have hkc : k < c.1 := by simpa using hk
        rcases List.mem_cons.1 hb with rfl | hb
        · exact hkc
        · exact Nat.lt_trans hkc ((List.pairwise_cons.1 hp).1 b hb)
    · rintro ⟨⟨hk, hp⟩, hv, hd⟩
      refine ⟨⟨by simpa using hv, ?_⟩, hp, hd⟩
      cases m with
      | nil => rfl
      | cons c m => simpa using hk c List.mem_cons_self

theorem mwf_nil [DecidableEq α] (d : α) : mwf d [] = true := rfl

theorem mem_mdel {m : List (Nat × α)} {k : Nat} {e : Nat × α} : e ∈ mdel m k ↔ e ∈ m ∧ e.1 ≠ k := by
  induction m with
  | nil => simp [mdel]
  | cons c m ih =>
    unfold mdel
    split
    · rename_i h
      rw [ih, List.mem_cons]
      constructor
      · rintro ⟨a, b⟩
        exact ⟨.inr a, b⟩
      · rintro ⟨a | a, b⟩
        · exact absurd (by rw [a]; exact h.symm) b
        · exact ⟨a, b⟩
    · rename_i h
      rw [List.mem_cons, ih, List.mem_cons]
      constructor
      · rintro (a | ⟨a, b⟩)
        · exact ⟨.inl a, by rw [a]; exact fun q => h q.symm⟩
        · exact ⟨.inr a, b⟩
      · rintro ⟨a | a, b⟩
        · exact .inl a
        · exact .inr ⟨a, b⟩

theorem mem_mput {m : List (Nat × α)} {k : Nat} {v : α} {e : Nat × α} (h : e ∈ mput m k v) : e = (k, v) ∨ e ∈ m := by
  induction m with
  | nil => simpa [mput] using h
  | cons c m ih =>
    unfold mput at h
    split at h
    · simpa using h
    · split at h
      · rcases List.mem_cons.1 h with h | h
        · exact .inl h
        · exact .inr (List.mem_cons_of_mem _ h)
      · rcases List.mem_cons.1 h with h | h
        · exact .inr (h ▸ List.mem_cons_self)
        · exact (ih h).imp id (List.mem_cons_of_mem _)

theorem pairwise_mdel {m : List (Nat × α)} (k : Nat) (h : m.Pairwise fun a b => a.1 < b.1) :
    (mdel m k).Pairwise fun a b => a.1 < b.1 := by
  induction m with
  | nil => exact h
  | cons c m ih =>
    have hc := List.pairwise_cons.1 h
    unfold mdel
    split
    · exact ih hc.2
    · exact List.pairwise_cons.2 ⟨fun e he => hc.1 e (mem_mdel.1 he).1, ih hc.2⟩

theorem pairwise_mput {m : List (Nat × α)} (k : Nat) (v : α) (h : m.Pairwise fun a b => a.1 < b.1) :
    (mput m k v).Pairwise fun a b => a.1 < b.1 := by
  induction m with
  | nil => simp [mput]
  | cons c m ih =>
    have hc := List.pairwise_cons.1 h
    unfold mput
    split
    · rename_i hk
      refine List.pairwise_cons.2 ⟨?_, h⟩
      intro e he
      rcases List.mem_cons.1 he with rfl | he
      · exact hk
      · exact Nat.lt_trans hk (hc.1 e he)
    · split
      · rename_i hk
        subst hk
        exact List.pairwise_cons.2 ⟨hc.1, hc.2⟩
      · rename_i h1 h2
        refine List.pairwise_cons.2 ⟨?_, ih hc.2⟩
        intro e he
        rcases mem_mput he with rfl | he
        · exact Nat.lt_of_le_of_ne (Nat.le_of_not_lt h1) fun q => h2 q.symm
        · exact hc.1 e he

theorem mwf_mput [DecidableEq α] {d : α} {m : List (Nat × α)} (k : Nat) {v : α} (hv : v ≠ d) (h : mwf d m = true) :
    mwf d (mput m k v) = true := by
  rw [mwf_iff] at *
  refine ⟨pairwise_mput k v h.1, fun e he => ?_⟩
  rcases mem_mput he with rfl | he
  · exact hv
  · exact h.2 e he

theorem mwf_mdel [DecidableEq α] {d : α} {m : List (Nat × α)} (k : Nat) (h : mwf d m = true) : mwf d (mdel m k) = true := by
  rw [mwf_iff] at *
  exact ⟨pairwise_mdel k h.1, fun e he => h.2 e (mem_mdel.1 he).1⟩

theorem mwf_mset [DecidableEq α] {d : α} {m : List (Nat × α)} (k : Nat) (v : α) (h : mwf d m = true) :
    mwf d (mset d m k v) = true := by
  unfold mset
  split
  · exact mwf_mdel k h
  · rename_i hv
    exact mwf_mput k hv h

theorem mwf_msets [DecidableEq α] {d : α} {m : List (Nat × α)} (k : Nat) (vs : List α) (h : mwf d m = true) :
    mwf d (msets d m k vs) = true := by
  induction vs generalizing m k with
  | nil => exact h
  | cons v vs ih => exact ih (k + 1) (mwf_mset k v h)

theorem mwf_filter [DecidableEq α] {d : α} {m : List (Nat × α)} (p : Nat × α → Bool) (h : mwf d m = true) :
    mwf d (m.filter p) = true := by
  rw [mwf_iff] at *
  exact ⟨h.1.sublist List.filter_sublist, fun e he => h.2 e ((List.mem_filter.1 he).1)⟩

theorem mwf_mclear [DecidableEq α] {d : α} {m : List (Nat × α)} (lo n : Nat) (h : mwf d m = true) :
    mwf d (mclear m lo n) = true := mwf_filter _ h

theorem mwf_foldl_mput [DecidableEq α] {d : α} (g : Nat × α → Nat) (es m : List (Nat × α)) (he : ∀ e ∈ es, e.2 ≠ d)
    (h : mwf d m = true) : mwf d (es.foldl (fun acc e => mput acc (g e) e.2) m) = true := by
  induction es generalizing m with
  | nil => exact h
  | cons e es ih =>
    exact ih _ (fun x hx => he x (List.mem_cons_of_mem _ hx)) (mwf_mput _ (he e List.mem_cons_self) h)

theorem mwf_mcopy [DecidableEq α] {d : α} {a m : List (Nat × α)} (src dst n : Nat) (ha : mwf d a = true) (h : mwf d m = true) :
    mwf d (mcopy a m src dst n) = true := by
  unfold mcopy
  refine mwf_foldl_mput _ _ _ (fun e he => ?_) (mwf_mclear dst n h)
  exact ((mwf_iff d a).1 ha).2 e ((List.mem_filter.1 he).1)

end Sys2Proof.Machine
end

