-- ==== Sys2Proof/Laws/Canonical.lean ====
section
/-! SUPPORT. Laws/Canonical.lean: the named writes to the addressed memories keep their canonical form, and each of these
memories lists nothing at reset. What a map operation keeps is in Laws/Maps.lean. -/

namespace Sys2Proof.Machine

/-- A write-back over a list of keys keeps the form. -/
theorem mwf_foldl_mset {α : Type} [DecidableEq α] {d : α} (f : α → α) (es m : List (Nat × α)) (h : mwf d m = true) :
    mwf d (es.foldl (fun m e => mset d m e.1 (f e.2)) m) = true := by
  induction es generalizing m with
  | nil => exact h
  | cons e es ih => exact ih _ (mwf_mset _ _ h)

theorem State.canonical_dmWrite (s : State) (t row : Nat) (vs : List Lane) (h : mwf 0 s.dm = true) :
    mwf 0 (s.dmWrite t row vs).dm = true := mwf_msets _ _ h

theorem State.canonical_dmWindowWrite (s : State) (t row lane v : Nat) (h : mwf 0 s.dm = true) :
    mwf 0 (s.dmWindowWrite t row lane v).dm = true := mwf_mset _ _ h

theorem State.canonical_bmWrite (s : State) (i blk b d : Nat) (h : mwf 0 s.bm = true) :
    mwf 0 (s.bmWrite i blk b d).bm = true := mwf_mset _ _ h

theorem State.canonical_sbWrite (s : State) (i bank x r q : Nat) (h : mwf 0 s.sbank = true) :
    mwf 0 (s.sbWrite i bank x r q).sbank = true := mwf_mset _ _ (mwf_mset _ _ h)

theorem canonical_reset : mwf {} State.reset.ddr = true ∧ mwf 0 State.reset.bm = true ∧ mwf 0 State.reset.sbank = true ∧
    mwf 0 State.reset.dm = true ∧ mwf {} State.reset.im = true ∧ mwf {} State.reset.gold = true ∧
    mwf 0 State.reset.latch = true ∧ mwf 0 State.reset.regs = true := by decide +kernel

end Sys2Proof.Machine
end

