-- ==== Sys2Proof/Laws/Codes.lean ====
section
/-! SUPPORT. Laws/Codes.lean: bounds of the check codes, and the lengths of digests. -/

namespace Sys2Proof.Machine

theorem foldl_lt {α : Type} (n : Nat) (f : Nat → α → Nat) (xs : List α) (c : Nat) (hc : c < n)
    (h : ∀ c x, c < n → x ∈ xs → f c x < n) : xs.foldl f c < n := by
  induction xs generalizing c with
  | nil => exact hc
  | cons x xs ih =>
    exact ih _ (h c x hc (by simp)) fun c y hy hm => h c y hy (by simp [hm])

theorem crc32cBit_lt (c : Nat) (h : c < 2 ^ 32) : crc32cBit c < 2 ^ 32 := by
  unfold crc32cBit
  split
  · exact Nat.xor_lt_two_pow (by omega) (by decide)
  · omega

theorem crc32cByte_lt (c b : Nat) (h : c < 2 ^ 32) (hb : b < 2 ^ 32) : crc32cByte c b < 2 ^ 32 :=
  foldl_lt _ _ _ _ (Nat.xor_lt_two_pow h hb) fun c _ hc _ => crc32cBit_lt c hc

theorem crc32c_lt (ws : List Nat) : crc32c ws < 2 ^ 32 := by
  refine Nat.xor_lt_two_pow (foldl_lt _ _ _ _ (by decide) fun c w hc _ => ?_) (by decide)
  refine foldl_lt _ _ _ _ hc fun c i hc _ => crc32cByte_lt c _ hc ?_
  exact Nat.lt_of_lt_of_le (Nat.mod_lt _ (by decide)) (by decide)

theorem frameCrc_lt (far : Nat) (data : List Nat) : frameCrc far data < 2 ^ 32 := crc32c_lt _

/-- A frame that carries its CRC is judged by the checks that follow the CRC. -/
theorem judge_frameCrc (s : State) (far : Nat) (data : List Nat) :
    s.judge far data (some (frameCrc far data)) = s.judge far data none := by
  unfold State.judge; simp

theorem beBytes_lt (n v : Nat) : ∀ b ∈ beBytes n v, b < 256 := by
  intro b hb
  obtain ⟨i, -, rfl⟩ := List.mem_map.1 hb
  exact Nat.mod_lt _ (by decide)

theorem shaRound_length (h : List Nat) (k w : Nat) : (shaRound h k w).length = h.length := by
  unfold shaRound; split <;> simp

theorem shaBlock_length (h block : List Nat) : (shaBlock h block).length = h.length := by
  have key : ∀ (ks : List Nat) (p : List Nat × (List Nat × List Nat)), (ks.foldl (fun (p : List Nat × (List Nat × List Nat)) k =>
      match p.2.1 with
      | w :: rest => (shaRound p.1 k w, (rest, w :: p.2.2))
      | [] => let w := shaNext p.2.2; (shaRound p.1 k w, ([], w :: p.2.2.take 15))) p).1.length = p.1.length := by
    intro ks
    induction ks with
    | nil => intro p; rfl
    | cons k ks ih =>
      intro p
      rw [List.foldl_cons, ih]
      split <;> simp [shaRound_length]
  unfold shaBlock
  simp only [List.length_map, List.length_zip]
  exact (congrArg (min h.length) (key shaK (h, block, []))).trans (Nat.min_self _)

theorem sha256_length (m : List Nat) : (sha256 m).length = 32 := by
  have key : ∀ (bs : List (List Nat)) (h : List Nat), (bs.foldl shaBlock h).length = h.length := by
    intro bs
    induction bs with
    | nil => intro h; rfl
    | cons b bs ih => intro h; rw [List.foldl_cons, ih, shaBlock_length]
  have hb : ∀ h : List Nat, (h.flatMap (beBytes 4)).length = 4 * h.length := by
    intro h; induction h with
    | nil => rfl
    | cons a h ih => simp [ih, beBytes]; omega
  unfold sha256
  simp only [hb, key]
  rfl

theorem sha256_lt (m : List Nat) : ∀ b ∈ sha256 m, b < 256 := by
  intro b hb
  obtain ⟨v, -, h⟩ := List.mem_flatMap.1 hb
  exact beBytes_lt _ _ _ h

/-- Sixteen bytes are four words. -/
theorem words_of_bytes (bs : List Nat) (hl : bs.length = 16) (hb : ∀ b ∈ bs, b < 256) :
    ∃ a b c d, [a, b, c, d].flatMap leBytes = bs := by
  have four : ∀ (n : Nat) (bs : List Nat), bs.length = 4 * n → (∀ b ∈ bs, b < 256) →
      ∃ ws : List Nat, ws.length = n ∧ ws.flatMap leBytes = bs := by
    intro n
    induction n with
    | zero => intro bs h _; exact ⟨[], rfl, (List.length_eq_zero_iff.1 (by omega)).symm⟩
    | succ n ih =>
      intro bs h hb
      match bs, h with
      | a :: b :: c :: d :: bs, h =>
        obtain ⟨ws, hw, e⟩ := ih bs (by simp at h; omega) (fun x hx => hb x (by simp [hx]))
        have ha := hb a (by simp); have h1 := hb b (by simp); have h2 := hb c (by simp); have h3 := hb d (by simp)
        refine ⟨(a + b * 256 + c * 65536 + d * 16777216) :: ws, by simp [hw], ?_⟩
        simp only [List.flatMap_cons, e, leBytes, bitsOf, List.cons_append, List.nil_append, List.cons.injEq, and_true]
        omega
      | [], h => simp at h
      | [_], h => simp at h; omega
      | [_, _], h => simp at h; omega
      | [_, _, _], h => simp at h; omega
  obtain ⟨ws, hw, e⟩ := four 4 bs hl hb
  match ws, hw with
  | [a, b, c, d], _ => exact ⟨a, b, c, d, e⟩

/-- Every message has a MAC of four words, as its envelope carries it. -/
theorem mac_words (key msg : List Nat) : ∃ a b c d, (hmacSha256 key msg).take 16 = [a, b, c, d].flatMap leBytes := by
  obtain ⟨a, b, c, d, h⟩ := words_of_bytes ((hmacSha256 key msg).take 16)
    (by simp [hmacSha256, sha256_length]) fun x hx => sha256_lt _ x (List.mem_of_mem_take hx)
  exact ⟨a, b, c, d, h.symm⟩

end Sys2Proof.Machine
end

