-- ==== Sys2Proof/Laws/Loader.lean ====
section
/-! SUPPORT. Laws/Loader.lean: what Machine/Loader.lean does to the queue and to the keys: nothing. -/

namespace Sys2Proof.Machine

@[simp] theorem State.touchCtx_ground (s : State) (i c : Nat) :
    (State.touchCtx s i c).ground = s.ground := by simp [State.touchCtx]

@[simp] theorem State.writeFrame_ground (s : State) (far : Nat) (data : List Nat) :
    (State.writeFrame s far data).ground = s.ground := by simp [State.writeFrame]

@[simp] theorem State.nextFrame_ground (s : State) :
    (State.nextFrame s).ground = s.ground := by simp [State.nextFrame]

@[simp] theorem State.skipFrame_ground (s : State) (i : Nat) (data : List Nat) :
    (State.skipFrame s i data).ground = s.ground := by simp [State.skipFrame]

@[simp] theorem State.tempHold_ground (s : State) : (State.tempHold s).ground = s.ground := by simp [State.tempHold]

@[simp] theorem State.tempGo_ground (s : State) : (State.tempGo s).ground = s.ground := by simp [State.tempGo]

@[simp] theorem State.loadVote_ground (s : State) (d : Nat) :
    (State.loadVote s d).ground = s.ground := by simp [State.loadVote]

@[simp] theorem State.loadUnvote_ground (s : State) :
    (State.loadUnvote s).ground = s.ground := by simp [State.loadUnvote]

@[simp] theorem State.abortStream_ground (s : State) (why chk : Nat) (far : Option Nat) :
    (State.abortStream s why chk far).ground = s.ground := by simp [State.abortStream]

@[simp] theorem State.runJobs_ground (a1 : Nat) (a2 : State) :
    (State.runJobs a1 a2).ground = a2.ground := by
  induction a1 generalizing a2 with
  | zero => rfl
  | succ n ih =>
    unfold State.runJobs
    dsimp only
    (repeat' split) <;> simp [ih]

@[simp] theorem State.addJob_ground (s : State) (j : Job) :
    (State.addJob s j).ground = s.ground := by simp [State.addJob]

@[simp] theorem State.takeWreg_ground (s : State) (ws : List Nat) :
    (State.takeWreg s ws).ground = s.ground := by
  unfold State.takeWreg; dsimp only; (repeat' split) <;> simp (maxDischargeDepth := 6)

@[simp] theorem State.applyPair_ground (s : State) (a v : Nat) :
    (State.applyPair s a v).ground = s.ground := by simp [State.applyPair]

@[simp] theorem State.noteProfiles_ground (s : State) (pairs : List (Nat × Nat)) :
    (State.noteProfiles s pairs).ground = s.ground := by simp [State.noteProfiles]

@[simp] theorem State.applySrc_ground (s : State) : (State.applySrc s).ground = s.ground := by simp [State.applySrc]

@[simp] theorem State.applyPairs_ground (s : State) :
    (State.applyPairs s).ground = s.ground := by simp [State.applyPairs]

@[simp] theorem State.closePacket_ground (s : State) :
    (State.closePacket s).ground = s.ground := by unfold State.closePacket; (repeat' split) <;> simp

@[simp] theorem State.imagePacket_ground (s : State) (ws : List Nat) :
    (State.imagePacket s ws).ground = s.ground := by simp [State.imagePacket]

@[simp] theorem State.startPacketNow_ground (s : State) (ctx : Nat) :
    (State.startPacketNow s ctx).ground = s.ground := by simp [State.startPacketNow]

@[simp] theorem State.encBeginPacket_ground (s : State) (header : Nat) (ws : List Nat) :
    (State.encBeginPacket s header ws).ground = s.ground := by
  unfold State.encBeginPacket; dsimp only; (repeat' split) <;> simp (maxDischargeDepth := 6)

@[simp] theorem State.encTagPacket_ground (s : State) (ws : List Nat) :
    (State.encTagPacket s ws).ground = s.ground := by unfold State.encTagPacket; (repeat' split) <;> simp

@[simp] theorem State.hmacPacket_ground (s : State) (ws : List Nat) :
    (State.hmacPacket s ws).ground = s.ground := by unfold State.hmacPacket; (repeat' split) <;> simp

@[simp] theorem State.bulkWord_ground (s : State) (w : Nat) :
    (State.bulkWord s w).ground = s.ground := by
  unfold State.bulkWord
  (try dsimp only)
  (repeat' split) <;> first
    | (simp; done)
    | grind [State.bulkWrite_ground, State.setLd_ground, State.abortStream_ground]

@[simp] theorem State.packet_ground (s : State) (op : Nat) (ws : List Nat) :
    (State.packet s op ws).ground = s.ground := by
  unfold State.packet; dsimp only; (repeat' split) <;> simp (maxDischargeDepth := 6)

@[simp] theorem State.header_ground (s : State) (w : Nat) :
    (State.header s w).ground = s.ground := by
  unfold State.header; dsimp only; (repeat' split) <;> simp (maxDischargeDepth := 6)

@[simp] theorem State.payload_ground (s : State) (w : Nat) :
    (State.payload s w).ground = s.ground := by simp [State.payload]

@[simp] theorem State.packetWord_ground (s : State) (w : Nat) :
    (State.packetWord s w).ground = s.ground := by simp [State.packetWord]

@[simp] theorem State.streamWord_ground (s : State) (w : Nat) :
    (State.streamWord s w).ground = s.ground := by
  unfold State.streamWord; dsimp only; (repeat' split) <;> simp (maxDischargeDepth := 6)

@[simp] theorem State.loaderWord_ground (s : State) (src w : Nat) :
    (State.loaderWord s src w).ground = s.ground := by simp [State.loaderWord]

@[simp] theorem State.loaderWords_ground (s : State) (src : Nat) (ws : List Nat) :
    (State.loaderWords s src ws).ground = s.ground := by simp [State.loaderWords]

@[simp] theorem State.drainFifo_ground (a1 : Nat) (a2 : State) :
    (State.drainFifo a1 a2).ground = a2.ground := by
  induction a1 generalizing a2 with
  | zero => rfl
  | succ n ih =>
    unfold State.drainFifo
    (repeat' split) <;> simp [ih]

@[simp] theorem State.rebuffer_ground (s : State) (f : State → State) (hf : ∀ x0, (f x0).ground = x0.ground) :
    (State.rebuffer s f).ground = s.ground := by simp [State.rebuffer, hf]

@[simp] theorem State.cancelStream_ground (s : State) (why : Nat) :
    (State.cancelStream s why).ground = s.ground := by simp [State.cancelStream]

@[simp] theorem State.srcBusy_ground (s : State) (port : Nat) :
    (State.srcBusy s port).ground = s.ground := by simp [State.srcBusy]

@[simp] theorem State.retryFrames_ground (s : State) :
    (State.retryFrames s).ground = s.ground := by simp [State.retryFrames]

@[simp] theorem State.windowWords_ground (s : State) (ok : Bool) (ws : List Nat) :
    (State.windowWords s ok ws).ground = s.ground := by simp [State.windowWords]

@[simp] theorem State.serialIn_ground (s : State) (w : Nat) :
    (State.serialIn s w).ground = s.ground := by simp [State.serialIn]

@[simp] theorem State.parallelIn_ground (s : State) (w : Nat) :
    (State.parallelIn s w).ground = s.ground := by simp [State.parallelIn]

theorem execSyncWord_ground (port : StreamPort) (s : State) :
    ∃ s', execSyncWord port s = .next s' ∧ s'.ground = s.ground := by refine ⟨_, rfl, ?_⟩; (repeat' split) <;> simp

@[simp] theorem State.ownerWords_ground (s : State) (ws : List Nat) :
    (State.ownerWords s ws).ground = s.ground := by simp [State.ownerWords]

@[simp] theorem State.packetIn_ground (s : State) (op : Nat) (ws : List Nat) :
    (State.packetIn s op ws).ground = s.ground := by simp [State.packetIn]

theorem execStreamNop_ground (payload : List Word) (s : State) :
    ∃ s', execStreamNop payload s = .next s' ∧ s'.ground = s.ground := ⟨_, rfl, by simp⟩

theorem execImage_ground (flags member imageId zero : Word) (s : State) :
    ∃ s', execImage flags member imageId zero s = .next s' ∧ s'.ground = s.ground := ⟨_, rfl, by simp⟩

theorem execDevsel_ground (mask : BitVec 64) (s : State) :
    ∃ s', execDevsel mask s = .next s' ∧ s'.ground = s.ground := ⟨_, rfl, by simp⟩

theorem execFar_ground (a : Word) (s : State) :
    ∃ s', execFar a s = .next s' ∧ s'.ground = s.ground := ⟨_, rfl, by simp⟩

theorem execFrames_ground (fs : List FrameWords) (s : State) :
    ∃ s', execFrames fs s = .next s' ∧ s'.ground = s.ground := ⟨_, rfl, by simp⟩

theorem execFrame_ground (f : FrameWords) (s : State) :
    ∃ s', execFrame f s = .next s' ∧ s'.ground = s.ground := ⟨_, rfl, by simp⟩

theorem execHeldFrameWrite_ground (s : State) :
    ∃ s', execHeldFrameWrite s = .next s' ∧ s'.ground = s.ground := ⟨_, rfl, by simp⟩

theorem execRepeatFrames_ground (n : Word) (s : State) :
    ∃ s', execRepeatFrames n s = .next s' ∧ s'.ground = s.ground := ⟨_, rfl, by simp⟩

theorem execZeroFrames_ground (n : Word) (s : State) :
    ∃ s', execZeroFrames n s = .next s' ∧ s'.ground = s.ground := ⟨_, rfl, by simp⟩

theorem execWreg_ground (pairs : List (Word × Word)) (s : State) :
    ∃ s', execWreg pairs s = .next s' ∧ s'.ground = s.ground := ⟨_, rfl, by simp⟩

theorem execBulk_ground (addr : Word) (words : List Word) (s : State) :
    ∃ s', execBulk addr words s = .next s' ∧ s'.ground = s.ground := ⟨_, rfl, by simp⟩

theorem execRfence_ground (lo hi ctx : Word) (s : State) :
    ∃ s', execRfence lo hi ctx s = .next s' ∧ s'.ground = s.ground := ⟨_, rfl, by simp⟩

theorem execEncBegin_ground (slot iv0 iv1 iv2 len : Word) (cipher : List Word) (s : State) :
    ∃ s', execEncBegin slot iv0 iv1 iv2 len cipher s = .next s' ∧ s'.ground = s.ground := ⟨_, rfl, by simp⟩

theorem execEncTag_ground (t0 t1 t2 t3 : Word) (s : State) :
    ∃ s', execEncTag t0 t1 t2 t3 s = .next s' ∧ s'.ground = s.ground := ⟨_, rfl, by simp⟩

theorem execHmac_ground (slot : Word) (mac : BitVec 256) (s : State) :
    ∃ s', execHmac slot mac s = .next s' ∧ s'.ground = s.ground := ⟨_, rfl, by simp⟩

theorem execClose_ground (s : State) : ∃ s', execClose s = .next s' ∧ s'.ground = s.ground := ⟨_, rfl, by simp⟩

theorem execStartPacket_ground (ctx : Word) (s : State) :
    ∃ s', execStartPacket ctx s = .next s' ∧ s'.ground = s.ground := ⟨_, rfl, by simp⟩

theorem execDesync_ground (s : State) : ∃ s', execDesync s = .next s' ∧ s'.ground = s.ground := ⟨_, rfl, by simp⟩

theorem execStallTimeout_ground (s : State) :
    ∃ s', execStallTimeout s = .next s' ∧ s'.ground = s.ground := ⟨_, rfl, by simp⟩

theorem execTempHoldTimeout_ground (s : State) :
    ∃ s', execTempHoldTimeout s = .next s' ∧ s'.ground = s.ground := ⟨_, rfl, by simp⟩

theorem execLoaderWindowWrite_ground (addr : Word) (bytes : List (BitVec 8)) (s : State) :
    ∃ s', execLoaderWindowWrite addr bytes s = .next s' ∧ s'.ground = s.ground := ⟨_, rfl, by simp⟩

theorem execSerialWord_ground (w : Word) (s : State) :
    ∃ s', execSerialWord w s = .next s' ∧ s'.ground = s.ground := ⟨_, rfl, by simp⟩

theorem execSselRise_ground (partialWord : Bool) (s : State) :
    ∃ s', execSselRise partialWord s = .next s' ∧ s'.ground = s.ground := ⟨_, rfl, by simp⟩

theorem execParallelWord_ground (w : Word) (s : State) :
    ∃ s', execParallelWord w s = .next s' ∧ s'.ground = s.ground := ⟨_, rfl, by simp⟩

theorem execMemorySpaceEnable_ground (s : State) :
    ∃ s', execMemorySpaceEnable s = .next s' ∧ s'.ground = s.ground := ⟨_, rfl, by simp⟩

theorem execImageLate_ground (s : State) :
    ∃ s', execImageLate s = .next s' ∧ s'.ground = s.ground := ⟨_, rfl, by simp⟩

@[simp] theorem State.resetSwitch_ground (s : State) (i c : Nat) :
    (State.resetSwitch s i c).ground = s.ground := by simp [State.resetSwitch]

@[simp] theorem State.startRegion_ground (s : State) (i c : Nat) :
    (State.startRegion s i c).ground = s.ground := by simp [State.startRegion]

@[simp] theorem State.wakeRegion_ground (s : State) (i c : Nat) :
    (State.wakeRegion s i c).ground = s.ground := by simp [State.wakeRegion]

theorem execLoadComplete_ground (s : State) :
    ∃ s', execLoadComplete s = .next s' ∧ s'.ground = s.ground := ⟨_, rfl, by simp⟩

@[simp] theorem State.bankCluster_ground (s : State) (i bank x r : Nat) :
    (State.bankCluster s i bank x r).2.ground = s.ground := by simp [State.bankCluster]

@[simp] theorem State.bankClusters_ground (s : State) (f : Far) (a1 : Nat) :
    (State.bankClusters s f a1).2.ground = s.ground := by
  induction a1 with
  | zero => rfl
  | succ n ih => simp [State.bankClusters, ih]

@[simp] theorem State.bankFrame_ground (s : State) (f : Far) (r : Nat) :
    (State.bankFrame s f r).2.2.ground = s.ground := by simp [State.bankFrame]

@[simp] theorem State.bmBytes_ground (s : State) (f : Far) (a1 : Nat) :
    (State.bmBytes s f a1).2.ground = s.ground := by
  induction a1 with
  | zero => rfl
  | succ n ih => simp [State.bmBytes, ih]

@[simp] theorem State.bmFrame_ground (s : State) (f : Far) (k : Nat) :
    (State.bmFrame s f k).2.2.ground = s.ground := by simp [State.bmFrame]

@[simp] theorem State.readFrame_ground (s : State) (far : Nat) :
    (State.readFrame s far).2.2.ground = s.ground := by
  unfold State.readFrame
  generalize 320 = a
  generalize 2048 = b
  dsimp only
  (repeat' split) <;> simp

theorem execReadback_ground (ag : Agent) (s : State) :
    ∃ s', execReadback ag s = .next s' ∧ s'.ground = s.ground := ⟨_, rfl, by simp⟩

theorem execReadbackDone_ground (s : State) :
    ∃ s', execReadbackDone s = .next s' ∧ s'.ground = s.ground := ⟨_, rfl, by simp⟩

end Sys2Proof.Machine
end

