-- ==== Sys2Proof/Laws/Pages.lean ====
section
/-! SUPPORT. Laws/Pages.lean: what Machine/Pages.lean does to the queue and to the keys: nothing. -/

namespace Sys2Proof.Machine

@[simp] theorem State.registerWrite_ground (s : State) (ag a size v : Nat) :
    (State.registerWrite s ag a size v).ground = s.ground := by simp [State.registerWrite]

theorem execRegisterWrite_ground (ag : Agent) (addr : Word) (size : Nat) (v : Word) (s : State) :
    ∃ s', execRegisterWrite ag addr size v s = .next s' ∧ s'.ground = s.ground := ⟨_, rfl, by simp⟩

theorem execRcRead_ground (ag : Agent) (rd : ReadAt) (s : State) :
    ∃ s', execRcRead ag rd s = .next s' ∧ s'.ground = s.ground := ⟨_, rfl, by simp⟩

theorem execLowWordRead_ground (ag : Agent) (rd : ReadAt) (s : State) :
    ∃ s', execLowWordRead ag rd s = .next s' ∧ s'.ground = s.ground := ⟨_, rfl, by simp⟩

@[simp] theorem State.mgtAccess_ground (s : State) (i addr : Nat) (wr : Bool) (wdata : Nat) :
    (State.mgtAccess s i addr wr wdata).ground = s.ground := by simp [State.mgtAccess]

theorem execMgtPortAccess_ground (region : Fin 40) (addr : Word) (wr : Bool) (wdata : Word) (s : State) :
    ∃ s', execMgtPortAccess region addr wr wdata s = .next s' ∧ s'.ground = s.ground := ⟨_, rfl, by simp⟩

@[simp] theorem State.onHeader_ground (s : State) (ag pg : Nat) (f : State → State) (hf : ∀ x0, (f x0).ground =
    x0.ground) :
    (State.onHeader s ag pg f).ground = s.ground := by simp [State.onHeader, hf]

theorem execIrqStatWrite_ground (ag : Agent) (page : BitVec 16) (v : Word) (s : State) :
    ∃ s', execIrqStatWrite ag page v s = .next s' ∧ s'.ground = s.ground := ⟨_, rfl, by simp⟩

theorem execKeyWrite_ground (ag : Agent) (page : BitVec 16) (v : Word) (s : State) :
    ∃ s', execKeyWrite ag page v s = .next s' ∧ s'.ground = s.ground := ⟨_, rfl, by simp⟩

theorem execPageClaim_ground (ag : Agent) (page : BitVec 16) (v : Word) (s : State) :
    ∃ s', execPageClaim ag page v s = .next s' ∧ s'.ground = s.ground := ⟨_, rfl, by simp⟩

theorem execPageRelease_ground (ag : Agent) (page : BitVec 16) (v : Word) (s : State) :
    ∃ s', execPageRelease ag page v s = .next s' ∧ s'.ground = s.ground := ⟨_, rfl, by simp⟩

theorem execVoteWrite_ground (ag : Agent) (page : BitVec 16) (v : Word) (s : State) :
    ∃ s', execVoteWrite ag page v s = .next s' ∧ s'.ground = s.ground := ⟨_, rfl, by simp⟩

theorem execSrst_ground (ag : Agent) (page : BitVec 16) (s : State) :
    ∃ s', execSrst ag page s = .next s' ∧ s'.ground = s.ground := ⟨_, rfl, by simp⟩

theorem execProfileRequest_ground (ag : Agent) (page : BitVec 16) (p : BitVec 2) (s : State) :
    ∃ s', execProfileRequest ag page p s = .next s' ∧ s'.ground = s.ground := ⟨_, rfl, by simp⟩

theorem execProfileChange_ground (entry : Fin 354) (s : State) :
    ∃ s', execProfileChange entry s = .next s' ∧ s'.ground = s.ground := ⟨_, rfl, by simp⟩

theorem execOwnerWordRelease_ground (ag : Agent) (idx : Fin 2016) (v : Word) (s : State) :
    ∃ s', execOwnerWordRelease ag idx v s = .next s' ∧ s'.ground = s.ground := ⟨_, rfl, by simp⟩

@[simp] theorem State.afterResponse_ground (s : State) (p c : Nat) :
    (State.afterResponse s p c).ground = s.ground := by simp [State.afterResponse]

theorem execMailboxResponse_ground (proc : Fin 4) (ch : Fin 3) (s : State) :
    ∃ s', execMailboxResponse proc ch s = .next s' ∧ s'.ground = s.ground := by
  unfold execMailboxResponse; refine ⟨_, rfl, ?_⟩; (try simp (maxDischargeDepth := 6)); intros; (repeat' split) <;>
    (try simp (maxDischargeDepth := 6)) <;> intros <;> (repeat' split) <;> simp_all (maxDischargeDepth := 6)

theorem execMailboxTimeout_ground (proc : Fin 4) (ch : Fin 3) (s : State) :
    ∃ s', execMailboxTimeout proc ch s = .next s' ∧ s'.ground = s.ground := ⟨_, rfl, by simp⟩

theorem execBadOpcode_ground (proc : Fin 4) (ch : Fin 3) (s : State) :
    ∃ s', execBadOpcode proc ch s = .next s' ∧ s'.ground = s.ground := by
  refine ⟨_, rfl, ?_⟩; (repeat' split) <;> simp

theorem execWatchdogExpiry_ground (proc : Fin 4) (s : State) :
    ∃ s', execWatchdogExpiry proc s = .next s' ∧ s'.ground = s.ground := ⟨_, rfl, by simp⟩

theorem execLogEntryWrite_ground (s : State) :
    ∃ s', execLogEntryWrite s = .next s' ∧ s'.ground = s.ground := ⟨_, rfl, by simp⟩

theorem execLogRdWrite_ground (ag : Agent) (v : Word) (s : State) :
    ∃ s', execLogRdWrite ag v s = .next s' ∧ s'.ground = s.ground := ⟨_, rfl, by simp⟩

end Sys2Proof.Machine
end

