-- ==== Sys2Proof/Laws/Ports.lean ====
section
/-! SUPPORT. Laws/Ports.lean: what Machine/Ports.lean does to the queue and to the keys: nothing. -/

namespace Sys2Proof.Machine

@[simp] theorem State.netTake_ground (s : State) (i : Nat) (rows : List Nat) :
    (State.netTake s i rows).ground = s.ground := by simp [State.netTake]

@[simp] theorem State.rbTake_ground (s : State) (i : Nat) (rows : List Nat) :
    (State.rbTake s i rows).ground = s.ground := by simp [State.rbTake]

@[simp] theorem State.mgtTake_ground (s : State) (i : Nat) (rows : List Nat) :
    (State.mgtTake s i rows).ground = s.ground := by simp [State.mgtTake]

@[simp] theorem State.portTake_ground (s : State) (i type inst : Nat) (rows : List Nat) :
    (State.portTake s i type inst rows).ground = s.ground := by unfold State.portTake; (repeat' split) <;> simp

@[simp] theorem State.portShown_ground (s : State) (i type inst : Nat) :
    (State.portShown s i type inst).ground = s.ground := by unfold State.portShown; (repeat' split) <;> simp

@[simp] theorem State.gioRegionEdge_ground (s : State) (b out : Nat) :
    (State.gioRegionEdge s b out).ground = s.ground := by simp [State.gioRegionEdge]

@[simp] theorem State.gioEdge_ground (s : State) (b : Nat) :
    (State.gioEdge s b).ground = s.ground := by simp [State.gioEdge]

@[simp] theorem State.gioEdges_ground (s : State) : (State.gioEdges s).ground = s.ground := by simp [State.gioEdges]

@[simp] theorem State.blocksEdge_ground (s : State) (a : Sample) :
    (State.blocksEdge s a).ground = s.ground := by
  unfold State.blocksEdge
  exact State.each_ground _ _ _ fun b s => State.bmAccess_ground _ _ _ _ _ _ _ fun _ _ _ => rfl

@[simp] theorem State.strobesEdge_ground (s : State) (a : Sample) :
    (State.strobesEdge s a).ground = s.ground := by simp [State.strobesEdge]

@[simp] theorem State.portsEdge_ground (s : State) (a : Sample) :
    (State.portsEdge s a).ground = s.ground := by simp [State.portsEdge]

@[simp] theorem State.regionEdge_ground (s : State) (a : Sample) :
    (State.regionEdge s a).ground = s.ground := by simp [State.regionEdge]

@[simp] theorem State.votesEdge_ground (s : State) (as : List Sample) :
    (State.votesEdge s as).ground = s.ground := by simp [State.votesEdge]

@[simp] theorem State.mgtTurn_ground (s : State) :
    (State.mgtTurn s).ground = s.ground := by
  unfold State.mgtTurn; dsimp only; (repeat' split) <;> simp (maxDischargeDepth := 6)

@[simp] theorem State.regionEdges_ground (s : State) :
    (State.regionEdges s).ground = s.ground := by simp [State.regionEdges]

end Sys2Proof.Machine
end

