-- ==== Sys2Proof/Laws/Cycle.lean ====
section
/-! SUPPORT. Laws/Cycle.lean: what Machine/Cycle.lean does to the queue and to the keys: nothing. -/

namespace Sys2Proof.Machine

@[simp] theorem State.cycle_ground (s : State) : (State.cycle s).ground = s.ground := by simp [State.cycle]

end Sys2Proof.Machine
end

