-- ==== Sys2Proof/Laws/Security.lean ====
section
/-! SUPPORT. Laws/Security.lean: what Machine/Security.lean does to the queue and to the keys: nothing. -/

namespace Sys2Proof.Machine

@[simp] theorem State.scWr_ground (s : State) (r : Row) (v : Nat) (i : Nat) :
    (State.scWr s r v i).ground = s.ground := by simp [State.scWr]

@[simp] theorem State.setSec_ground (s : State) (c : Sec) :
    (State.setSec s c).ground = s.ground := by simp [State.setSec]

@[simp] theorem State.plainCmd_ground (s : State) (p c op : Nat) (f : State → State) (answer : State → List Nat) (hf
    : ∀ x0, (f x0).ground = x0.ground) :
    (State.plainCmd s p c op f answer).ground = s.ground := by
  unfold State.plainCmd; (try dsimp only); (try simp (maxDischargeDepth := 6) [hf]); intros; (repeat' split) <;> (try
    simp (maxDischargeDepth := 6) [hf]) <;> intros <;> (repeat' split) <;> simp_all (maxDischargeDepth := 6)

theorem execLoadStatus_ground (ch : Fin 3) (s : State) :
    ∃ s', execLoadStatus ch s = .next s' ∧ s'.ground = s.ground := ⟨_, rfl, by simp⟩

theorem execAbortStream_ground (ch : Fin 3) (s : State) :
    ∃ s', execAbortStream ch s = .next s' ∧ s'.ground = s.ground := ⟨_, rfl, by simp⟩

@[simp] theorem State.clearRegion_ground (s : State) (i : Nat) :
    (State.clearRegion s i).ground = s.ground := by simp [State.clearRegion]

@[simp] theorem State.disarmAll_ground (s : State) :
    (State.disarmAll s).ground = s.ground := by simp [State.disarmAll]

@[simp] theorem State.unconfigure_ground (s : State) :
    (State.unconfigure s).ground = s.ground := by simp [State.unconfigure]

theorem execUnconfigure_ground (ch : Fin 3) (s : State) :
    ∃ s', execUnconfigure ch s = .next s' ∧ s'.ground = s.ground := ⟨_, rfl, by simp⟩

@[simp] theorem State.debugGone_ground (s : State) :
    (State.debugGone s).ground = s.ground := by simp [State.debugGone]

@[simp] theorem State.setDebug_ground (s : State) (c : Nat) (unlock : Bool) :
    (State.setDebug s c unlock).ground = s.ground := by simp [State.setDebug]

theorem execDebugLock_ground (ch : Fin 3) (s : State) :
    ∃ s', execDebugLock ch s = .next s' ∧ s'.ground = s.ground := ⟨_, rfl, by simp⟩

@[simp] theorem State.envelopeFail_ground (s : State) (c op why : Nat) :
    (State.envelopeFail s c op why).ground = s.ground := by simp [State.envelopeFail]

@[simp] theorem State.envelopeRefused_ground (s : State) (p c op : Nat) :
    (State.envelopeRefused s p c op).ground = s.ground := by simp [State.envelopeRefused]

@[simp] theorem State.envelopeCmd_ground (s : State) (p c op n : Nat) (f : State → List Nat → Option State) (refused
    : State → State) (hf : ∀ x0 x1, ∀ t ∈ f x0 x1, t.ground = x0.ground) (hrefused : ∀ x0, (refused x0).ground =
    x0.ground) :
    (State.envelopeCmd s p c op n f refused).ground = s.ground := by
  unfold State.envelopeCmd
  (try dsimp only)
  (repeat' split) <;> first
    | (simp; done)
    | grind [State.mailReply_ground, State.envelopeFail_ground, State.envelopeRefused_ground, State.scWr_ground]

theorem execLockoutEnd_ground (s : State) :
    ∃ s', execLockoutEnd s = .next s' ∧ s'.ground = s.ground := ⟨_, rfl, by simp⟩

@[simp] theorem State.fenceCmd_ground (s : State) (ws : List Nat) :
    ∀ t ∈ State.fenceCmd s ws, t.ground = s.ground := by
  intro t ht
  unfold State.fenceCmd at ht
  (try dsimp only at ht)
  (repeat' split at ht) <;> cases ht <;> simp

theorem execRfenceSet_ground (ch : Fin 3) (s : State) :
    ∃ s', execRfenceSet ch s = .next s' ∧ s'.ground = s.ground := by
  unfold execRfenceSet
  exact ⟨_, rfl, State.envelopeCmd_ground _ _ _ _ _ _ _ (fun s ws => State.fenceCmd_ground s ws) fun s => rfl⟩

@[simp] theorem State.forceCmd_ground (s : State) (ws : List Nat) :
    ∀ t ∈ State.forceCmd s ws, t.ground = s.ground := by
  intro t ht
  unfold State.forceCmd at ht
  (try dsimp only at ht)
  (repeat' split at ht) <;> cases ht <;> simp

theorem execForceLevel_ground (ch : Fin 3) (s : State) :
    ∃ s', execForceLevel ch s = .next s' ∧ s'.ground = s.ground := by
  unfold execForceLevel
  exact ⟨_, rfl, State.envelopeCmd_ground _ _ _ _ _ _ _ (fun s ws => State.forceCmd_ground s ws) fun s => rfl⟩

@[simp] theorem State.limitsCmd_ground (s : State) (ws : List Nat) :
    ∀ t ∈ State.limitsCmd s ws, t.ground = s.ground := by
  intro t ht
  unfold State.limitsCmd at ht
  (try dsimp only at ht)
  (repeat' split at ht) <;> cases ht <;> simp

theorem execThermLimits_ground (ch : Fin 3) (s : State) :
    ∃ s', execThermLimits ch s = .next s' ∧ s'.ground = s.ground := by
  unfold execThermLimits
  exact ⟨_, rfl, State.envelopeCmd_ground _ _ _ _ _ _ _ (fun s ws => State.limitsCmd_ground s ws) fun s => rfl⟩

@[simp] theorem State.maskCmd_ground (s : State) (ws : List Nat) :
    ∀ t ∈ State.maskCmd s ws, t.ground = s.ground := by
  intro t ht
  unfold State.maskCmd at ht
  (try dsimp only at ht)
  (repeat' split at ht) <;> cases ht <;> simp

theorem execSensorMask_ground (ch : Fin 3) (s : State) :
    ∃ s', execSensorMask ch s = .next s' ∧ s'.ground = s.ground := by
  unfold execSensorMask
  exact ⟨_, rfl, State.envelopeCmd_ground _ _ _ _ _ _ _ (fun s ws => State.maskCmd_ground s ws) fun s => rfl⟩

@[simp] theorem State.powerCmd_ground (s : State) (ws : List Nat) :
    ∀ t ∈ State.powerCmd s ws, t.ground = s.ground := by
  intro t ht
  unfold State.powerCmd at ht
  (try dsimp only at ht)
  (repeat' split at ht) <;> cases ht <;> simp

theorem execPowerLimit_ground (ch : Fin 3) (s : State) :
    ∃ s', execPowerLimit ch s = .next s' ∧ s'.ground = s.ground := by
  unfold execPowerLimit
  exact ⟨_, rfl, State.envelopeCmd_ground _ _ _ _ _ _ _ (fun s ws => State.powerCmd_ground s ws) fun s => rfl⟩

@[simp] theorem State.fuse_ground (s : State) (es : List Nat) :
    (State.fuse s es).ground = s.ground := by simp [State.fuse]

@[simp] theorem State.commitCmd_ground (s : State) :
    ∀ t ∈ State.commitCmd s, t.ground = s.ground := by
  intro t ht
  unfold State.commitCmd at ht
  (try dsimp only at ht)
  (repeat' split at ht) <;> cases ht <;> simp

@[simp] theorem State.commitShort_ground (s : State) :
    (State.commitShort s).ground = s.ground := by simp [State.commitShort]

theorem execSpareCommit_ground (ch : Fin 3) (s : State) :
    ∃ s', execSpareCommit ch s = .next s' ∧ s'.ground = s.ground := by
  unfold execSpareCommit
  exact ⟨_, rfl, State.envelopeCmd_ground _ _ _ _ _ _ _ (fun s ws => State.commitCmd_ground s) fun s => by simp⟩

@[simp] theorem State.retireCmd_ground (s : State) (ws : List Nat) :
    ∀ t ∈ State.retireCmd s ws, t.ground = s.ground := by
  intro t ht
  unfold State.retireCmd at ht
  (try dsimp only at ht)
  (repeat' split at ht) <;> cases ht <;> simp

theorem execRetire_ground (ch : Fin 3) (s : State) :
    ∃ s', execRetire ch s = .next s' ∧ s'.ground = s.ground := by
  unfold execRetire
  exact ⟨_, rfl, State.envelopeCmd_ground _ _ _ _ _ _ _ (fun s ws => State.retireCmd_ground s ws) fun s => rfl⟩

@[simp] theorem State.keyChanged_ground (s : State) (c slot : Nat) (revoked : Bool) :
    (State.keyChanged s c slot revoked).ground = s.ground := by simp [State.keyChanged]

@[simp] theorem State.patchCmd_ground (s : State) (c : Nat) (ws : List Nat) :
    ∀ t ∈ State.patchCmd s c ws, t.ground = s.ground := by
  intro t ht
  unfold State.patchCmd at ht
  (try dsimp only at ht)
  (repeat' split at ht) <;> cases ht <;> simp

theorem execPatch_ground (ch : Fin 3) (s : State) :
    ∃ s', execPatch ch s = .next s' ∧ s'.ground = s.ground := by
  unfold execPatch
  exact ⟨_, rfl, State.envelopeCmd_ground _ _ _ _ _ _ _ (fun s ws => State.patchCmd_ground s ch ws) fun s => rfl⟩

@[simp] theorem State.policyCmd_ground (s : State) (c : Nat) (ws : List Nat) :
    ∀ t ∈ State.policyCmd s c ws, t.ground = s.ground := by
  intro t ht
  unfold State.policyCmd at ht
  (try dsimp only at ht)
  (repeat' split at ht) <;> cases ht <;> simp

theorem execEfusePolicy_ground (ch : Fin 3) (s : State) :
    ∃ s', execEfusePolicy ch s = .next s' ∧ s'.ground = s.ground := by
  unfold execEfusePolicy
  exact ⟨_, rfl, State.envelopeCmd_ground _ _ _ _ _ _ _ (fun s ws => State.policyCmd_ground s ch ws) fun s => rfl⟩

@[simp] theorem State.unlockCmd_ground (s : State) (c : Nat) :
    ∀ t ∈ State.unlockCmd s c, t.ground = s.ground := by
  intro t ht
  unfold State.unlockCmd at ht
  (try dsimp only at ht)
  (repeat' split at ht) <;> cases ht <;> simp

theorem execDebugUnlock_ground (ch : Fin 3) (s : State) :
    ∃ s', execDebugUnlock ch s = .next s' ∧ s'.ground = s.ground := by
  unfold execDebugUnlock
  exact ⟨_, rfl, State.envelopeCmd_ground _ _ _ _ _ _ _ (fun s ws => State.unlockCmd_ground s ch) fun s => rfl⟩

end Sys2Proof.Machine
end

