-- ==== Sys2Proof/Laws/Power.lean ====
section
/-! SUPPORT. Laws/Power.lean: what Machine/Power.lean does to the queue and to the keys: nothing. -/

namespace Sys2Proof.Machine

@[simp] theorem State.clampsSet_ground (s : State) (d : Nat) :
    (State.clampsSet s d).ground = s.ground := by simp [State.clampsSet]

@[simp] theorem State.regionOff_ground (s : State) (i : Nat) :
    (State.regionOff s i).ground = s.ground := by
  unfold State.regionOff
  have h := State.clearRegion_ground s i
  revert h
  generalize s.clearRegion i = t
  intro h
  refine (State.setPk_ground ..).trans ((State.setRg_ground ..).trans ?_)
  exact (ground_pending_keys t).trans h

@[simp] theorem State.slabOff_ground (s : State) (i : Nat) :
    (State.slabOff s i).ground = s.ground := by simp [State.slabOff]

@[simp] theorem State.planeOff_ground (s : State) (i : Nat) :
    (State.planeOff s i).ground = s.ground := by simp [State.planeOff]

@[simp] theorem State.domainReleases_ground (s : State) (d : Nat) :
    (State.domainReleases s d).ground = s.ground := by simp [State.domainReleases]

@[simp] theorem State.linkLost_ground (s : State) : (State.linkLost s).ground = s.ground := by simp [State.linkLost]

@[simp] theorem State.ddrOff_ground (s : State) (c : Nat) : (State.ddrOff s c).ground = s.ground := rfl

@[simp] theorem State.wentOff_ground (s : State) (d : Nat) :
    (State.wentOff s d).ground = s.ground := by simp [State.wentOff]

@[simp] theorem State.entryDone_ground (s : State) (d : Nat) :
    (State.entryDone s d).ground = s.ground := by simp [State.entryDone]

theorem execEntryStepReady_ground (d : Fin 270) (s : State) :
    ∃ s', execEntryStepReady d s = .next s' ∧ s'.ground = s.ground := by
  unfold execEntryStepReady; refine ⟨_, rfl, ?_⟩; (try simp (maxDischargeDepth := 6)); intros; (repeat' split) <;>
    (try simp (maxDischargeDepth := 6)) <;> intros <;> (repeat' split) <;> simp_all (maxDischargeDepth := 6)

@[simp] theorem State.pagesReset_ground (s : State) (d : Nat) :
    (State.pagesReset s d).ground = s.ground := by simp [State.pagesReset]

@[simp] theorem State.regionLogic_ground (s : State) (i : Nat) :
    (State.regionLogic s i).ground = s.ground := by simp [State.regionLogic]

@[simp] theorem State.logicStep_ground (s : State) (d : Nat) (fromOff : Bool) :
    (State.logicStep s d fromOff).ground = s.ground := by simp [State.logicStep]

@[simp] theorem State.wakeDone_ground (s : State) (d : Nat) :
    (State.wakeDone s d).ground = s.ground := by simp [State.wakeDone]

theorem execWakeStepReady_ground (d : Fin 270) (s : State) :
    ∃ s', execWakeStepReady d s = .next s' ∧ s'.ground = s.ground := by
  unfold execWakeStepReady; refine ⟨_, rfl, ?_⟩; (try simp (maxDischargeDepth := 6)); intros; (repeat' split) <;>
    (try simp (maxDischargeDepth := 6)) <;> intros <;> (repeat' split) <;> simp_all (maxDischargeDepth := 6)

@[simp] theorem State.wakeFails_ground (s : State) (d : Nat) :
    (State.wakeFails s d).ground = s.ground := by simp [State.wakeFails]

theorem execWakeFail_ground (d : Fin 270) (s : State) :
    ∃ s', execWakeFail d s = .next s' ∧ s'.ground = s.ground := ⟨_, rfl, by simp⟩

theorem execPcieLinkDown_ground (s : State) :
    ∃ s', execPcieLinkDown s = .next s' ∧ s'.ground = s.ground := ⟨_, rfl, by simp⟩

theorem execPcieLinkUp_ground (speed : BitVec 4) (width : BitVec 5) (s : State) :
    ∃ s', execPcieLinkUp speed width s = .next s' ∧ s'.ground = s.ground := ⟨_, rfl, by simp⟩

theorem execDebugDetach_ground (s : State) :
    ∃ s', execDebugDetach s = .next s' ∧ s'.ground = s.ground := ⟨_, rfl, by simp⟩

end Sys2Proof.Machine
end

