-- ==== Sys2Proof/Laws/Startup.lean ====
section
/-! SUPPORT. Laws/Startup.lean: what Machine/Startup.lean does to the queue and to the keys: nothing. -/

namespace Sys2Proof.Machine

@[simp] theorem State.scpStart_ground (s : State) (trngOk : Bool) :
    (State.scpStart s trngOk).ground = s.ground := by simp [State.scpStart]

theorem execColdStartRelease_ground (cfgMode : BitVec 3) (devId : BitVec 6) (loadState : Bool) (csd : BitVec 4)
    (trngOk : Bool) (s : State) :
    ∃ s', execColdStartRelease cfgMode devId loadState csd trngOk s = .next s' ∧ s'.ground = s.ground :=
  ⟨_, rfl, by simp⟩

theorem execStartDelayEnd_ground (s : State) :
    ∃ s', execStartDelayEnd s = .next s' ∧ s'.ground = s.ground := ⟨_, rfl, by simp⟩

theorem execPllReady_ground (p : Fin 20) (s : State) :
    ∃ s', execPllReady p s = .next s' ∧ s'.ground = s.ground := ⟨_, rfl, by simp⟩

@[simp] theorem State.fusedRepair_ground (s : State) (r : Repair) :
    (State.fusedRepair s r).ground = s.ground := by unfold State.fusedRepair; (repeat' split) <;> simp

@[simp] theorem State.fusedWaybook_ground (s : State) :
    (State.fusedWaybook s).ground = s.ground := by unfold State.fusedWaybook; simp (maxDischargeDepth := 6)

@[simp] theorem State.startupFault_ground (s : State) (f : StartupFault) :
    (State.startupFault s f).ground = s.ground := by unfold State.startupFault; (repeat' split) <;> simp

@[simp] theorem State.rowStart_ground (s : State) (k : Nat) :
    (State.rowStart s k).ground = s.ground := by
  unfold State.rowStart; dsimp only; (repeat' split) <;> simp (maxDischargeDepth := 6)

@[simp] theorem State.pllStandIn_ground (s : State) (p q : Nat) :
    (State.pllStandIn s p q).ground = s.ground := by simp [State.pllStandIn]

@[simp] theorem State.pllStart_ground (s : State) (p : Nat) :
    (State.pllStart s p).ground = s.ground := by
  unfold State.pllStart; dsimp only; (repeat' split) <;> simp (maxDischargeDepth := 6)

@[simp] theorem State.buildWaybook_ground (s : State) (failed : List (Fin 354)) (faults : List StartupFault) :
    (State.buildWaybook s failed faults).ground = s.ground := by simp [State.buildWaybook]

@[simp] theorem State.unnoticed_ground (s old : State) :
    (State.unnoticed s old).ground = s.ground := by simp [State.unnoticed]

@[simp] theorem State.toLoad_ground (s : State) : (State.toLoad s).ground = s.ground := by simp [State.toLoad]

theorem execSelftestEnd_ground (failed : List (Fin 354)) (faults : List StartupFault) (s : State) :
    ∃ s', execSelftestEnd failed faults s = .next s' ∧ s'.ground = s.ground := ⟨_, rfl, by simp⟩

@[simp] theorem State.lateWrites_ground (s : State) :
    (State.lateWrites s).ground = s.ground := by simp [State.lateWrites]

theorem execStart_ground (s : State) : ∃ s', execStart s = .next s' ∧ s'.ground = s.ground := ⟨_, rfl, by simp⟩

theorem execGlobalResetRelease_ground (s : State) :
    ∃ s', execGlobalResetRelease s = .next s' ∧ s'.ground = s.ground := ⟨_, rfl, by simp⟩

theorem execPerstFall_ground (s : State) :
    ∃ s', execPerstFall s = .next s' ∧ s'.ground = s.ground := ⟨_, rfl, by simp⟩

theorem execPerstRise_ground (s : State) :
    ∃ s', execPerstRise s = .next s' ∧ s'.ground = s.ground := ⟨_, rfl, by simp⟩

theorem execQuiesce_ground (s : State) : ∃ s', execQuiesce s = .next s' ∧ s'.ground = s.ground := ⟨_, rfl, by simp⟩

@[simp] theorem State.quiesceLeave_ground (s : State) :
    (State.quiesceLeave s).ground = s.ground := by simp [State.quiesceLeave]

theorem execQuiesceDone_ground (s : State) :
    ∃ s', execQuiesceDone s = .next s' ∧ s'.ground = s.ground := ⟨_, rfl, by simp⟩

theorem execQuiesceRelease_ground (s : State) :
    ∃ s', execQuiesceRelease s = .next s' ∧ s'.ground = s.ground := ⟨_, rfl, by simp⟩

end Sys2Proof.Machine
end

