-- ==== Sys2Proof/Laws/Keys.lean ====
section
/-! SUPPORT. Laws/Keys.lean: the operations that change a key, and that they keep the keys in their slots. -/

namespace Sys2Proof.Machine

theorem keysOk_iff (m : List (Nat × Nat)) :
    (mwf 0 m && m.all fun e => decide (1 ≤ e.1) && decide (e.1 ≤ 7)) = true ↔
      mwf 0 m = true ∧ ∀ e ∈ m, 1 ≤ e.1 ∧ e.1 ≤ 7 := by
  simp

/-- A command in an envelope leaves the queue and the keys, or leaves them as the operation it carries does. -/
theorem State.envelopeCmd_cases (s : State) (p c op n : Nat) (f : State → List Nat → Option State)
    (refused : State → State) (hr : ∀ s, (refused s).ground = s.ground) :
    (s.envelopeCmd p c op n f refused).ground = s.ground ∨
      ∃ s' ws t, s'.ground = s.ground ∧ t ∈ f s' ws ∧ (s.envelopeCmd p c op n f refused).ground = t.ground := by
  unfold State.envelopeCmd
  split
  · exact .inl rfl
  rename_i ws _
  split
  · exact .inl rfl
  split
  · exact .inl (by simp)
  dsimp only
  split
  · rename_i t h
    exact .inr ⟨_, ws, t, by simp, h, by simp⟩
  · exact .inl (by simp [hr])

/-- KEY_LOAD writes one slot, 1 to 7 (R484). -/
theorem State.keyLoadCmd_ground (s : State) (c : Nat) (ws : List Nat) :
    ∀ t ∈ s.keyLoadCmd c ws, ∃ k v, 1 ≤ k ∧ k ≤ 7 ∧ t.ground = (s.pending, mset 0 s.keys k v) := by
  intro t ht
  unfold State.keyLoadCmd at ht
  dsimp only at ht
  split at ht
  · cases ht
  rename_i hk
  obtain ⟨key, -, rfl⟩ := Option.map_eq_some_iff.mp ht
  refine ⟨bitsOf (argOf ws 0) 0 3, beNat key, ?_, ?_, by simp⟩
  · have : ¬bitsOf (argOf ws 0) 0 3 = 0 := fun h => hk (by simp [h])
    omega
  · have : bitsOf (argOf ws 0) 0 3 < 2 ^ 3 := Nat.mod_lt _ (by decide)
    omega

/-- KEY_REVOKE empties one slot, 4 to 7 (R485). -/
theorem State.keyRevokeCmd_ground (s : State) (c : Nat) (ws : List Nat) :
    ∀ t ∈ s.keyRevokeCmd c ws, ∃ k, 4 ≤ k ∧ k ≤ 7 ∧ t.ground = (s.pending, mset 0 s.keys k 0) := by
  intro t ht
  unfold State.keyRevokeCmd at ht
  dsimp only at ht
  split at ht
  · cases ht
  rename_i hk
  cases ht
  refine ⟨bitsOf (argOf ws 0) 0 3, ?_, ?_, by simp⟩
  · simp at hk
    omega
  · have : bitsOf (argOf ws 0) 0 3 < 2 ^ 3 := Nat.mod_lt _ (by decide)
    omega

end Sys2Proof.Machine
end

