-- ==== Sys2Proof/Laws/Milestones.lean ====
section
/-! SUPPORT. Laws/Milestones.lean: what Machine/Milestones.lean does to the queue and to the keys: nothing. -/

namespace Sys2Proof.Machine

@[simp] theorem State.bucketBoundary_ground (s : State) :
    (State.bucketBoundary s).ground = s.ground := by simp [State.bucketBoundary]

theorem execBucketBoundary_ground (s : State) :
    ∃ s', execBucketBoundary s = .next s' ∧ s'.ground = s.ground := ⟨_, rfl, by simp⟩

theorem execMilestoneArm_ground (ag : Agent) (e : Fin 256) (w0 : Word) (s : State) :
    ∃ s', execMilestoneArm ag e w0 s = .next s' ∧ s'.ground = s.ground := ⟨_, rfl, by simp⟩

theorem execMilestoneDisarm_ground (ag : Agent) (e : Fin 256) (w0 : Word) (s : State) :
    ∃ s', execMilestoneDisarm ag e w0 s = .next s' ∧ s'.ground = s.ground := ⟨_, rfl, by simp⟩

theorem execMilestoneEvaluate_ground (s : State) :
    ∃ s', execMilestoneEvaluate s = .next s' ∧ s'.ground = s.ground := ⟨_, rfl, by simp⟩

theorem execMilestoneNone_ground (e : Fin 256) (s : State) :
    ∃ s', execMilestoneNone e s = .next s' ∧ s'.ground = s.ground := ⟨_, rfl, by simp⟩

theorem execMilestoneStage_ground (e : Fin 256) (s : State) :
    ∃ s', execMilestoneStage e s = .next s' ∧ s'.ground = s.ground := ⟨_, rfl, by simp⟩

theorem execMilestoneSwitch_ground (e : Fin 256) (s : State) :
    ∃ s', execMilestoneSwitch e s = .next s' ∧ s'.ground = s.ground := ⟨_, rfl, by simp⟩

theorem execMilestoneCapture_ground (e : Fin 256) (s : State) :
    ∃ s', execMilestoneCapture e s = .next s' ∧ s'.ground = s.ground := ⟨_, rfl, State.regionMilestone_ground ..⟩

theorem execMilestoneTeStart_ground (e : Fin 256) (s : State) :
    ∃ s', execMilestoneTeStart e s = .next s' ∧ s'.ground = s.ground := by
  unfold execMilestoneTeStart
  refine ⟨_, rfl, ?_⟩
  split <;> simp

theorem execMilestoneTeHalt_ground (e : Fin 256) (s : State) :
    ∃ s', execMilestoneTeHalt e s = .next s' ∧ s'.ground = s.ground := by
  unfold execMilestoneTeHalt
  refine ⟨_, rfl, State.fire_ground _ _ _ _ fun f s => ?_⟩
  (try dsimp only)
  (repeat' split) <;> simp_all

theorem execMilestoneRefresh_ground (e : Fin 256) (s : State) :
    ∃ s', execMilestoneRefresh e s = .next s' ∧ s'.ground = s.ground := by
  unfold execMilestoneRefresh
  refine ⟨_, rfl, State.fire_ground _ _ _ _ fun f s => ?_⟩
  have h := State.refreshAction_ground s f.target f.param
  split <;> simp_all

theorem execMilestonePulse_ground (e : Fin 256) (s : State) :
    ∃ s', execMilestonePulse e s = .next s' ∧ s'.ground = s.ground := by
  unfold execMilestonePulse
  refine ⟨_, rfl, State.fire_ground _ _ _ _ fun f s => ?_⟩
  (try dsimp only)
  (repeat' split) <;> simp_all

theorem execPulseEnd_ground (pin : Fin 192) (s : State) :
    ∃ s', execPulseEnd pin s = .next s' ∧ s'.ground = s.ground := ⟨_, rfl, by simp⟩

theorem execMilestoneFabric_ground (e : Fin 256) (s : State) :
    ∃ s', execMilestoneFabric e s = .next s' ∧ s'.ground = s.ground := by
  unfold execMilestoneFabric
  refine ⟨_, rfl, State.fire_ground _ _ _ _ fun f s => ?_⟩
  (try dsimp only)
  (repeat' split) <;> simp_all

theorem execMilestoneVote_ground (e : Fin 256) (s : State) :
    ∃ s', execMilestoneVote e s = .next s' ∧ s'.ground = s.ground := ⟨_, rfl, by simp⟩

end Sys2Proof.Machine
end

