-- ==== Sys2Proof/Laws/State.lean ====
section
/-! SUPPORT. Laws/State.lean: register fields read back what was written, and each named update of State changes one field. -/

namespace Sys2Proof.Machine

/-- A field reads back what was written, cut to its width. -/
@[simp] theorem State.rd_wr_same (s : State) (pg : Nat) (r : Row) (v i : Nat) : (s.wr pg r v i).rd pg r i = v % 2 ^ r.width := by
  simp [State.rd, State.wr, Nat.xor_assoc]

/-- A field at another place keeps its value. -/
theorem State.rd_wr_ne (s : State) {pg pg' : Nat} {r r' : Row} (v : Nat) {i i' : Nat}
    (h : fieldKey pg' r' i' ≠ fieldKey pg r i) : (s.wr pg r v i).rd pg' r' i' = s.rd pg' r' i' := by
  simp only [State.rd, State.wr]
  rw [mget_mset_ne _ _ _ h]

theorem State.flag_wr_same (s : State) (pg : Nat) (r : Row) (v i : Nat) :
    (s.wr pg r v i).flag pg r i = decide (v % 2 ^ r.width = 1) := by
  simp [State.flag]

theorem State.rd_reset (pg : Nat) (r : Row) (i : Nat) :
    State.reset.rd pg r i = mget 0 resetRegs (fieldKey pg r i) ^^^ r.reset := rfl

/-- A counting field reads one more per event, up to its maximum. -/
theorem State.rd_count_same (s : State) (pg : Nat) (r : Row) (n i : Nat) :
    (s.count pg r n i).rd pg r i = satAdd r.width (s.rd pg r i) n % 2 ^ r.width := by
  simp [State.count]

/-! ### wr -/

@[simp] theorem State.wr_pending (s : State) (pg : Nat) (r : Row) (v i : Nat) : (s.wr pg r v i).pending = s.pending := rfl
@[simp] theorem State.wr_fresh (s : State) (pg : Nat) (r : Row) (v i : Nat) : (s.wr pg r v i).fresh = s.fresh := rfl
@[simp] theorem State.wr_cycles (s : State) (pg : Nat) (r : Row) (v i : Nat) : (s.wr pg r v i).cycles = s.cycles := rfl
@[simp] theorem State.wr_regs (s : State) (pg : Nat) (r : Row) (v i : Nat) : (s.wr pg r v i).regs = mset 0 s.regs (fieldKey pg r i) ((v % 2 ^ r.width) ^^^ r.reset) := rfl
@[simp] theorem State.wr_bus (s : State) (pg : Nat) (r : Row) (v i : Nat) : (s.wr pg r v i).bus = s.bus := rfl
@[simp] theorem State.wr_shadow (s : State) (pg : Nat) (r : Row) (v i : Nat) : (s.wr pg r v i).shadow = s.shadow := rfl
@[simp] theorem State.wr_logQ (s : State) (pg : Nat) (r : Row) (v i : Nat) : (s.wr pg r v i).logQ = s.logQ := rfl
@[simp] theorem State.wr_chans (s : State) (pg : Nat) (r : Row) (v i : Nat) : (s.wr pg r v i).chans = s.chans := rfl
@[simp] theorem State.wr_doms (s : State) (pg : Nat) (r : Row) (v i : Nat) : (s.wr pg r v i).doms = s.doms := rfl
@[simp] theorem State.wr_gates (s : State) (pg : Nat) (r : Row) (v i : Nat) : (s.wr pg r v i).gates = s.gates := rfl
@[simp] theorem State.wr_plls (s : State) (pg : Nat) (r : Row) (v i : Nat) : (s.wr pg r v i).plls = s.plls := rfl
@[simp] theorem State.wr_trees (s : State) (pg : Nat) (r : Row) (v i : Nat) : (s.wr pg r v i).trees = s.trees := rfl
@[simp] theorem State.wr_ck (s : State) (pg : Nat) (r : Row) (v i : Nat) : (s.wr pg r v i).ck = s.ck := rfl
@[simp] theorem State.wr_tp (s : State) (pg : Nat) (r : Row) (v i : Nat) : (s.wr pg r v i).tp = s.tp := rfl
@[simp] theorem State.wr_ms (s : State) (pg : Nat) (r : Row) (v i : Nat) : (s.wr pg r v i).ms = s.ms := rfl
@[simp] theorem State.wr_ld (s : State) (pg : Nat) (r : Row) (v i : Nat) : (s.wr pg r v i).ld = s.ld := rfl
@[simp] theorem State.wr_pw (s : State) (pg : Nat) (r : Row) (v i : Nat) : (s.wr pg r v i).pw = s.pw := rfl
@[simp] theorem State.wr_rgs (s : State) (pg : Nat) (r : Row) (v i : Nat) : (s.wr pg r v i).rgs = s.rgs := rfl
@[simp] theorem State.wr_cfg (s : State) (pg : Nat) (r : Row) (v i : Nat) : (s.wr pg r v i).cfg = s.cfg := rfl
@[simp] theorem State.wr_latch (s : State) (pg : Nat) (r : Row) (v i : Nat) : (s.wr pg r v i).latch = s.latch := rfl
@[simp] theorem State.wr_ff (s : State) (pg : Nat) (r : Row) (v i : Nat) : (s.wr pg r v i).ff = s.ff := rfl
@[simp] theorem State.wr_restore (s : State) (pg : Nat) (r : Row) (v i : Nat) : (s.wr pg r v i).restore = s.restore := rfl
@[simp] theorem State.wr_sbank (s : State) (pg : Nat) (r : Row) (v i : Nat) : (s.wr pg r v i).sbank = s.sbank := rfl
@[simp] theorem State.wr_bm (s : State) (pg : Nat) (r : Row) (v i : Nat) : (s.wr pg r v i).bm = s.bm := rfl
@[simp] theorem State.wr_bmOut (s : State) (pg : Nat) (r : Row) (v i : Nat) : (s.wr pg r v i).bmOut = s.bmOut := rfl
@[simp] theorem State.wr_bmNext (s : State) (pg : Nat) (r : Row) (v i : Nat) : (s.wr pg r v i).bmNext = s.bmNext := rfl
@[simp] theorem State.wr_portIn (s : State) (pg : Nat) (r : Row) (v i : Nat) : (s.wr pg r v i).portIn = s.portIn := rfl
@[simp] theorem State.wr_portOut (s : State) (pg : Nat) (r : Row) (v i : Nat) : (s.wr pg r v i).portOut = s.portOut := rfl
@[simp] theorem State.wr_gio (s : State) (pg : Nat) (r : Row) (v i : Nat) : (s.wr pg r v i).gio = s.gio := rfl
@[simp] theorem State.wr_mgtLast (s : State) (pg : Nat) (r : Row) (v i : Nat) : (s.wr pg r v i).mgtLast = s.mgtLast := rfl
@[simp] theorem State.wr_rb (s : State) (pg : Nat) (r : Row) (v i : Nat) : (s.wr pg r v i).rb = s.rb := rfl
@[simp] theorem State.wr_rbOut (s : State) (pg : Nat) (r : Row) (v i : Nat) : (s.wr pg r v i).rbOut = s.rbOut := rfl
@[simp] theorem State.wr_ddr (s : State) (pg : Nat) (r : Row) (v i : Nat) : (s.wr pg r v i).ddr = s.ddr := rfl
@[simp] theorem State.wr_tes (s : State) (pg : Nat) (r : Row) (v i : Nat) : (s.wr pg r v i).tes = s.tes := rfl
@[simp] theorem State.wr_dm (s : State) (pg : Nat) (r : Row) (v i : Nat) : (s.wr pg r v i).dm = s.dm := rfl
@[simp] theorem State.wr_im (s : State) (pg : Nat) (r : Row) (v i : Nat) : (s.wr pg r v i).im = s.im := rfl
@[simp] theorem State.wr_mesh (s : State) (pg : Nat) (r : Row) (v i : Nat) : (s.wr pg r v i).mesh = s.mesh := rfl
@[simp] theorem State.wr_packers (s : State) (pg : Nat) (r : Row) (v i : Nat) : (s.wr pg r v i).packers = s.packers := rfl
@[simp] theorem State.wr_chns (s : State) (pg : Nat) (r : Row) (v i : Nat) : (s.wr pg r v i).chns = s.chns := rfl
@[simp] theorem State.wr_shallots (s : State) (pg : Nat) (r : Row) (v i : Nat) : (s.wr pg r v i).shallots = s.shallots := rfl
@[simp] theorem State.wr_gold (s : State) (pg : Nat) (r : Row) (v i : Nat) : (s.wr pg r v i).gold = s.gold := rfl
@[simp] theorem State.wr_arows (s : State) (pg : Nat) (r : Row) (v i : Nat) : (s.wr pg r v i).arows = s.arows := rfl
@[simp] theorem State.wr_usr (s : State) (pg : Nat) (r : Row) (v i : Nat) : (s.wr pg r v i).usr = s.usr := rfl
@[simp] theorem State.wr_wk (s : State) (pg : Nat) (r : Row) (v i : Nat) : (s.wr pg r v i).wk = s.wk := rfl
@[simp] theorem State.wr_txs (s : State) (pg : Nat) (r : Row) (v i : Nat) : (s.wr pg r v i).txs = s.txs := rfl
@[simp] theorem State.wr_rxs (s : State) (pg : Nat) (r : Row) (v i : Nat) : (s.wr pg r v i).rxs = s.rxs := rfl
@[simp] theorem State.wr_rxOut (s : State) (pg : Nat) (r : Row) (v i : Nat) : (s.wr pg r v i).rxOut = s.rxOut := rfl
@[simp] theorem State.wr_walks (s : State) (pg : Nat) (r : Row) (v i : Nat) : (s.wr pg r v i).walks = s.walks := rfl
@[simp] theorem State.wr_hots (s : State) (pg : Nat) (r : Row) (v i : Nat) : (s.wr pg r v i).hots = s.hots := rfl
@[simp] theorem State.wr_moves (s : State) (pg : Nat) (r : Row) (v i : Nat) : (s.wr pg r v i).moves = s.moves := rfl
@[simp] theorem State.wr_repairs (s : State) (pg : Nat) (r : Row) (v i : Nat) : (s.wr pg r v i).repairs = s.repairs := rfl
@[simp] theorem State.wr_paramErrs (s : State) (pg : Nat) (r : Row) (v i : Nat) : (s.wr pg r v i).paramErrs = s.paramErrs := rfl
@[simp] theorem State.wr_paramPar (s : State) (pg : Nat) (r : Row) (v i : Nat) : (s.wr pg r v i).paramPar = s.paramPar := rfl
@[simp] theorem State.wr_ceSums (s : State) (pg : Nat) (r : Row) (v i : Nat) : (s.wr pg r v i).ceSums = s.ceSums := rfl
@[simp] theorem State.wr_lastLogs (s : State) (pg : Nat) (r : Row) (v i : Nat) : (s.wr pg r v i).lastLogs = s.lastLogs := rfl
@[simp] theorem State.wr_points (s : State) (pg : Nat) (r : Row) (v i : Nat) : (s.wr pg r v i).points = s.points := rfl
@[simp] theorem State.wr_cchecks (s : State) (pg : Nat) (r : Row) (v i : Nat) : (s.wr pg r v i).cchecks = s.cchecks := rfl
@[simp] theorem State.wr_zones (s : State) (pg : Nat) (r : Row) (v i : Nat) : (s.wr pg r v i).zones = s.zones := rfl
@[simp] theorem State.wr_keys (s : State) (pg : Nat) (r : Row) (v i : Nat) : (s.wr pg r v i).keys = s.keys := rfl
@[simp] theorem State.wr_sec (s : State) (pg : Nat) (r : Row) (v i : Nat) : (s.wr pg r v i).sec = s.sec := rfl
@[simp] theorem State.wr_romFail (s : State) (pg : Nat) (r : Row) (v i : Nat) : (s.wr pg r v i).romFail = s.romFail := rfl

/-! ### setDom -/

@[simp] theorem State.setDom_pending (s : State) (d : Nat) (v : Dom) : (s.setDom d v).pending = s.pending := rfl
@[simp] theorem State.setDom_fresh (s : State) (d : Nat) (v : Dom) : (s.setDom d v).fresh = s.fresh := rfl
@[simp] theorem State.setDom_cycles (s : State) (d : Nat) (v : Dom) : (s.setDom d v).cycles = s.cycles := rfl
@[simp] theorem State.setDom_regs (s : State) (d : Nat) (v : Dom) : (s.setDom d v).regs = s.regs := rfl
@[simp] theorem State.setDom_bus (s : State) (d : Nat) (v : Dom) : (s.setDom d v).bus = s.bus := rfl
@[simp] theorem State.setDom_shadow (s : State) (d : Nat) (v : Dom) : (s.setDom d v).shadow = s.shadow := rfl
@[simp] theorem State.setDom_logQ (s : State) (d : Nat) (v : Dom) : (s.setDom d v).logQ = s.logQ := rfl
@[simp] theorem State.setDom_chans (s : State) (d : Nat) (v : Dom) : (s.setDom d v).chans = s.chans := rfl
@[simp] theorem State.setDom_doms (s : State) (d : Nat) (v : Dom) : (s.setDom d v).doms = mset {} s.doms d v := rfl
@[simp] theorem State.setDom_gates (s : State) (d : Nat) (v : Dom) : (s.setDom d v).gates = s.gates := rfl
@[simp] theorem State.setDom_plls (s : State) (d : Nat) (v : Dom) : (s.setDom d v).plls = s.plls := rfl
@[simp] theorem State.setDom_trees (s : State) (d : Nat) (v : Dom) : (s.setDom d v).trees = s.trees := rfl
@[simp] theorem State.setDom_ck (s : State) (d : Nat) (v : Dom) : (s.setDom d v).ck = s.ck := rfl
@[simp] theorem State.setDom_tp (s : State) (d : Nat) (v : Dom) : (s.setDom d v).tp = s.tp := rfl
@[simp] theorem State.setDom_ms (s : State) (d : Nat) (v : Dom) : (s.setDom d v).ms = s.ms := rfl
@[simp] theorem State.setDom_ld (s : State) (d : Nat) (v : Dom) : (s.setDom d v).ld = s.ld := rfl
@[simp] theorem State.setDom_pw (s : State) (d : Nat) (v : Dom) : (s.setDom d v).pw = s.pw := rfl
@[simp] theorem State.setDom_rgs (s : State) (d : Nat) (v : Dom) : (s.setDom d v).rgs = s.rgs := rfl
@[simp] theorem State.setDom_cfg (s : State) (d : Nat) (v : Dom) : (s.setDom d v).cfg = s.cfg := rfl
@[simp] theorem State.setDom_latch (s : State) (d : Nat) (v : Dom) : (s.setDom d v).latch = s.latch := rfl
@[simp] theorem State.setDom_ff (s : State) (d : Nat) (v : Dom) : (s.setDom d v).ff = s.ff := rfl
@[simp] theorem State.setDom_restore (s : State) (d : Nat) (v : Dom) : (s.setDom d v).restore = s.restore := rfl
@[simp] theorem State.setDom_sbank (s : State) (d : Nat) (v : Dom) : (s.setDom d v).sbank = s.sbank := rfl
@[simp] theorem State.setDom_bm (s : State) (d : Nat) (v : Dom) : (s.setDom d v).bm = s.bm := rfl
@[simp] theorem State.setDom_bmOut (s : State) (d : Nat) (v : Dom) : (s.setDom d v).bmOut = s.bmOut := rfl
@[simp] theorem State.setDom_bmNext (s : State) (d : Nat) (v : Dom) : (s.setDom d v).bmNext = s.bmNext := rfl
@[simp] theorem State.setDom_portIn (s : State) (d : Nat) (v : Dom) : (s.setDom d v).portIn = s.portIn := rfl
@[simp] theorem State.setDom_portOut (s : State) (d : Nat) (v : Dom) : (s.setDom d v).portOut = s.portOut := rfl
@[simp] theorem State.setDom_gio (s : State) (d : Nat) (v : Dom) : (s.setDom d v).gio = s.gio := rfl
@[simp] theorem State.setDom_mgtLast (s : State) (d : Nat) (v : Dom) : (s.setDom d v).mgtLast = s.mgtLast := rfl
@[simp] theorem State.setDom_rb (s : State) (d : Nat) (v : Dom) : (s.setDom d v).rb = s.rb := rfl
@[simp] theorem State.setDom_rbOut (s : State) (d : Nat) (v : Dom) : (s.setDom d v).rbOut = s.rbOut := rfl
@[simp] theorem State.setDom_ddr (s : State) (d : Nat) (v : Dom) : (s.setDom d v).ddr = s.ddr := rfl
@[simp] theorem State.setDom_tes (s : State) (d : Nat) (v : Dom) : (s.setDom d v).tes = s.tes := rfl
@[simp] theorem State.setDom_dm (s : State) (d : Nat) (v : Dom) : (s.setDom d v).dm = s.dm := rfl
@[simp] theorem State.setDom_im (s : State) (d : Nat) (v : Dom) : (s.setDom d v).im = s.im := rfl
@[simp] theorem State.setDom_mesh (s : State) (d : Nat) (v : Dom) : (s.setDom d v).mesh = s.mesh := rfl
@[simp] theorem State.setDom_packers (s : State) (d : Nat) (v : Dom) : (s.setDom d v).packers = s.packers := rfl
@[simp] theorem State.setDom_chns (s : State) (d : Nat) (v : Dom) : (s.setDom d v).chns = s.chns := rfl
@[simp] theorem State.setDom_shallots (s : State) (d : Nat) (v : Dom) : (s.setDom d v).shallots = s.shallots := rfl
@[simp] theorem State.setDom_gold (s : State) (d : Nat) (v : Dom) : (s.setDom d v).gold = s.gold := rfl
@[simp] theorem State.setDom_arows (s : State) (d : Nat) (v : Dom) : (s.setDom d v).arows = s.arows := rfl
@[simp] theorem State.setDom_usr (s : State) (d : Nat) (v : Dom) : (s.setDom d v).usr = s.usr := rfl
@[simp] theorem State.setDom_wk (s : State) (d : Nat) (v : Dom) : (s.setDom d v).wk = s.wk := rfl
@[simp] theorem State.setDom_txs (s : State) (d : Nat) (v : Dom) : (s.setDom d v).txs = s.txs := rfl
@[simp] theorem State.setDom_rxs (s : State) (d : Nat) (v : Dom) : (s.setDom d v).rxs = s.rxs := rfl
@[simp] theorem State.setDom_rxOut (s : State) (d : Nat) (v : Dom) : (s.setDom d v).rxOut = s.rxOut := rfl
@[simp] theorem State.setDom_walks (s : State) (d : Nat) (v : Dom) : (s.setDom d v).walks = s.walks := rfl
@[simp] theorem State.setDom_hots (s : State) (d : Nat) (v : Dom) : (s.setDom d v).hots = s.hots := rfl
@[simp] theorem State.setDom_moves (s : State) (d : Nat) (v : Dom) : (s.setDom d v).moves = s.moves := rfl
@[simp] theorem State.setDom_repairs (s : State) (d : Nat) (v : Dom) : (s.setDom d v).repairs = s.repairs := rfl
@[simp] theorem State.setDom_paramErrs (s : State) (d : Nat) (v : Dom) : (s.setDom d v).paramErrs = s.paramErrs := rfl
@[simp] theorem State.setDom_paramPar (s : State) (d : Nat) (v : Dom) : (s.setDom d v).paramPar = s.paramPar := rfl
@[simp] theorem State.setDom_ceSums (s : State) (d : Nat) (v : Dom) : (s.setDom d v).ceSums = s.ceSums := rfl
@[simp] theorem State.setDom_lastLogs (s : State) (d : Nat) (v : Dom) : (s.setDom d v).lastLogs = s.lastLogs := rfl
@[simp] theorem State.setDom_points (s : State) (d : Nat) (v : Dom) : (s.setDom d v).points = s.points := rfl
@[simp] theorem State.setDom_cchecks (s : State) (d : Nat) (v : Dom) : (s.setDom d v).cchecks = s.cchecks := rfl
@[simp] theorem State.setDom_zones (s : State) (d : Nat) (v : Dom) : (s.setDom d v).zones = s.zones := rfl
@[simp] theorem State.setDom_keys (s : State) (d : Nat) (v : Dom) : (s.setDom d v).keys = s.keys := rfl
@[simp] theorem State.setDom_sec (s : State) (d : Nat) (v : Dom) : (s.setDom d v).sec = s.sec := rfl
@[simp] theorem State.setDom_romFail (s : State) (d : Nat) (v : Dom) : (s.setDom d v).romFail = s.romFail := rfl
@[simp] theorem State.setDom_rd (s : State) (d : Nat) (v : Dom) (pg : Nat) (r : Row) (n : Nat) :
    (s.setDom d v).rd pg r n = s.rd pg r n := rfl
@[simp] theorem State.setDom_dom_same (s : State) (d : Nat) (v : Dom) : (s.setDom d v).dom d = v := mget_mset_same ..
theorem State.setDom_dom_ne (s : State) {d j : Nat} (v : Dom) (h : j ≠ d) :
    (s.setDom d v).dom j = s.dom j := mget_mset_ne _ _ _ h

/-! ### setGate -/

@[simp] theorem State.setGate_pending (s : State) (e : Nat) (v : Gate) : (s.setGate e v).pending = s.pending := rfl
@[simp] theorem State.setGate_fresh (s : State) (e : Nat) (v : Gate) : (s.setGate e v).fresh = s.fresh := rfl
@[simp] theorem State.setGate_cycles (s : State) (e : Nat) (v : Gate) : (s.setGate e v).cycles = s.cycles := rfl
@[simp] theorem State.setGate_regs (s : State) (e : Nat) (v : Gate) : (s.setGate e v).regs = s.regs := rfl
@[simp] theorem State.setGate_bus (s : State) (e : Nat) (v : Gate) : (s.setGate e v).bus = s.bus := rfl
@[simp] theorem State.setGate_shadow (s : State) (e : Nat) (v : Gate) : (s.setGate e v).shadow = s.shadow := rfl
@[simp] theorem State.setGate_logQ (s : State) (e : Nat) (v : Gate) : (s.setGate e v).logQ = s.logQ := rfl
@[simp] theorem State.setGate_chans (s : State) (e : Nat) (v : Gate) : (s.setGate e v).chans = s.chans := rfl
@[simp] theorem State.setGate_doms (s : State) (e : Nat) (v : Gate) : (s.setGate e v).doms = s.doms := rfl
@[simp] theorem State.setGate_gates (s : State) (e : Nat) (v : Gate) : (s.setGate e v).gates = mset {} s.gates e v := rfl
@[simp] theorem State.setGate_plls (s : State) (e : Nat) (v : Gate) : (s.setGate e v).plls = s.plls := rfl
@[simp] theorem State.setGate_trees (s : State) (e : Nat) (v : Gate) : (s.setGate e v).trees = s.trees := rfl
@[simp] theorem State.setGate_ck (s : State) (e : Nat) (v : Gate) : (s.setGate e v).ck = s.ck := rfl
@[simp] theorem State.setGate_tp (s : State) (e : Nat) (v : Gate) : (s.setGate e v).tp = s.tp := rfl
@[simp] theorem State.setGate_ms (s : State) (e : Nat) (v : Gate) : (s.setGate e v).ms = s.ms := rfl
@[simp] theorem State.setGate_ld (s : State) (e : Nat) (v : Gate) : (s.setGate e v).ld = s.ld := rfl
@[simp] theorem State.setGate_pw (s : State) (e : Nat) (v : Gate) : (s.setGate e v).pw = s.pw := rfl
@[simp] theorem State.setGate_rgs (s : State) (e : Nat) (v : Gate) : (s.setGate e v).rgs = s.rgs := rfl
@[simp] theorem State.setGate_cfg (s : State) (e : Nat) (v : Gate) : (s.setGate e v).cfg = s.cfg := rfl
@[simp] theorem State.setGate_latch (s : State) (e : Nat) (v : Gate) : (s.setGate e v).latch = s.latch := rfl
@[simp] theorem State.setGate_ff (s : State) (e : Nat) (v : Gate) : (s.setGate e v).ff = s.ff := rfl
@[simp] theorem State.setGate_restore (s : State) (e : Nat) (v : Gate) : (s.setGate e v).restore = s.restore := rfl
@[simp] theorem State.setGate_sbank (s : State) (e : Nat) (v : Gate) : (s.setGate e v).sbank = s.sbank := rfl
@[simp] theorem State.setGate_bm (s : State) (e : Nat) (v : Gate) : (s.setGate e v).bm = s.bm := rfl
@[simp] theorem State.setGate_bmOut (s : State) (e : Nat) (v : Gate) : (s.setGate e v).bmOut = s.bmOut := rfl
@[simp] theorem State.setGate_bmNext (s : State) (e : Nat) (v : Gate) : (s.setGate e v).bmNext = s.bmNext := rfl
@[simp] theorem State.setGate_portIn (s : State) (e : Nat) (v : Gate) : (s.setGate e v).portIn = s.portIn := rfl
@[simp] theorem State.setGate_portOut (s : State) (e : Nat) (v : Gate) : (s.setGate e v).portOut = s.portOut := rfl
@[simp] theorem State.setGate_gio (s : State) (e : Nat) (v : Gate) : (s.setGate e v).gio = s.gio := rfl
@[simp] theorem State.setGate_mgtLast (s : State) (e : Nat) (v : Gate) : (s.setGate e v).mgtLast = s.mgtLast := rfl
@[simp] theorem State.setGate_rb (s : State) (e : Nat) (v : Gate) : (s.setGate e v).rb = s.rb := rfl
@[simp] theorem State.setGate_rbOut (s : State) (e : Nat) (v : Gate) : (s.setGate e v).rbOut = s.rbOut := rfl
@[simp] theorem State.setGate_ddr (s : State) (e : Nat) (v : Gate) : (s.setGate e v).ddr = s.ddr := rfl
@[simp] theorem State.setGate_tes (s : State) (e : Nat) (v : Gate) : (s.setGate e v).tes = s.tes := rfl
@[simp] theorem State.setGate_dm (s : State) (e : Nat) (v : Gate) : (s.setGate e v).dm = s.dm := rfl
@[simp] theorem State.setGate_im (s : State) (e : Nat) (v : Gate) : (s.setGate e v).im = s.im := rfl
@[simp] theorem State.setGate_mesh (s : State) (e : Nat) (v : Gate) : (s.setGate e v).mesh = s.mesh := rfl
@[simp] theorem State.setGate_packers (s : State) (e : Nat) (v : Gate) : (s.setGate e v).packers = s.packers := rfl
@[simp] theorem State.setGate_chns (s : State) (e : Nat) (v : Gate) : (s.setGate e v).chns = s.chns := rfl
@[simp] theorem State.setGate_shallots (s : State) (e : Nat) (v : Gate) : (s.setGate e v).shallots = s.shallots := rfl
@[simp] theorem State.setGate_gold (s : State) (e : Nat) (v : Gate) : (s.setGate e v).gold = s.gold := rfl
@[simp] theorem State.setGate_arows (s : State) (e : Nat) (v : Gate) : (s.setGate e v).arows = s.arows := rfl
@[simp] theorem State.setGate_usr (s : State) (e : Nat) (v : Gate) : (s.setGate e v).usr = s.usr := rfl
@[simp] theorem State.setGate_wk (s : State) (e : Nat) (v : Gate) : (s.setGate e v).wk = s.wk := rfl
@[simp] theorem State.setGate_txs (s : State) (e : Nat) (v : Gate) : (s.setGate e v).txs = s.txs := rfl
@[simp] theorem State.setGate_rxs (s : State) (e : Nat) (v : Gate) : (s.setGate e v).rxs = s.rxs := rfl
@[simp] theorem State.setGate_rxOut (s : State) (e : Nat) (v : Gate) : (s.setGate e v).rxOut = s.rxOut := rfl
@[simp] theorem State.setGate_walks (s : State) (e : Nat) (v : Gate) : (s.setGate e v).walks = s.walks := rfl
@[simp] theorem State.setGate_hots (s : State) (e : Nat) (v : Gate) : (s.setGate e v).hots = s.hots := rfl
@[simp] theorem State.setGate_moves (s : State) (e : Nat) (v : Gate) : (s.setGate e v).moves = s.moves := rfl
@[simp] theorem State.setGate_repairs (s : State) (e : Nat) (v : Gate) : (s.setGate e v).repairs = s.repairs := rfl
@[simp] theorem State.setGate_paramErrs (s : State) (e : Nat) (v : Gate) : (s.setGate e v).paramErrs = s.paramErrs := rfl
@[simp] theorem State.setGate_paramPar (s : State) (e : Nat) (v : Gate) : (s.setGate e v).paramPar = s.paramPar := rfl
@[simp] theorem State.setGate_ceSums (s : State) (e : Nat) (v : Gate) : (s.setGate e v).ceSums = s.ceSums := rfl
@[simp] theorem State.setGate_lastLogs (s : State) (e : Nat) (v : Gate) : (s.setGate e v).lastLogs = s.lastLogs := rfl
@[simp] theorem State.setGate_points (s : State) (e : Nat) (v : Gate) : (s.setGate e v).points = s.points := rfl
@[simp] theorem State.setGate_cchecks (s : State) (e : Nat) (v : Gate) : (s.setGate e v).cchecks = s.cchecks := rfl
@[simp] theorem State.setGate_zones (s : State) (e : Nat) (v : Gate) : (s.setGate e v).zones = s.zones := rfl
@[simp] theorem State.setGate_keys (s : State) (e : Nat) (v : Gate) : (s.setGate e v).keys = s.keys := rfl
@[simp] theorem State.setGate_sec (s : State) (e : Nat) (v : Gate) : (s.setGate e v).sec = s.sec := rfl
@[simp] theorem State.setGate_romFail (s : State) (e : Nat) (v : Gate) : (s.setGate e v).romFail = s.romFail := rfl
@[simp] theorem State.setGate_rd (s : State) (e : Nat) (v : Gate) (pg : Nat) (r : Row) (n : Nat) :
    (s.setGate e v).rd pg r n = s.rd pg r n := rfl
@[simp] theorem State.setGate_gate_same (s : State) (e : Nat) (v : Gate) : (s.setGate e v).gate e = v := mget_mset_same ..
theorem State.setGate_gate_ne (s : State) {e j : Nat} (v : Gate) (h : j ≠ e) :
    (s.setGate e v).gate j = s.gate j := mget_mset_ne _ _ _ h

/-! ### setPll -/

@[simp] theorem State.setPll_pending (s : State) (p : Nat) (v : Pll) : (s.setPll p v).pending = s.pending := rfl
@[simp] theorem State.setPll_fresh (s : State) (p : Nat) (v : Pll) : (s.setPll p v).fresh = s.fresh := rfl
@[simp] theorem State.setPll_cycles (s : State) (p : Nat) (v : Pll) : (s.setPll p v).cycles = s.cycles := rfl
@[simp] theorem State.setPll_regs (s : State) (p : Nat) (v : Pll) : (s.setPll p v).regs = s.regs := rfl
@[simp] theorem State.setPll_bus (s : State) (p : Nat) (v : Pll) : (s.setPll p v).bus = s.bus := rfl
@[simp] theorem State.setPll_shadow (s : State) (p : Nat) (v : Pll) : (s.setPll p v).shadow = s.shadow := rfl
@[simp] theorem State.setPll_logQ (s : State) (p : Nat) (v : Pll) : (s.setPll p v).logQ = s.logQ := rfl
@[simp] theorem State.setPll_chans (s : State) (p : Nat) (v : Pll) : (s.setPll p v).chans = s.chans := rfl
@[simp] theorem State.setPll_doms (s : State) (p : Nat) (v : Pll) : (s.setPll p v).doms = s.doms := rfl
@[simp] theorem State.setPll_gates (s : State) (p : Nat) (v : Pll) : (s.setPll p v).gates = s.gates := rfl
@[simp] theorem State.setPll_plls (s : State) (p : Nat) (v : Pll) : (s.setPll p v).plls = mset {} s.plls p v := rfl
@[simp] theorem State.setPll_trees (s : State) (p : Nat) (v : Pll) : (s.setPll p v).trees = s.trees := rfl
@[simp] theorem State.setPll_ck (s : State) (p : Nat) (v : Pll) : (s.setPll p v).ck = s.ck := rfl
@[simp] theorem State.setPll_tp (s : State) (p : Nat) (v : Pll) : (s.setPll p v).tp = s.tp := rfl
@[simp] theorem State.setPll_ms (s : State) (p : Nat) (v : Pll) : (s.setPll p v).ms = s.ms := rfl
@[simp] theorem State.setPll_ld (s : State) (p : Nat) (v : Pll) : (s.setPll p v).ld = s.ld := rfl
@[simp] theorem State.setPll_pw (s : State) (p : Nat) (v : Pll) : (s.setPll p v).pw = s.pw := rfl
@[simp] theorem State.setPll_rgs (s : State) (p : Nat) (v : Pll) : (s.setPll p v).rgs = s.rgs := rfl
@[simp] theorem State.setPll_cfg (s : State) (p : Nat) (v : Pll) : (s.setPll p v).cfg = s.cfg := rfl
@[simp] theorem State.setPll_latch (s : State) (p : Nat) (v : Pll) : (s.setPll p v).latch = s.latch := rfl
@[simp] theorem State.setPll_ff (s : State) (p : Nat) (v : Pll) : (s.setPll p v).ff = s.ff := rfl
@[simp] theorem State.setPll_restore (s : State) (p : Nat) (v : Pll) : (s.setPll p v).restore = s.restore := rfl
@[simp] theorem State.setPll_sbank (s : State) (p : Nat) (v : Pll) : (s.setPll p v).sbank = s.sbank := rfl
@[simp] theorem State.setPll_bm (s : State) (p : Nat) (v : Pll) : (s.setPll p v).bm = s.bm := rfl
@[simp] theorem State.setPll_bmOut (s : State) (p : Nat) (v : Pll) : (s.setPll p v).bmOut = s.bmOut := rfl
@[simp] theorem State.setPll_bmNext (s : State) (p : Nat) (v : Pll) : (s.setPll p v).bmNext = s.bmNext := rfl
@[simp] theorem State.setPll_portIn (s : State) (p : Nat) (v : Pll) : (s.setPll p v).portIn = s.portIn := rfl
@[simp] theorem State.setPll_portOut (s : State) (p : Nat) (v : Pll) : (s.setPll p v).portOut = s.portOut := rfl
@[simp] theorem State.setPll_gio (s : State) (p : Nat) (v : Pll) : (s.setPll p v).gio = s.gio := rfl
@[simp] theorem State.setPll_mgtLast (s : State) (p : Nat) (v : Pll) : (s.setPll p v).mgtLast = s.mgtLast := rfl
@[simp] theorem State.setPll_rb (s : State) (p : Nat) (v : Pll) : (s.setPll p v).rb = s.rb := rfl
@[simp] theorem State.setPll_rbOut (s : State) (p : Nat) (v : Pll) : (s.setPll p v).rbOut = s.rbOut := rfl
@[simp] theorem State.setPll_ddr (s : State) (p : Nat) (v : Pll) : (s.setPll p v).ddr = s.ddr := rfl
@[simp] theorem State.setPll_tes (s : State) (p : Nat) (v : Pll) : (s.setPll p v).tes = s.tes := rfl
@[simp] theorem State.setPll_dm (s : State) (p : Nat) (v : Pll) : (s.setPll p v).dm = s.dm := rfl
@[simp] theorem State.setPll_im (s : State) (p : Nat) (v : Pll) : (s.setPll p v).im = s.im := rfl
@[simp] theorem State.setPll_mesh (s : State) (p : Nat) (v : Pll) : (s.setPll p v).mesh = s.mesh := rfl
@[simp] theorem State.setPll_packers (s : State) (p : Nat) (v : Pll) : (s.setPll p v).packers = s.packers := rfl
@[simp] theorem State.setPll_chns (s : State) (p : Nat) (v : Pll) : (s.setPll p v).chns = s.chns := rfl
@[simp] theorem State.setPll_shallots (s : State) (p : Nat) (v : Pll) : (s.setPll p v).shallots = s.shallots := rfl
@[simp] theorem State.setPll_gold (s : State) (p : Nat) (v : Pll) : (s.setPll p v).gold = s.gold := rfl
@[simp] theorem State.setPll_arows (s : State) (p : Nat) (v : Pll) : (s.setPll p v).arows = s.arows := rfl
@[simp] theorem State.setPll_usr (s : State) (p : Nat) (v : Pll) : (s.setPll p v).usr = s.usr := rfl
@[simp] theorem State.setPll_wk (s : State) (p : Nat) (v : Pll) : (s.setPll p v).wk = s.wk := rfl
@[simp] theorem State.setPll_txs (s : State) (p : Nat) (v : Pll) : (s.setPll p v).txs = s.txs := rfl
@[simp] theorem State.setPll_rxs (s : State) (p : Nat) (v : Pll) : (s.setPll p v).rxs = s.rxs := rfl
@[simp] theorem State.setPll_rxOut (s : State) (p : Nat) (v : Pll) : (s.setPll p v).rxOut = s.rxOut := rfl
@[simp] theorem State.setPll_walks (s : State) (p : Nat) (v : Pll) : (s.setPll p v).walks = s.walks := rfl
@[simp] theorem State.setPll_hots (s : State) (p : Nat) (v : Pll) : (s.setPll p v).hots = s.hots := rfl
@[simp] theorem State.setPll_moves (s : State) (p : Nat) (v : Pll) : (s.setPll p v).moves = s.moves := rfl
@[simp] theorem State.setPll_repairs (s : State) (p : Nat) (v : Pll) : (s.setPll p v).repairs = s.repairs := rfl
@[simp] theorem State.setPll_paramErrs (s : State) (p : Nat) (v : Pll) : (s.setPll p v).paramErrs = s.paramErrs := rfl
@[simp] theorem State.setPll_paramPar (s : State) (p : Nat) (v : Pll) : (s.setPll p v).paramPar = s.paramPar := rfl
@[simp] theorem State.setPll_ceSums (s : State) (p : Nat) (v : Pll) : (s.setPll p v).ceSums = s.ceSums := rfl
@[simp] theorem State.setPll_lastLogs (s : State) (p : Nat) (v : Pll) : (s.setPll p v).lastLogs = s.lastLogs := rfl
@[simp] theorem State.setPll_points (s : State) (p : Nat) (v : Pll) : (s.setPll p v).points = s.points := rfl
@[simp] theorem State.setPll_cchecks (s : State) (p : Nat) (v : Pll) : (s.setPll p v).cchecks = s.cchecks := rfl
@[simp] theorem State.setPll_zones (s : State) (p : Nat) (v : Pll) : (s.setPll p v).zones = s.zones := rfl
@[simp] theorem State.setPll_keys (s : State) (p : Nat) (v : Pll) : (s.setPll p v).keys = s.keys := rfl
@[simp] theorem State.setPll_sec (s : State) (p : Nat) (v : Pll) : (s.setPll p v).sec = s.sec := rfl
@[simp] theorem State.setPll_romFail (s : State) (p : Nat) (v : Pll) : (s.setPll p v).romFail = s.romFail := rfl
@[simp] theorem State.setPll_rd (s : State) (p : Nat) (v : Pll) (pg : Nat) (r : Row) (n : Nat) :
    (s.setPll p v).rd pg r n = s.rd pg r n := rfl
@[simp] theorem State.setPll_pll_same (s : State) (p : Nat) (v : Pll) : (s.setPll p v).pll p = v := mget_mset_same ..
theorem State.setPll_pll_ne (s : State) {p j : Nat} (v : Pll) (h : j ≠ p) :
    (s.setPll p v).pll j = s.pll j := mget_mset_ne _ _ _ h

/-! ### setTree -/

@[simp] theorem State.setTree_pending (s : State) (t : Nat) (v : Tree) : (s.setTree t v).pending = s.pending := rfl
@[simp] theorem State.setTree_fresh (s : State) (t : Nat) (v : Tree) : (s.setTree t v).fresh = s.fresh := rfl
@[simp] theorem State.setTree_cycles (s : State) (t : Nat) (v : Tree) : (s.setTree t v).cycles = s.cycles := rfl
@[simp] theorem State.setTree_regs (s : State) (t : Nat) (v : Tree) : (s.setTree t v).regs = s.regs := rfl
@[simp] theorem State.setTree_bus (s : State) (t : Nat) (v : Tree) : (s.setTree t v).bus = s.bus := rfl
@[simp] theorem State.setTree_shadow (s : State) (t : Nat) (v : Tree) : (s.setTree t v).shadow = s.shadow := rfl
@[simp] theorem State.setTree_logQ (s : State) (t : Nat) (v : Tree) : (s.setTree t v).logQ = s.logQ := rfl
@[simp] theorem State.setTree_chans (s : State) (t : Nat) (v : Tree) : (s.setTree t v).chans = s.chans := rfl
@[simp] theorem State.setTree_doms (s : State) (t : Nat) (v : Tree) : (s.setTree t v).doms = s.doms := rfl
@[simp] theorem State.setTree_gates (s : State) (t : Nat) (v : Tree) : (s.setTree t v).gates = s.gates := rfl
@[simp] theorem State.setTree_plls (s : State) (t : Nat) (v : Tree) : (s.setTree t v).plls = s.plls := rfl
@[simp] theorem State.setTree_trees (s : State) (t : Nat) (v : Tree) : (s.setTree t v).trees = mset {} s.trees t v := rfl
@[simp] theorem State.setTree_ck (s : State) (t : Nat) (v : Tree) : (s.setTree t v).ck = s.ck := rfl
@[simp] theorem State.setTree_tp (s : State) (t : Nat) (v : Tree) : (s.setTree t v).tp = s.tp := rfl
@[simp] theorem State.setTree_ms (s : State) (t : Nat) (v : Tree) : (s.setTree t v).ms = s.ms := rfl
@[simp] theorem State.setTree_ld (s : State) (t : Nat) (v : Tree) : (s.setTree t v).ld = s.ld := rfl
@[simp] theorem State.setTree_pw (s : State) (t : Nat) (v : Tree) : (s.setTree t v).pw = s.pw := rfl
@[simp] theorem State.setTree_rgs (s : State) (t : Nat) (v : Tree) : (s.setTree t v).rgs = s.rgs := rfl
@[simp] theorem State.setTree_cfg (s : State) (t : Nat) (v : Tree) : (s.setTree t v).cfg = s.cfg := rfl
@[simp] theorem State.setTree_latch (s : State) (t : Nat) (v : Tree) : (s.setTree t v).latch = s.latch := rfl
@[simp] theorem State.setTree_ff (s : State) (t : Nat) (v : Tree) : (s.setTree t v).ff = s.ff := rfl
@[simp] theorem State.setTree_restore (s : State) (t : Nat) (v : Tree) : (s.setTree t v).restore = s.restore := rfl
@[simp] theorem State.setTree_sbank (s : State) (t : Nat) (v : Tree) : (s.setTree t v).sbank = s.sbank := rfl
@[simp] theorem State.setTree_bm (s : State) (t : Nat) (v : Tree) : (s.setTree t v).bm = s.bm := rfl
@[simp] theorem State.setTree_bmOut (s : State) (t : Nat) (v : Tree) : (s.setTree t v).bmOut = s.bmOut := rfl
@[simp] theorem State.setTree_bmNext (s : State) (t : Nat) (v : Tree) : (s.setTree t v).bmNext = s.bmNext := rfl
@[simp] theorem State.setTree_portIn (s : State) (t : Nat) (v : Tree) : (s.setTree t v).portIn = s.portIn := rfl
@[simp] theorem State.setTree_portOut (s : State) (t : Nat) (v : Tree) : (s.setTree t v).portOut = s.portOut := rfl
@[simp] theorem State.setTree_gio (s : State) (t : Nat) (v : Tree) : (s.setTree t v).gio = s.gio := rfl
@[simp] theorem State.setTree_mgtLast (s : State) (t : Nat) (v : Tree) : (s.setTree t v).mgtLast = s.mgtLast := rfl
@[simp] theorem State.setTree_rb (s : State) (t : Nat) (v : Tree) : (s.setTree t v).rb = s.rb := rfl
@[simp] theorem State.setTree_rbOut (s : State) (t : Nat) (v : Tree) : (s.setTree t v).rbOut = s.rbOut := rfl
@[simp] theorem State.setTree_ddr (s : State) (t : Nat) (v : Tree) : (s.setTree t v).ddr = s.ddr := rfl
@[simp] theorem State.setTree_tes (s : State) (t : Nat) (v : Tree) : (s.setTree t v).tes = s.tes := rfl
@[simp] theorem State.setTree_dm (s : State) (t : Nat) (v : Tree) : (s.setTree t v).dm = s.dm := rfl
@[simp] theorem State.setTree_im (s : State) (t : Nat) (v : Tree) : (s.setTree t v).im = s.im := rfl
@[simp] theorem State.setTree_mesh (s : State) (t : Nat) (v : Tree) : (s.setTree t v).mesh = s.mesh := rfl
@[simp] theorem State.setTree_packers (s : State) (t : Nat) (v : Tree) : (s.setTree t v).packers = s.packers := rfl
@[simp] theorem State.setTree_chns (s : State) (t : Nat) (v : Tree) : (s.setTree t v).chns = s.chns := rfl
@[simp] theorem State.setTree_shallots (s : State) (t : Nat) (v : Tree) : (s.setTree t v).shallots = s.shallots := rfl
@[simp] theorem State.setTree_gold (s : State) (t : Nat) (v : Tree) : (s.setTree t v).gold = s.gold := rfl
@[simp] theorem State.setTree_arows (s : State) (t : Nat) (v : Tree) : (s.setTree t v).arows = s.arows := rfl
@[simp] theorem State.setTree_usr (s : State) (t : Nat) (v : Tree) : (s.setTree t v).usr = s.usr := rfl
@[simp] theorem State.setTree_wk (s : State) (t : Nat) (v : Tree) : (s.setTree t v).wk = s.wk := rfl
@[simp] theorem State.setTree_txs (s : State) (t : Nat) (v : Tree) : (s.setTree t v).txs = s.txs := rfl
@[simp] theorem State.setTree_rxs (s : State) (t : Nat) (v : Tree) : (s.setTree t v).rxs = s.rxs := rfl
@[simp] theorem State.setTree_rxOut (s : State) (t : Nat) (v : Tree) : (s.setTree t v).rxOut = s.rxOut := rfl
@[simp] theorem State.setTree_walks (s : State) (t : Nat) (v : Tree) : (s.setTree t v).walks = s.walks := rfl
@[simp] theorem State.setTree_hots (s : State) (t : Nat) (v : Tree) : (s.setTree t v).hots = s.hots := rfl
@[simp] theorem State.setTree_moves (s : State) (t : Nat) (v : Tree) : (s.setTree t v).moves = s.moves := rfl
@[simp] theorem State.setTree_repairs (s : State) (t : Nat) (v : Tree) : (s.setTree t v).repairs = s.repairs := rfl
@[simp] theorem State.setTree_paramErrs (s : State) (t : Nat) (v : Tree) : (s.setTree t v).paramErrs = s.paramErrs := rfl
@[simp] theorem State.setTree_paramPar (s : State) (t : Nat) (v : Tree) : (s.setTree t v).paramPar = s.paramPar := rfl
@[simp] theorem State.setTree_ceSums (s : State) (t : Nat) (v : Tree) : (s.setTree t v).ceSums = s.ceSums := rfl
@[simp] theorem State.setTree_lastLogs (s : State) (t : Nat) (v : Tree) : (s.setTree t v).lastLogs = s.lastLogs := rfl
@[simp] theorem State.setTree_points (s : State) (t : Nat) (v : Tree) : (s.setTree t v).points = s.points := rfl
@[simp] theorem State.setTree_cchecks (s : State) (t : Nat) (v : Tree) : (s.setTree t v).cchecks = s.cchecks := rfl
@[simp] theorem State.setTree_zones (s : State) (t : Nat) (v : Tree) : (s.setTree t v).zones = s.zones := rfl
@[simp] theorem State.setTree_keys (s : State) (t : Nat) (v : Tree) : (s.setTree t v).keys = s.keys := rfl
@[simp] theorem State.setTree_sec (s : State) (t : Nat) (v : Tree) : (s.setTree t v).sec = s.sec := rfl
@[simp] theorem State.setTree_romFail (s : State) (t : Nat) (v : Tree) : (s.setTree t v).romFail = s.romFail := rfl
@[simp] theorem State.setTree_rd (s : State) (t : Nat) (v : Tree) (pg : Nat) (r : Row) (n : Nat) :
    (s.setTree t v).rd pg r n = s.rd pg r n := rfl
@[simp] theorem State.setTree_tree_same (s : State) (t : Nat) (v : Tree) : (s.setTree t v).tree t = v := mget_mset_same ..
theorem State.setTree_tree_ne (s : State) {t j : Nat} (v : Tree) (h : j ≠ t) :
    (s.setTree t v).tree j = s.tree j := mget_mset_ne _ _ _ h

/-! ### setChan -/

@[simp] theorem State.setChan_pending (s : State) (k : Nat) (v : Chan) : (s.setChan k v).pending = s.pending := rfl
@[simp] theorem State.setChan_fresh (s : State) (k : Nat) (v : Chan) : (s.setChan k v).fresh = s.fresh := rfl
@[simp] theorem State.setChan_cycles (s : State) (k : Nat) (v : Chan) : (s.setChan k v).cycles = s.cycles := rfl
@[simp] theorem State.setChan_regs (s : State) (k : Nat) (v : Chan) : (s.setChan k v).regs = s.regs := rfl
@[simp] theorem State.setChan_bus (s : State) (k : Nat) (v : Chan) : (s.setChan k v).bus = s.bus := rfl
@[simp] theorem State.setChan_shadow (s : State) (k : Nat) (v : Chan) : (s.setChan k v).shadow = s.shadow := rfl
@[simp] theorem State.setChan_logQ (s : State) (k : Nat) (v : Chan) : (s.setChan k v).logQ = s.logQ := rfl
@[simp] theorem State.setChan_chans (s : State) (k : Nat) (v : Chan) : (s.setChan k v).chans = mset {} s.chans k v := rfl
@[simp] theorem State.setChan_doms (s : State) (k : Nat) (v : Chan) : (s.setChan k v).doms = s.doms := rfl
@[simp] theorem State.setChan_gates (s : State) (k : Nat) (v : Chan) : (s.setChan k v).gates = s.gates := rfl
@[simp] theorem State.setChan_plls (s : State) (k : Nat) (v : Chan) : (s.setChan k v).plls = s.plls := rfl
@[simp] theorem State.setChan_trees (s : State) (k : Nat) (v : Chan) : (s.setChan k v).trees = s.trees := rfl
@[simp] theorem State.setChan_ck (s : State) (k : Nat) (v : Chan) : (s.setChan k v).ck = s.ck := rfl
@[simp] theorem State.setChan_tp (s : State) (k : Nat) (v : Chan) : (s.setChan k v).tp = s.tp := rfl
@[simp] theorem State.setChan_ms (s : State) (k : Nat) (v : Chan) : (s.setChan k v).ms = s.ms := rfl
@[simp] theorem State.setChan_ld (s : State) (k : Nat) (v : Chan) : (s.setChan k v).ld = s.ld := rfl
@[simp] theorem State.setChan_pw (s : State) (k : Nat) (v : Chan) : (s.setChan k v).pw = s.pw := rfl
@[simp] theorem State.setChan_rgs (s : State) (k : Nat) (v : Chan) : (s.setChan k v).rgs = s.rgs := rfl
@[simp] theorem State.setChan_cfg (s : State) (k : Nat) (v : Chan) : (s.setChan k v).cfg = s.cfg := rfl
@[simp] theorem State.setChan_latch (s : State) (k : Nat) (v : Chan) : (s.setChan k v).latch = s.latch := rfl
@[simp] theorem State.setChan_ff (s : State) (k : Nat) (v : Chan) : (s.setChan k v).ff = s.ff := rfl
@[simp] theorem State.setChan_restore (s : State) (k : Nat) (v : Chan) : (s.setChan k v).restore = s.restore := rfl
@[simp] theorem State.setChan_sbank (s : State) (k : Nat) (v : Chan) : (s.setChan k v).sbank = s.sbank := rfl
@[simp] theorem State.setChan_bm (s : State) (k : Nat) (v : Chan) : (s.setChan k v).bm = s.bm := rfl
@[simp] theorem State.setChan_bmOut (s : State) (k : Nat) (v : Chan) : (s.setChan k v).bmOut = s.bmOut := rfl
@[simp] theorem State.setChan_bmNext (s : State) (k : Nat) (v : Chan) : (s.setChan k v).bmNext = s.bmNext := rfl
@[simp] theorem State.setChan_portIn (s : State) (k : Nat) (v : Chan) : (s.setChan k v).portIn = s.portIn := rfl
@[simp] theorem State.setChan_portOut (s : State) (k : Nat) (v : Chan) : (s.setChan k v).portOut = s.portOut := rfl
@[simp] theorem State.setChan_gio (s : State) (k : Nat) (v : Chan) : (s.setChan k v).gio = s.gio := rfl
@[simp] theorem State.setChan_mgtLast (s : State) (k : Nat) (v : Chan) : (s.setChan k v).mgtLast = s.mgtLast := rfl
@[simp] theorem State.setChan_rb (s : State) (k : Nat) (v : Chan) : (s.setChan k v).rb = s.rb := rfl
@[simp] theorem State.setChan_rbOut (s : State) (k : Nat) (v : Chan) : (s.setChan k v).rbOut = s.rbOut := rfl
@[simp] theorem State.setChan_ddr (s : State) (k : Nat) (v : Chan) : (s.setChan k v).ddr = s.ddr := rfl
@[simp] theorem State.setChan_tes (s : State) (k : Nat) (v : Chan) : (s.setChan k v).tes = s.tes := rfl
@[simp] theorem State.setChan_dm (s : State) (k : Nat) (v : Chan) : (s.setChan k v).dm = s.dm := rfl
@[simp] theorem State.setChan_im (s : State) (k : Nat) (v : Chan) : (s.setChan k v).im = s.im := rfl
@[simp] theorem State.setChan_mesh (s : State) (k : Nat) (v : Chan) : (s.setChan k v).mesh = s.mesh := rfl
@[simp] theorem State.setChan_packers (s : State) (k : Nat) (v : Chan) : (s.setChan k v).packers = s.packers := rfl
@[simp] theorem State.setChan_chns (s : State) (k : Nat) (v : Chan) : (s.setChan k v).chns = s.chns := rfl
@[simp] theorem State.setChan_shallots (s : State) (k : Nat) (v : Chan) : (s.setChan k v).shallots = s.shallots := rfl
@[simp] theorem State.setChan_gold (s : State) (k : Nat) (v : Chan) : (s.setChan k v).gold = s.gold := rfl
@[simp] theorem State.setChan_arows (s : State) (k : Nat) (v : Chan) : (s.setChan k v).arows = s.arows := rfl
@[simp] theorem State.setChan_usr (s : State) (k : Nat) (v : Chan) : (s.setChan k v).usr = s.usr := rfl
@[simp] theorem State.setChan_wk (s : State) (k : Nat) (v : Chan) : (s.setChan k v).wk = s.wk := rfl
@[simp] theorem State.setChan_txs (s : State) (k : Nat) (v : Chan) : (s.setChan k v).txs = s.txs := rfl
@[simp] theorem State.setChan_rxs (s : State) (k : Nat) (v : Chan) : (s.setChan k v).rxs = s.rxs := rfl
@[simp] theorem State.setChan_rxOut (s : State) (k : Nat) (v : Chan) : (s.setChan k v).rxOut = s.rxOut := rfl
@[simp] theorem State.setChan_walks (s : State) (k : Nat) (v : Chan) : (s.setChan k v).walks = s.walks := rfl
@[simp] theorem State.setChan_hots (s : State) (k : Nat) (v : Chan) : (s.setChan k v).hots = s.hots := rfl
@[simp] theorem State.setChan_moves (s : State) (k : Nat) (v : Chan) : (s.setChan k v).moves = s.moves := rfl
@[simp] theorem State.setChan_repairs (s : State) (k : Nat) (v : Chan) : (s.setChan k v).repairs = s.repairs := rfl
@[simp] theorem State.setChan_paramErrs (s : State) (k : Nat) (v : Chan) : (s.setChan k v).paramErrs = s.paramErrs := rfl
@[simp] theorem State.setChan_paramPar (s : State) (k : Nat) (v : Chan) : (s.setChan k v).paramPar = s.paramPar := rfl
@[simp] theorem State.setChan_ceSums (s : State) (k : Nat) (v : Chan) : (s.setChan k v).ceSums = s.ceSums := rfl
@[simp] theorem State.setChan_lastLogs (s : State) (k : Nat) (v : Chan) : (s.setChan k v).lastLogs = s.lastLogs := rfl
@[simp] theorem State.setChan_points (s : State) (k : Nat) (v : Chan) : (s.setChan k v).points = s.points := rfl
@[simp] theorem State.setChan_cchecks (s : State) (k : Nat) (v : Chan) : (s.setChan k v).cchecks = s.cchecks := rfl
@[simp] theorem State.setChan_zones (s : State) (k : Nat) (v : Chan) : (s.setChan k v).zones = s.zones := rfl
@[simp] theorem State.setChan_keys (s : State) (k : Nat) (v : Chan) : (s.setChan k v).keys = s.keys := rfl
@[simp] theorem State.setChan_sec (s : State) (k : Nat) (v : Chan) : (s.setChan k v).sec = s.sec := rfl
@[simp] theorem State.setChan_romFail (s : State) (k : Nat) (v : Chan) : (s.setChan k v).romFail = s.romFail := rfl
@[simp] theorem State.setChan_rd (s : State) (k : Nat) (v : Chan) (pg : Nat) (r : Row) (n : Nat) :
    (s.setChan k v).rd pg r n = s.rd pg r n := rfl
@[simp] theorem State.setChan_chan_same (s : State) (k : Nat) (v : Chan) : (s.setChan k v).chan k = v := mget_mset_same ..
theorem State.setChan_chan_ne (s : State) {k j : Nat} (v : Chan) (h : j ≠ k) :
    (s.setChan k v).chan j = s.chan j := mget_mset_ne _ _ _ h

/-! ### setMs -/

@[simp] theorem State.setMs_pending (s : State) (v : Ms) : (s.setMs v).pending = s.pending := rfl
@[simp] theorem State.setMs_fresh (s : State) (v : Ms) : (s.setMs v).fresh = s.fresh := rfl
@[simp] theorem State.setMs_cycles (s : State) (v : Ms) : (s.setMs v).cycles = s.cycles := rfl
@[simp] theorem State.setMs_regs (s : State) (v : Ms) : (s.setMs v).regs = s.regs := rfl
@[simp] theorem State.setMs_bus (s : State) (v : Ms) : (s.setMs v).bus = s.bus := rfl
@[simp] theorem State.setMs_shadow (s : State) (v : Ms) : (s.setMs v).shadow = s.shadow := rfl
@[simp] theorem State.setMs_logQ (s : State) (v : Ms) : (s.setMs v).logQ = s.logQ := rfl
@[simp] theorem State.setMs_chans (s : State) (v : Ms) : (s.setMs v).chans = s.chans := rfl
@[simp] theorem State.setMs_doms (s : State) (v : Ms) : (s.setMs v).doms = s.doms := rfl
@[simp] theorem State.setMs_gates (s : State) (v : Ms) : (s.setMs v).gates = s.gates := rfl
@[simp] theorem State.setMs_plls (s : State) (v : Ms) : (s.setMs v).plls = s.plls := rfl
@[simp] theorem State.setMs_trees (s : State) (v : Ms) : (s.setMs v).trees = s.trees := rfl
@[simp] theorem State.setMs_ck (s : State) (v : Ms) : (s.setMs v).ck = s.ck := rfl
@[simp] theorem State.setMs_tp (s : State) (v : Ms) : (s.setMs v).tp = s.tp := rfl
@[simp] theorem State.setMs_ms (s : State) (v : Ms) : (s.setMs v).ms = v := rfl
@[simp] theorem State.setMs_ld (s : State) (v : Ms) : (s.setMs v).ld = s.ld := rfl
@[simp] theorem State.setMs_pw (s : State) (v : Ms) : (s.setMs v).pw = s.pw := rfl
@[simp] theorem State.setMs_rgs (s : State) (v : Ms) : (s.setMs v).rgs = s.rgs := rfl
@[simp] theorem State.setMs_cfg (s : State) (v : Ms) : (s.setMs v).cfg = s.cfg := rfl
@[simp] theorem State.setMs_latch (s : State) (v : Ms) : (s.setMs v).latch = s.latch := rfl
@[simp] theorem State.setMs_ff (s : State) (v : Ms) : (s.setMs v).ff = s.ff := rfl
@[simp] theorem State.setMs_restore (s : State) (v : Ms) : (s.setMs v).restore = s.restore := rfl
@[simp] theorem State.setMs_sbank (s : State) (v : Ms) : (s.setMs v).sbank = s.sbank := rfl
@[simp] theorem State.setMs_bm (s : State) (v : Ms) : (s.setMs v).bm = s.bm := rfl
@[simp] theorem State.setMs_bmOut (s : State) (v : Ms) : (s.setMs v).bmOut = s.bmOut := rfl
@[simp] theorem State.setMs_bmNext (s : State) (v : Ms) : (s.setMs v).bmNext = s.bmNext := rfl
@[simp] theorem State.setMs_portIn (s : State) (v : Ms) : (s.setMs v).portIn = s.portIn := rfl
@[simp] theorem State.setMs_portOut (s : State) (v : Ms) : (s.setMs v).portOut = s.portOut := rfl
@[simp] theorem State.setMs_gio (s : State) (v : Ms) : (s.setMs v).gio = s.gio := rfl
@[simp] theorem State.setMs_mgtLast (s : State) (v : Ms) : (s.setMs v).mgtLast = s.mgtLast := rfl
@[simp] theorem State.setMs_rb (s : State) (v : Ms) : (s.setMs v).rb = s.rb := rfl
@[simp] theorem State.setMs_rbOut (s : State) (v : Ms) : (s.setMs v).rbOut = s.rbOut := rfl
@[simp] theorem State.setMs_ddr (s : State) (v : Ms) : (s.setMs v).ddr = s.ddr := rfl
@[simp] theorem State.setMs_tes (s : State) (v : Ms) : (s.setMs v).tes = s.tes := rfl
@[simp] theorem State.setMs_dm (s : State) (v : Ms) : (s.setMs v).dm = s.dm := rfl
@[simp] theorem State.setMs_im (s : State) (v : Ms) : (s.setMs v).im = s.im := rfl
@[simp] theorem State.setMs_mesh (s : State) (v : Ms) : (s.setMs v).mesh = s.mesh := rfl
@[simp] theorem State.setMs_packers (s : State) (v : Ms) : (s.setMs v).packers = s.packers := rfl
@[simp] theorem State.setMs_chns (s : State) (v : Ms) : (s.setMs v).chns = s.chns := rfl
@[simp] theorem State.setMs_shallots (s : State) (v : Ms) : (s.setMs v).shallots = s.shallots := rfl
@[simp] theorem State.setMs_gold (s : State) (v : Ms) : (s.setMs v).gold = s.gold := rfl
@[simp] theorem State.setMs_arows (s : State) (v : Ms) : (s.setMs v).arows = s.arows := rfl
@[simp] theorem State.setMs_usr (s : State) (v : Ms) : (s.setMs v).usr = s.usr := rfl
@[simp] theorem State.setMs_wk (s : State) (v : Ms) : (s.setMs v).wk = s.wk := rfl
@[simp] theorem State.setMs_txs (s : State) (v : Ms) : (s.setMs v).txs = s.txs := rfl
@[simp] theorem State.setMs_rxs (s : State) (v : Ms) : (s.setMs v).rxs = s.rxs := rfl
@[simp] theorem State.setMs_rxOut (s : State) (v : Ms) : (s.setMs v).rxOut = s.rxOut := rfl
@[simp] theorem State.setMs_walks (s : State) (v : Ms) : (s.setMs v).walks = s.walks := rfl
@[simp] theorem State.setMs_hots (s : State) (v : Ms) : (s.setMs v).hots = s.hots := rfl
@[simp] theorem State.setMs_moves (s : State) (v : Ms) : (s.setMs v).moves = s.moves := rfl
@[simp] theorem State.setMs_repairs (s : State) (v : Ms) : (s.setMs v).repairs = s.repairs := rfl
@[simp] theorem State.setMs_paramErrs (s : State) (v : Ms) : (s.setMs v).paramErrs = s.paramErrs := rfl
@[simp] theorem State.setMs_paramPar (s : State) (v : Ms) : (s.setMs v).paramPar = s.paramPar := rfl
@[simp] theorem State.setMs_ceSums (s : State) (v : Ms) : (s.setMs v).ceSums = s.ceSums := rfl
@[simp] theorem State.setMs_lastLogs (s : State) (v : Ms) : (s.setMs v).lastLogs = s.lastLogs := rfl
@[simp] theorem State.setMs_points (s : State) (v : Ms) : (s.setMs v).points = s.points := rfl
@[simp] theorem State.setMs_cchecks (s : State) (v : Ms) : (s.setMs v).cchecks = s.cchecks := rfl
@[simp] theorem State.setMs_zones (s : State) (v : Ms) : (s.setMs v).zones = s.zones := rfl
@[simp] theorem State.setMs_keys (s : State) (v : Ms) : (s.setMs v).keys = s.keys := rfl
@[simp] theorem State.setMs_sec (s : State) (v : Ms) : (s.setMs v).sec = s.sec := rfl
@[simp] theorem State.setMs_romFail (s : State) (v : Ms) : (s.setMs v).romFail = s.romFail := rfl
@[simp] theorem State.setMs_rd (s : State) (v : Ms) (pg : Nat) (r : Row) (n : Nat) :
    (s.setMs v).rd pg r n = s.rd pg r n := rfl

/-! ### setTp -/

@[simp] theorem State.setTp_pending (s : State) (v : Tp) : (s.setTp v).pending = s.pending := rfl
@[simp] theorem State.setTp_fresh (s : State) (v : Tp) : (s.setTp v).fresh = s.fresh := rfl
@[simp] theorem State.setTp_cycles (s : State) (v : Tp) : (s.setTp v).cycles = s.cycles := rfl
@[simp] theorem State.setTp_regs (s : State) (v : Tp) : (s.setTp v).regs = s.regs := rfl
@[simp] theorem State.setTp_bus (s : State) (v : Tp) : (s.setTp v).bus = s.bus := rfl
@[simp] theorem State.setTp_shadow (s : State) (v : Tp) : (s.setTp v).shadow = s.shadow := rfl
@[simp] theorem State.setTp_logQ (s : State) (v : Tp) : (s.setTp v).logQ = s.logQ := rfl
@[simp] theorem State.setTp_chans (s : State) (v : Tp) : (s.setTp v).chans = s.chans := rfl
@[simp] theorem State.setTp_doms (s : State) (v : Tp) : (s.setTp v).doms = s.doms := rfl
@[simp] theorem State.setTp_gates (s : State) (v : Tp) : (s.setTp v).gates = s.gates := rfl
@[simp] theorem State.setTp_plls (s : State) (v : Tp) : (s.setTp v).plls = s.plls := rfl
@[simp] theorem State.setTp_trees (s : State) (v : Tp) : (s.setTp v).trees = s.trees := rfl
@[simp] theorem State.setTp_ck (s : State) (v : Tp) : (s.setTp v).ck = s.ck := rfl
@[simp] theorem State.setTp_tp (s : State) (v : Tp) : (s.setTp v).tp = v := rfl
@[simp] theorem State.setTp_ms (s : State) (v : Tp) : (s.setTp v).ms = s.ms := rfl
@[simp] theorem State.setTp_ld (s : State) (v : Tp) : (s.setTp v).ld = s.ld := rfl
@[simp] theorem State.setTp_pw (s : State) (v : Tp) : (s.setTp v).pw = s.pw := rfl
@[simp] theorem State.setTp_rgs (s : State) (v : Tp) : (s.setTp v).rgs = s.rgs := rfl
@[simp] theorem State.setTp_cfg (s : State) (v : Tp) : (s.setTp v).cfg = s.cfg := rfl
@[simp] theorem State.setTp_latch (s : State) (v : Tp) : (s.setTp v).latch = s.latch := rfl
@[simp] theorem State.setTp_ff (s : State) (v : Tp) : (s.setTp v).ff = s.ff := rfl
@[simp] theorem State.setTp_restore (s : State) (v : Tp) : (s.setTp v).restore = s.restore := rfl
@[simp] theorem State.setTp_sbank (s : State) (v : Tp) : (s.setTp v).sbank = s.sbank := rfl
@[simp] theorem State.setTp_bm (s : State) (v : Tp) : (s.setTp v).bm = s.bm := rfl
@[simp] theorem State.setTp_bmOut (s : State) (v : Tp) : (s.setTp v).bmOut = s.bmOut := rfl
@[simp] theorem State.setTp_bmNext (s : State) (v : Tp) : (s.setTp v).bmNext = s.bmNext := rfl
@[simp] theorem State.setTp_portIn (s : State) (v : Tp) : (s.setTp v).portIn = s.portIn := rfl
@[simp] theorem State.setTp_portOut (s : State) (v : Tp) : (s.setTp v).portOut = s.portOut := rfl
@[simp] theorem State.setTp_gio (s : State) (v : Tp) : (s.setTp v).gio = s.gio := rfl
@[simp] theorem State.setTp_mgtLast (s : State) (v : Tp) : (s.setTp v).mgtLast = s.mgtLast := rfl
@[simp] theorem State.setTp_rb (s : State) (v : Tp) : (s.setTp v).rb = s.rb := rfl
@[simp] theorem State.setTp_rbOut (s : State) (v : Tp) : (s.setTp v).rbOut = s.rbOut := rfl
@[simp] theorem State.setTp_ddr (s : State) (v : Tp) : (s.setTp v).ddr = s.ddr := rfl
@[simp] theorem State.setTp_tes (s : State) (v : Tp) : (s.setTp v).tes = s.tes := rfl
@[simp] theorem State.setTp_dm (s : State) (v : Tp) : (s.setTp v).dm = s.dm := rfl
@[simp] theorem State.setTp_im (s : State) (v : Tp) : (s.setTp v).im = s.im := rfl
@[simp] theorem State.setTp_mesh (s : State) (v : Tp) : (s.setTp v).mesh = s.mesh := rfl
@[simp] theorem State.setTp_packers (s : State) (v : Tp) : (s.setTp v).packers = s.packers := rfl
@[simp] theorem State.setTp_chns (s : State) (v : Tp) : (s.setTp v).chns = s.chns := rfl
@[simp] theorem State.setTp_shallots (s : State) (v : Tp) : (s.setTp v).shallots = s.shallots := rfl
@[simp] theorem State.setTp_gold (s : State) (v : Tp) : (s.setTp v).gold = s.gold := rfl
@[simp] theorem State.setTp_arows (s : State) (v : Tp) : (s.setTp v).arows = s.arows := rfl
@[simp] theorem State.setTp_usr (s : State) (v : Tp) : (s.setTp v).usr = s.usr := rfl
@[simp] theorem State.setTp_wk (s : State) (v : Tp) : (s.setTp v).wk = s.wk := rfl
@[simp] theorem State.setTp_txs (s : State) (v : Tp) : (s.setTp v).txs = s.txs := rfl
@[simp] theorem State.setTp_rxs (s : State) (v : Tp) : (s.setTp v).rxs = s.rxs := rfl
@[simp] theorem State.setTp_rxOut (s : State) (v : Tp) : (s.setTp v).rxOut = s.rxOut := rfl
@[simp] theorem State.setTp_walks (s : State) (v : Tp) : (s.setTp v).walks = s.walks := rfl
@[simp] theorem State.setTp_hots (s : State) (v : Tp) : (s.setTp v).hots = s.hots := rfl
@[simp] theorem State.setTp_moves (s : State) (v : Tp) : (s.setTp v).moves = s.moves := rfl
@[simp] theorem State.setTp_repairs (s : State) (v : Tp) : (s.setTp v).repairs = s.repairs := rfl
@[simp] theorem State.setTp_paramErrs (s : State) (v : Tp) : (s.setTp v).paramErrs = s.paramErrs := rfl
@[simp] theorem State.setTp_paramPar (s : State) (v : Tp) : (s.setTp v).paramPar = s.paramPar := rfl
@[simp] theorem State.setTp_ceSums (s : State) (v : Tp) : (s.setTp v).ceSums = s.ceSums := rfl
@[simp] theorem State.setTp_lastLogs (s : State) (v : Tp) : (s.setTp v).lastLogs = s.lastLogs := rfl
@[simp] theorem State.setTp_points (s : State) (v : Tp) : (s.setTp v).points = s.points := rfl
@[simp] theorem State.setTp_cchecks (s : State) (v : Tp) : (s.setTp v).cchecks = s.cchecks := rfl
@[simp] theorem State.setTp_zones (s : State) (v : Tp) : (s.setTp v).zones = s.zones := rfl
@[simp] theorem State.setTp_keys (s : State) (v : Tp) : (s.setTp v).keys = s.keys := rfl
@[simp] theorem State.setTp_sec (s : State) (v : Tp) : (s.setTp v).sec = s.sec := rfl
@[simp] theorem State.setTp_romFail (s : State) (v : Tp) : (s.setTp v).romFail = s.romFail := rfl
@[simp] theorem State.setTp_rd (s : State) (v : Tp) (pg : Nat) (r : Row) (n : Nat) :
    (s.setTp v).rd pg r n = s.rd pg r n := rfl

/-! ### setMesh -/

@[simp] theorem State.setMesh_pending (s : State) (v : Mesh) : (s.setMesh v).pending = s.pending := rfl
@[simp] theorem State.setMesh_fresh (s : State) (v : Mesh) : (s.setMesh v).fresh = s.fresh := rfl
@[simp] theorem State.setMesh_cycles (s : State) (v : Mesh) : (s.setMesh v).cycles = s.cycles := rfl
@[simp] theorem State.setMesh_regs (s : State) (v : Mesh) : (s.setMesh v).regs = s.regs := rfl
@[simp] theorem State.setMesh_bus (s : State) (v : Mesh) : (s.setMesh v).bus = s.bus := rfl
@[simp] theorem State.setMesh_shadow (s : State) (v : Mesh) : (s.setMesh v).shadow = s.shadow := rfl
@[simp] theorem State.setMesh_logQ (s : State) (v : Mesh) : (s.setMesh v).logQ = s.logQ := rfl
@[simp] theorem State.setMesh_chans (s : State) (v : Mesh) : (s.setMesh v).chans = s.chans := rfl
@[simp] theorem State.setMesh_doms (s : State) (v : Mesh) : (s.setMesh v).doms = s.doms := rfl
@[simp] theorem State.setMesh_gates (s : State) (v : Mesh) : (s.setMesh v).gates = s.gates := rfl
@[simp] theorem State.setMesh_plls (s : State) (v : Mesh) : (s.setMesh v).plls = s.plls := rfl
@[simp] theorem State.setMesh_trees (s : State) (v : Mesh) : (s.setMesh v).trees = s.trees := rfl
@[simp] theorem State.setMesh_ck (s : State) (v : Mesh) : (s.setMesh v).ck = s.ck := rfl
@[simp] theorem State.setMesh_tp (s : State) (v : Mesh) : (s.setMesh v).tp = s.tp := rfl
@[simp] theorem State.setMesh_ms (s : State) (v : Mesh) : (s.setMesh v).ms = s.ms := rfl
@[simp] theorem State.setMesh_ld (s : State) (v : Mesh) : (s.setMesh v).ld = s.ld := rfl
@[simp] theorem State.setMesh_pw (s : State) (v : Mesh) : (s.setMesh v).pw = s.pw := rfl
@[simp] theorem State.setMesh_rgs (s : State) (v : Mesh) : (s.setMesh v).rgs = s.rgs := rfl
@[simp] theorem State.setMesh_cfg (s : State) (v : Mesh) : (s.setMesh v).cfg = s.cfg := rfl
@[simp] theorem State.setMesh_latch (s : State) (v : Mesh) : (s.setMesh v).latch = s.latch := rfl
@[simp] theorem State.setMesh_ff (s : State) (v : Mesh) : (s.setMesh v).ff = s.ff := rfl
@[simp] theorem State.setMesh_restore (s : State) (v : Mesh) : (s.setMesh v).restore = s.restore := rfl
@[simp] theorem State.setMesh_sbank (s : State) (v : Mesh) : (s.setMesh v).sbank = s.sbank := rfl
@[simp] theorem State.setMesh_bm (s : State) (v : Mesh) : (s.setMesh v).bm = s.bm := rfl
@[simp] theorem State.setMesh_bmOut (s : State) (v : Mesh) : (s.setMesh v).bmOut = s.bmOut := rfl
@[simp] theorem State.setMesh_bmNext (s : State) (v : Mesh) : (s.setMesh v).bmNext = s.bmNext := rfl
@[simp] theorem State.setMesh_portIn (s : State) (v : Mesh) : (s.setMesh v).portIn = s.portIn := rfl
@[simp] theorem State.setMesh_portOut (s : State) (v : Mesh) : (s.setMesh v).portOut = s.portOut := rfl
@[simp] theorem State.setMesh_gio (s : State) (v : Mesh) : (s.setMesh v).gio = s.gio := rfl
@[simp] theorem State.setMesh_mgtLast (s : State) (v : Mesh) : (s.setMesh v).mgtLast = s.mgtLast := rfl
@[simp] theorem State.setMesh_rb (s : State) (v : Mesh) : (s.setMesh v).rb = s.rb := rfl
@[simp] theorem State.setMesh_rbOut (s : State) (v : Mesh) : (s.setMesh v).rbOut = s.rbOut := rfl
@[simp] theorem State.setMesh_ddr (s : State) (v : Mesh) : (s.setMesh v).ddr = s.ddr := rfl
@[simp] theorem State.setMesh_tes (s : State) (v : Mesh) : (s.setMesh v).tes = s.tes := rfl
@[simp] theorem State.setMesh_dm (s : State) (v : Mesh) : (s.setMesh v).dm = s.dm := rfl
@[simp] theorem State.setMesh_im (s : State) (v : Mesh) : (s.setMesh v).im = s.im := rfl
@[simp] theorem State.setMesh_mesh (s : State) (v : Mesh) : (s.setMesh v).mesh = v := rfl
@[simp] theorem State.setMesh_packers (s : State) (v : Mesh) : (s.setMesh v).packers = s.packers := rfl
@[simp] theorem State.setMesh_chns (s : State) (v : Mesh) : (s.setMesh v).chns = s.chns := rfl
@[simp] theorem State.setMesh_shallots (s : State) (v : Mesh) : (s.setMesh v).shallots = s.shallots := rfl
@[simp] theorem State.setMesh_gold (s : State) (v : Mesh) : (s.setMesh v).gold = s.gold := rfl
@[simp] theorem State.setMesh_arows (s : State) (v : Mesh) : (s.setMesh v).arows = s.arows := rfl
@[simp] theorem State.setMesh_usr (s : State) (v : Mesh) : (s.setMesh v).usr = s.usr := rfl
@[simp] theorem State.setMesh_wk (s : State) (v : Mesh) : (s.setMesh v).wk = s.wk := rfl
@[simp] theorem State.setMesh_txs (s : State) (v : Mesh) : (s.setMesh v).txs = s.txs := rfl
@[simp] theorem State.setMesh_rxs (s : State) (v : Mesh) : (s.setMesh v).rxs = s.rxs := rfl
@[simp] theorem State.setMesh_rxOut (s : State) (v : Mesh) : (s.setMesh v).rxOut = s.rxOut := rfl
@[simp] theorem State.setMesh_walks (s : State) (v : Mesh) : (s.setMesh v).walks = s.walks := rfl
@[simp] theorem State.setMesh_hots (s : State) (v : Mesh) : (s.setMesh v).hots = s.hots := rfl
@[simp] theorem State.setMesh_moves (s : State) (v : Mesh) : (s.setMesh v).moves = s.moves := rfl
@[simp] theorem State.setMesh_repairs (s : State) (v : Mesh) : (s.setMesh v).repairs = s.repairs := rfl
@[simp] theorem State.setMesh_paramErrs (s : State) (v : Mesh) : (s.setMesh v).paramErrs = s.paramErrs := rfl
@[simp] theorem State.setMesh_paramPar (s : State) (v : Mesh) : (s.setMesh v).paramPar = s.paramPar := rfl
@[simp] theorem State.setMesh_ceSums (s : State) (v : Mesh) : (s.setMesh v).ceSums = s.ceSums := rfl
@[simp] theorem State.setMesh_lastLogs (s : State) (v : Mesh) : (s.setMesh v).lastLogs = s.lastLogs := rfl
@[simp] theorem State.setMesh_points (s : State) (v : Mesh) : (s.setMesh v).points = s.points := rfl
@[simp] theorem State.setMesh_cchecks (s : State) (v : Mesh) : (s.setMesh v).cchecks = s.cchecks := rfl
@[simp] theorem State.setMesh_zones (s : State) (v : Mesh) : (s.setMesh v).zones = s.zones := rfl
@[simp] theorem State.setMesh_keys (s : State) (v : Mesh) : (s.setMesh v).keys = s.keys := rfl
@[simp] theorem State.setMesh_sec (s : State) (v : Mesh) : (s.setMesh v).sec = s.sec := rfl
@[simp] theorem State.setMesh_romFail (s : State) (v : Mesh) : (s.setMesh v).romFail = s.romFail := rfl
@[simp] theorem State.setMesh_rd (s : State) (v : Mesh) (pg : Nat) (r : Row) (n : Nat) :
    (s.setMesh v).rd pg r n = s.rd pg r n := rfl

/-! ### setRg -/

@[simp] theorem State.setRg_pending (s : State) (i : Nat) (v : Rg) : (s.setRg i v).pending = s.pending := rfl
@[simp] theorem State.setRg_fresh (s : State) (i : Nat) (v : Rg) : (s.setRg i v).fresh = s.fresh := rfl
@[simp] theorem State.setRg_cycles (s : State) (i : Nat) (v : Rg) : (s.setRg i v).cycles = s.cycles := rfl
@[simp] theorem State.setRg_regs (s : State) (i : Nat) (v : Rg) : (s.setRg i v).regs = s.regs := rfl
@[simp] theorem State.setRg_bus (s : State) (i : Nat) (v : Rg) : (s.setRg i v).bus = s.bus := rfl
@[simp] theorem State.setRg_shadow (s : State) (i : Nat) (v : Rg) : (s.setRg i v).shadow = s.shadow := rfl
@[simp] theorem State.setRg_logQ (s : State) (i : Nat) (v : Rg) : (s.setRg i v).logQ = s.logQ := rfl
@[simp] theorem State.setRg_chans (s : State) (i : Nat) (v : Rg) : (s.setRg i v).chans = s.chans := rfl
@[simp] theorem State.setRg_doms (s : State) (i : Nat) (v : Rg) : (s.setRg i v).doms = s.doms := rfl
@[simp] theorem State.setRg_gates (s : State) (i : Nat) (v : Rg) : (s.setRg i v).gates = s.gates := rfl
@[simp] theorem State.setRg_plls (s : State) (i : Nat) (v : Rg) : (s.setRg i v).plls = s.plls := rfl
@[simp] theorem State.setRg_trees (s : State) (i : Nat) (v : Rg) : (s.setRg i v).trees = s.trees := rfl
@[simp] theorem State.setRg_ck (s : State) (i : Nat) (v : Rg) : (s.setRg i v).ck = s.ck := rfl
@[simp] theorem State.setRg_tp (s : State) (i : Nat) (v : Rg) : (s.setRg i v).tp = s.tp := rfl
@[simp] theorem State.setRg_ms (s : State) (i : Nat) (v : Rg) : (s.setRg i v).ms = s.ms := rfl
@[simp] theorem State.setRg_ld (s : State) (i : Nat) (v : Rg) : (s.setRg i v).ld = s.ld := rfl
@[simp] theorem State.setRg_pw (s : State) (i : Nat) (v : Rg) : (s.setRg i v).pw = s.pw := rfl
@[simp] theorem State.setRg_rgs (s : State) (i : Nat) (v : Rg) : (s.setRg i v).rgs = mset {} s.rgs i v := rfl
@[simp] theorem State.setRg_cfg (s : State) (i : Nat) (v : Rg) : (s.setRg i v).cfg = s.cfg := rfl
@[simp] theorem State.setRg_latch (s : State) (i : Nat) (v : Rg) : (s.setRg i v).latch = s.latch := rfl
@[simp] theorem State.setRg_ff (s : State) (i : Nat) (v : Rg) : (s.setRg i v).ff = s.ff := rfl
@[simp] theorem State.setRg_restore (s : State) (i : Nat) (v : Rg) : (s.setRg i v).restore = s.restore := rfl
@[simp] theorem State.setRg_sbank (s : State) (i : Nat) (v : Rg) : (s.setRg i v).sbank = s.sbank := rfl
@[simp] theorem State.setRg_bm (s : State) (i : Nat) (v : Rg) : (s.setRg i v).bm = s.bm := rfl
@[simp] theorem State.setRg_bmOut (s : State) (i : Nat) (v : Rg) : (s.setRg i v).bmOut = s.bmOut := rfl
@[simp] theorem State.setRg_bmNext (s : State) (i : Nat) (v : Rg) : (s.setRg i v).bmNext = s.bmNext := rfl
@[simp] theorem State.setRg_portIn (s : State) (i : Nat) (v : Rg) : (s.setRg i v).portIn = s.portIn := rfl
@[simp] theorem State.setRg_portOut (s : State) (i : Nat) (v : Rg) : (s.setRg i v).portOut = s.portOut := rfl
@[simp] theorem State.setRg_gio (s : State) (i : Nat) (v : Rg) : (s.setRg i v).gio = s.gio := rfl
@[simp] theorem State.setRg_mgtLast (s : State) (i : Nat) (v : Rg) : (s.setRg i v).mgtLast = s.mgtLast := rfl
@[simp] theorem State.setRg_rb (s : State) (i : Nat) (v : Rg) : (s.setRg i v).rb = s.rb := rfl
@[simp] theorem State.setRg_rbOut (s : State) (i : Nat) (v : Rg) : (s.setRg i v).rbOut = s.rbOut := rfl
@[simp] theorem State.setRg_ddr (s : State) (i : Nat) (v : Rg) : (s.setRg i v).ddr = s.ddr := rfl
@[simp] theorem State.setRg_tes (s : State) (i : Nat) (v : Rg) : (s.setRg i v).tes = s.tes := rfl
@[simp] theorem State.setRg_dm (s : State) (i : Nat) (v : Rg) : (s.setRg i v).dm = s.dm := rfl
@[simp] theorem State.setRg_im (s : State) (i : Nat) (v : Rg) : (s.setRg i v).im = s.im := rfl
@[simp] theorem State.setRg_mesh (s : State) (i : Nat) (v : Rg) : (s.setRg i v).mesh = s.mesh := rfl
@[simp] theorem State.setRg_packers (s : State) (i : Nat) (v : Rg) : (s.setRg i v).packers = s.packers := rfl
@[simp] theorem State.setRg_chns (s : State) (i : Nat) (v : Rg) : (s.setRg i v).chns = s.chns := rfl
@[simp] theorem State.setRg_shallots (s : State) (i : Nat) (v : Rg) : (s.setRg i v).shallots = s.shallots := rfl
@[simp] theorem State.setRg_gold (s : State) (i : Nat) (v : Rg) : (s.setRg i v).gold = s.gold := rfl
@[simp] theorem State.setRg_arows (s : State) (i : Nat) (v : Rg) : (s.setRg i v).arows = s.arows := rfl
@[simp] theorem State.setRg_usr (s : State) (i : Nat) (v : Rg) : (s.setRg i v).usr = s.usr := rfl
@[simp] theorem State.setRg_wk (s : State) (i : Nat) (v : Rg) : (s.setRg i v).wk = s.wk := rfl
@[simp] theorem State.setRg_txs (s : State) (i : Nat) (v : Rg) : (s.setRg i v).txs = s.txs := rfl
@[simp] theorem State.setRg_rxs (s : State) (i : Nat) (v : Rg) : (s.setRg i v).rxs = s.rxs := rfl
@[simp] theorem State.setRg_rxOut (s : State) (i : Nat) (v : Rg) : (s.setRg i v).rxOut = s.rxOut := rfl
@[simp] theorem State.setRg_walks (s : State) (i : Nat) (v : Rg) : (s.setRg i v).walks = s.walks := rfl
@[simp] theorem State.setRg_hots (s : State) (i : Nat) (v : Rg) : (s.setRg i v).hots = s.hots := rfl
@[simp] theorem State.setRg_moves (s : State) (i : Nat) (v : Rg) : (s.setRg i v).moves = s.moves := rfl
@[simp] theorem State.setRg_repairs (s : State) (i : Nat) (v : Rg) : (s.setRg i v).repairs = s.repairs := rfl
@[simp] theorem State.setRg_paramErrs (s : State) (i : Nat) (v : Rg) : (s.setRg i v).paramErrs = s.paramErrs := rfl
@[simp] theorem State.setRg_paramPar (s : State) (i : Nat) (v : Rg) : (s.setRg i v).paramPar = s.paramPar := rfl
@[simp] theorem State.setRg_ceSums (s : State) (i : Nat) (v : Rg) : (s.setRg i v).ceSums = s.ceSums := rfl
@[simp] theorem State.setRg_lastLogs (s : State) (i : Nat) (v : Rg) : (s.setRg i v).lastLogs = s.lastLogs := rfl
@[simp] theorem State.setRg_points (s : State) (i : Nat) (v : Rg) : (s.setRg i v).points = s.points := rfl
@[simp] theorem State.setRg_cchecks (s : State) (i : Nat) (v : Rg) : (s.setRg i v).cchecks = s.cchecks := rfl
@[simp] theorem State.setRg_zones (s : State) (i : Nat) (v : Rg) : (s.setRg i v).zones = s.zones := rfl
@[simp] theorem State.setRg_keys (s : State) (i : Nat) (v : Rg) : (s.setRg i v).keys = s.keys := rfl
@[simp] theorem State.setRg_sec (s : State) (i : Nat) (v : Rg) : (s.setRg i v).sec = s.sec := rfl
@[simp] theorem State.setRg_romFail (s : State) (i : Nat) (v : Rg) : (s.setRg i v).romFail = s.romFail := rfl
@[simp] theorem State.setRg_rd (s : State) (i : Nat) (v : Rg) (pg : Nat) (r : Row) (n : Nat) :
    (s.setRg i v).rd pg r n = s.rd pg r n := rfl
@[simp] theorem State.setRg_rg_same (s : State) (i : Nat) (v : Rg) : (s.setRg i v).rg i = v := mget_mset_same ..
theorem State.setRg_rg_ne (s : State) {i j : Nat} (v : Rg) (h : j ≠ i) :
    (s.setRg i v).rg j = s.rg j := mget_mset_ne _ _ _ h

/-! ### setTe -/

@[simp] theorem State.setTe_pending (s : State) (t : Nat) (v : Te) : (s.setTe t v).pending = s.pending := rfl
@[simp] theorem State.setTe_fresh (s : State) (t : Nat) (v : Te) : (s.setTe t v).fresh = s.fresh := rfl
@[simp] theorem State.setTe_cycles (s : State) (t : Nat) (v : Te) : (s.setTe t v).cycles = s.cycles := rfl
@[simp] theorem State.setTe_regs (s : State) (t : Nat) (v : Te) : (s.setTe t v).regs = s.regs := rfl
@[simp] theorem State.setTe_bus (s : State) (t : Nat) (v : Te) : (s.setTe t v).bus = s.bus := rfl
@[simp] theorem State.setTe_shadow (s : State) (t : Nat) (v : Te) : (s.setTe t v).shadow = s.shadow := rfl
@[simp] theorem State.setTe_logQ (s : State) (t : Nat) (v : Te) : (s.setTe t v).logQ = s.logQ := rfl
@[simp] theorem State.setTe_chans (s : State) (t : Nat) (v : Te) : (s.setTe t v).chans = s.chans := rfl
@[simp] theorem State.setTe_doms (s : State) (t : Nat) (v : Te) : (s.setTe t v).doms = s.doms := rfl
@[simp] theorem State.setTe_gates (s : State) (t : Nat) (v : Te) : (s.setTe t v).gates = s.gates := rfl
@[simp] theorem State.setTe_plls (s : State) (t : Nat) (v : Te) : (s.setTe t v).plls = s.plls := rfl
@[simp] theorem State.setTe_trees (s : State) (t : Nat) (v : Te) : (s.setTe t v).trees = s.trees := rfl
@[simp] theorem State.setTe_ck (s : State) (t : Nat) (v : Te) : (s.setTe t v).ck = s.ck := rfl
@[simp] theorem State.setTe_tp (s : State) (t : Nat) (v : Te) : (s.setTe t v).tp = s.tp := rfl
@[simp] theorem State.setTe_ms (s : State) (t : Nat) (v : Te) : (s.setTe t v).ms = s.ms := rfl
@[simp] theorem State.setTe_ld (s : State) (t : Nat) (v : Te) : (s.setTe t v).ld = s.ld := rfl
@[simp] theorem State.setTe_pw (s : State) (t : Nat) (v : Te) : (s.setTe t v).pw = s.pw := rfl
@[simp] theorem State.setTe_rgs (s : State) (t : Nat) (v : Te) : (s.setTe t v).rgs = s.rgs := rfl
@[simp] theorem State.setTe_cfg (s : State) (t : Nat) (v : Te) : (s.setTe t v).cfg = s.cfg := rfl
@[simp] theorem State.setTe_latch (s : State) (t : Nat) (v : Te) : (s.setTe t v).latch = s.latch := rfl
@[simp] theorem State.setTe_ff (s : State) (t : Nat) (v : Te) : (s.setTe t v).ff = s.ff := rfl
@[simp] theorem State.setTe_restore (s : State) (t : Nat) (v : Te) : (s.setTe t v).restore = s.restore := rfl
@[simp] theorem State.setTe_sbank (s : State) (t : Nat) (v : Te) : (s.setTe t v).sbank = s.sbank := rfl
@[simp] theorem State.setTe_bm (s : State) (t : Nat) (v : Te) : (s.setTe t v).bm = s.bm := rfl
@[simp] theorem State.setTe_bmOut (s : State) (t : Nat) (v : Te) : (s.setTe t v).bmOut = s.bmOut := rfl
@[simp] theorem State.setTe_bmNext (s : State) (t : Nat) (v : Te) : (s.setTe t v).bmNext = s.bmNext := rfl
@[simp] theorem State.setTe_portIn (s : State) (t : Nat) (v : Te) : (s.setTe t v).portIn = s.portIn := rfl
@[simp] theorem State.setTe_portOut (s : State) (t : Nat) (v : Te) : (s.setTe t v).portOut = s.portOut := rfl
@[simp] theorem State.setTe_gio (s : State) (t : Nat) (v : Te) : (s.setTe t v).gio = s.gio := rfl
@[simp] theorem State.setTe_mgtLast (s : State) (t : Nat) (v : Te) : (s.setTe t v).mgtLast = s.mgtLast := rfl
@[simp] theorem State.setTe_rb (s : State) (t : Nat) (v : Te) : (s.setTe t v).rb = s.rb := rfl
@[simp] theorem State.setTe_rbOut (s : State) (t : Nat) (v : Te) : (s.setTe t v).rbOut = s.rbOut := rfl
@[simp] theorem State.setTe_ddr (s : State) (t : Nat) (v : Te) : (s.setTe t v).ddr = s.ddr := rfl
@[simp] theorem State.setTe_tes (s : State) (t : Nat) (v : Te) : (s.setTe t v).tes = mset {} s.tes t v := rfl
@[simp] theorem State.setTe_dm (s : State) (t : Nat) (v : Te) : (s.setTe t v).dm = s.dm := rfl
@[simp] theorem State.setTe_im (s : State) (t : Nat) (v : Te) : (s.setTe t v).im = s.im := rfl
@[simp] theorem State.setTe_mesh (s : State) (t : Nat) (v : Te) : (s.setTe t v).mesh = s.mesh := rfl
@[simp] theorem State.setTe_packers (s : State) (t : Nat) (v : Te) : (s.setTe t v).packers = s.packers := rfl
@[simp] theorem State.setTe_chns (s : State) (t : Nat) (v : Te) : (s.setTe t v).chns = s.chns := rfl
@[simp] theorem State.setTe_shallots (s : State) (t : Nat) (v : Te) : (s.setTe t v).shallots = s.shallots := rfl
@[simp] theorem State.setTe_gold (s : State) (t : Nat) (v : Te) : (s.setTe t v).gold = s.gold := rfl
@[simp] theorem State.setTe_arows (s : State) (t : Nat) (v : Te) : (s.setTe t v).arows = s.arows := rfl
@[simp] theorem State.setTe_usr (s : State) (t : Nat) (v : Te) : (s.setTe t v).usr = s.usr := rfl
@[simp] theorem State.setTe_wk (s : State) (t : Nat) (v : Te) : (s.setTe t v).wk = s.wk := rfl
@[simp] theorem State.setTe_txs (s : State) (t : Nat) (v : Te) : (s.setTe t v).txs = s.txs := rfl
@[simp] theorem State.setTe_rxs (s : State) (t : Nat) (v : Te) : (s.setTe t v).rxs = s.rxs := rfl
@[simp] theorem State.setTe_rxOut (s : State) (t : Nat) (v : Te) : (s.setTe t v).rxOut = s.rxOut := rfl
@[simp] theorem State.setTe_walks (s : State) (t : Nat) (v : Te) : (s.setTe t v).walks = s.walks := rfl
@[simp] theorem State.setTe_hots (s : State) (t : Nat) (v : Te) : (s.setTe t v).hots = s.hots := rfl
@[simp] theorem State.setTe_moves (s : State) (t : Nat) (v : Te) : (s.setTe t v).moves = s.moves := rfl
@[simp] theorem State.setTe_repairs (s : State) (t : Nat) (v : Te) : (s.setTe t v).repairs = s.repairs := rfl
@[simp] theorem State.setTe_paramErrs (s : State) (t : Nat) (v : Te) : (s.setTe t v).paramErrs = s.paramErrs := rfl
@[simp] theorem State.setTe_paramPar (s : State) (t : Nat) (v : Te) : (s.setTe t v).paramPar = s.paramPar := rfl
@[simp] theorem State.setTe_ceSums (s : State) (t : Nat) (v : Te) : (s.setTe t v).ceSums = s.ceSums := rfl
@[simp] theorem State.setTe_lastLogs (s : State) (t : Nat) (v : Te) : (s.setTe t v).lastLogs = s.lastLogs := rfl
@[simp] theorem State.setTe_points (s : State) (t : Nat) (v : Te) : (s.setTe t v).points = s.points := rfl
@[simp] theorem State.setTe_cchecks (s : State) (t : Nat) (v : Te) : (s.setTe t v).cchecks = s.cchecks := rfl
@[simp] theorem State.setTe_zones (s : State) (t : Nat) (v : Te) : (s.setTe t v).zones = s.zones := rfl
@[simp] theorem State.setTe_keys (s : State) (t : Nat) (v : Te) : (s.setTe t v).keys = s.keys := rfl
@[simp] theorem State.setTe_sec (s : State) (t : Nat) (v : Te) : (s.setTe t v).sec = s.sec := rfl
@[simp] theorem State.setTe_romFail (s : State) (t : Nat) (v : Te) : (s.setTe t v).romFail = s.romFail := rfl
@[simp] theorem State.setTe_rd (s : State) (t : Nat) (v : Te) (pg : Nat) (r : Row) (n : Nat) :
    (s.setTe t v).rd pg r n = s.rd pg r n := rfl
@[simp] theorem State.setTe_te_same (s : State) (t : Nat) (v : Te) : (s.setTe t v).te t = v := mget_mset_same ..
theorem State.setTe_te_ne (s : State) {t j : Nat} (v : Te) (h : j ≠ t) :
    (s.setTe t v).te j = s.te j := mget_mset_ne _ _ _ h

/-! ### setUsr -/

@[simp] theorem State.setUsr_pending (s : State) (v : Usr) : (s.setUsr v).pending = s.pending := rfl
@[simp] theorem State.setUsr_fresh (s : State) (v : Usr) : (s.setUsr v).fresh = s.fresh := rfl
@[simp] theorem State.setUsr_cycles (s : State) (v : Usr) : (s.setUsr v).cycles = s.cycles := rfl
@[simp] theorem State.setUsr_regs (s : State) (v : Usr) : (s.setUsr v).regs = s.regs := rfl
@[simp] theorem State.setUsr_bus (s : State) (v : Usr) : (s.setUsr v).bus = s.bus := rfl
@[simp] theorem State.setUsr_shadow (s : State) (v : Usr) : (s.setUsr v).shadow = s.shadow := rfl
@[simp] theorem State.setUsr_logQ (s : State) (v : Usr) : (s.setUsr v).logQ = s.logQ := rfl
@[simp] theorem State.setUsr_chans (s : State) (v : Usr) : (s.setUsr v).chans = s.chans := rfl
@[simp] theorem State.setUsr_doms (s : State) (v : Usr) : (s.setUsr v).doms = s.doms := rfl
@[simp] theorem State.setUsr_gates (s : State) (v : Usr) : (s.setUsr v).gates = s.gates := rfl
@[simp] theorem State.setUsr_plls (s : State) (v : Usr) : (s.setUsr v).plls = s.plls := rfl
@[simp] theorem State.setUsr_trees (s : State) (v : Usr) : (s.setUsr v).trees = s.trees := rfl
@[simp] theorem State.setUsr_ck (s : State) (v : Usr) : (s.setUsr v).ck = s.ck := rfl
@[simp] theorem State.setUsr_tp (s : State) (v : Usr) : (s.setUsr v).tp = s.tp := rfl
@[simp] theorem State.setUsr_ms (s : State) (v : Usr) : (s.setUsr v).ms = s.ms := rfl
@[simp] theorem State.setUsr_ld (s : State) (v : Usr) : (s.setUsr v).ld = s.ld := rfl
@[simp] theorem State.setUsr_pw (s : State) (v : Usr) : (s.setUsr v).pw = s.pw := rfl
@[simp] theorem State.setUsr_rgs (s : State) (v : Usr) : (s.setUsr v).rgs = s.rgs := rfl
@[simp] theorem State.setUsr_cfg (s : State) (v : Usr) : (s.setUsr v).cfg = s.cfg := rfl
@[simp] theorem State.setUsr_latch (s : State) (v : Usr) : (s.setUsr v).latch = s.latch := rfl
@[simp] theorem State.setUsr_ff (s : State) (v : Usr) : (s.setUsr v).ff = s.ff := rfl
@[simp] theorem State.setUsr_restore (s : State) (v : Usr) : (s.setUsr v).restore = s.restore := rfl
@[simp] theorem State.setUsr_sbank (s : State) (v : Usr) : (s.setUsr v).sbank = s.sbank := rfl
@[simp] theorem State.setUsr_bm (s : State) (v : Usr) : (s.setUsr v).bm = s.bm := rfl
@[simp] theorem State.setUsr_bmOut (s : State) (v : Usr) : (s.setUsr v).bmOut = s.bmOut := rfl
@[simp] theorem State.setUsr_bmNext (s : State) (v : Usr) : (s.setUsr v).bmNext = s.bmNext := rfl
@[simp] theorem State.setUsr_portIn (s : State) (v : Usr) : (s.setUsr v).portIn = s.portIn := rfl
@[simp] theorem State.setUsr_portOut (s : State) (v : Usr) : (s.setUsr v).portOut = s.portOut := rfl
@[simp] theorem State.setUsr_gio (s : State) (v : Usr) : (s.setUsr v).gio = s.gio := rfl
@[simp] theorem State.setUsr_mgtLast (s : State) (v : Usr) : (s.setUsr v).mgtLast = s.mgtLast := rfl
@[simp] theorem State.setUsr_rb (s : State) (v : Usr) : (s.setUsr v).rb = s.rb := rfl
@[simp] theorem State.setUsr_rbOut (s : State) (v : Usr) : (s.setUsr v).rbOut = s.rbOut := rfl
@[simp] theorem State.setUsr_ddr (s : State) (v : Usr) : (s.setUsr v).ddr = s.ddr := rfl
@[simp] theorem State.setUsr_tes (s : State) (v : Usr) : (s.setUsr v).tes = s.tes := rfl
@[simp] theorem State.setUsr_dm (s : State) (v : Usr) : (s.setUsr v).dm = s.dm := rfl
@[simp] theorem State.setUsr_im (s : State) (v : Usr) : (s.setUsr v).im = s.im := rfl
@[simp] theorem State.setUsr_mesh (s : State) (v : Usr) : (s.setUsr v).mesh = s.mesh := rfl
@[simp] theorem State.setUsr_packers (s : State) (v : Usr) : (s.setUsr v).packers = s.packers := rfl
@[simp] theorem State.setUsr_chns (s : State) (v : Usr) : (s.setUsr v).chns = s.chns := rfl
@[simp] theorem State.setUsr_shallots (s : State) (v : Usr) : (s.setUsr v).shallots = s.shallots := rfl
@[simp] theorem State.setUsr_gold (s : State) (v : Usr) : (s.setUsr v).gold = s.gold := rfl
@[simp] theorem State.setUsr_arows (s : State) (v : Usr) : (s.setUsr v).arows = s.arows := rfl
@[simp] theorem State.setUsr_usr (s : State) (v : Usr) : (s.setUsr v).usr = v := rfl
@[simp] theorem State.setUsr_wk (s : State) (v : Usr) : (s.setUsr v).wk = s.wk := rfl
@[simp] theorem State.setUsr_txs (s : State) (v : Usr) : (s.setUsr v).txs = s.txs := rfl
@[simp] theorem State.setUsr_rxs (s : State) (v : Usr) : (s.setUsr v).rxs = s.rxs := rfl
@[simp] theorem State.setUsr_rxOut (s : State) (v : Usr) : (s.setUsr v).rxOut = s.rxOut := rfl
@[simp] theorem State.setUsr_walks (s : State) (v : Usr) : (s.setUsr v).walks = s.walks := rfl
@[simp] theorem State.setUsr_hots (s : State) (v : Usr) : (s.setUsr v).hots = s.hots := rfl
@[simp] theorem State.setUsr_moves (s : State) (v : Usr) : (s.setUsr v).moves = s.moves := rfl
@[simp] theorem State.setUsr_repairs (s : State) (v : Usr) : (s.setUsr v).repairs = s.repairs := rfl
@[simp] theorem State.setUsr_paramErrs (s : State) (v : Usr) : (s.setUsr v).paramErrs = s.paramErrs := rfl
@[simp] theorem State.setUsr_paramPar (s : State) (v : Usr) : (s.setUsr v).paramPar = s.paramPar := rfl
@[simp] theorem State.setUsr_ceSums (s : State) (v : Usr) : (s.setUsr v).ceSums = s.ceSums := rfl
@[simp] theorem State.setUsr_lastLogs (s : State) (v : Usr) : (s.setUsr v).lastLogs = s.lastLogs := rfl
@[simp] theorem State.setUsr_points (s : State) (v : Usr) : (s.setUsr v).points = s.points := rfl
@[simp] theorem State.setUsr_cchecks (s : State) (v : Usr) : (s.setUsr v).cchecks = s.cchecks := rfl
@[simp] theorem State.setUsr_zones (s : State) (v : Usr) : (s.setUsr v).zones = s.zones := rfl
@[simp] theorem State.setUsr_keys (s : State) (v : Usr) : (s.setUsr v).keys = s.keys := rfl
@[simp] theorem State.setUsr_sec (s : State) (v : Usr) : (s.setUsr v).sec = s.sec := rfl
@[simp] theorem State.setUsr_romFail (s : State) (v : Usr) : (s.setUsr v).romFail = s.romFail := rfl
@[simp] theorem State.setUsr_rd (s : State) (v : Usr) (pg : Nat) (r : Row) (n : Nat) :
    (s.setUsr v).rd pg r n = s.rd pg r n := rfl

/-! ### setTxg -/

@[simp] theorem State.setTxg_pending (s : State) (g : Nat) (v : TxGroup) : (s.setTxg g v).pending = s.pending := rfl
@[simp] theorem State.setTxg_fresh (s : State) (g : Nat) (v : TxGroup) : (s.setTxg g v).fresh = s.fresh := rfl
@[simp] theorem State.setTxg_cycles (s : State) (g : Nat) (v : TxGroup) : (s.setTxg g v).cycles = s.cycles := rfl
@[simp] theorem State.setTxg_regs (s : State) (g : Nat) (v : TxGroup) : (s.setTxg g v).regs = s.regs := rfl
@[simp] theorem State.setTxg_bus (s : State) (g : Nat) (v : TxGroup) : (s.setTxg g v).bus = s.bus := rfl
@[simp] theorem State.setTxg_shadow (s : State) (g : Nat) (v : TxGroup) : (s.setTxg g v).shadow = s.shadow := rfl
@[simp] theorem State.setTxg_logQ (s : State) (g : Nat) (v : TxGroup) : (s.setTxg g v).logQ = s.logQ := rfl
@[simp] theorem State.setTxg_chans (s : State) (g : Nat) (v : TxGroup) : (s.setTxg g v).chans = s.chans := rfl
@[simp] theorem State.setTxg_doms (s : State) (g : Nat) (v : TxGroup) : (s.setTxg g v).doms = s.doms := rfl
@[simp] theorem State.setTxg_gates (s : State) (g : Nat) (v : TxGroup) : (s.setTxg g v).gates = s.gates := rfl
@[simp] theorem State.setTxg_plls (s : State) (g : Nat) (v : TxGroup) : (s.setTxg g v).plls = s.plls := rfl
@[simp] theorem State.setTxg_trees (s : State) (g : Nat) (v : TxGroup) : (s.setTxg g v).trees = s.trees := rfl
@[simp] theorem State.setTxg_ck (s : State) (g : Nat) (v : TxGroup) : (s.setTxg g v).ck = s.ck := rfl
@[simp] theorem State.setTxg_tp (s : State) (g : Nat) (v : TxGroup) : (s.setTxg g v).tp = s.tp := rfl
@[simp] theorem State.setTxg_ms (s : State) (g : Nat) (v : TxGroup) : (s.setTxg g v).ms = s.ms := rfl
@[simp] theorem State.setTxg_ld (s : State) (g : Nat) (v : TxGroup) : (s.setTxg g v).ld = s.ld := rfl
@[simp] theorem State.setTxg_pw (s : State) (g : Nat) (v : TxGroup) : (s.setTxg g v).pw = s.pw := rfl
@[simp] theorem State.setTxg_rgs (s : State) (g : Nat) (v : TxGroup) : (s.setTxg g v).rgs = s.rgs := rfl
@[simp] theorem State.setTxg_cfg (s : State) (g : Nat) (v : TxGroup) : (s.setTxg g v).cfg = s.cfg := rfl
@[simp] theorem State.setTxg_latch (s : State) (g : Nat) (v : TxGroup) : (s.setTxg g v).latch = s.latch := rfl
@[simp] theorem State.setTxg_ff (s : State) (g : Nat) (v : TxGroup) : (s.setTxg g v).ff = s.ff := rfl
@[simp] theorem State.setTxg_restore (s : State) (g : Nat) (v : TxGroup) : (s.setTxg g v).restore = s.restore := rfl
@[simp] theorem State.setTxg_sbank (s : State) (g : Nat) (v : TxGroup) : (s.setTxg g v).sbank = s.sbank := rfl
@[simp] theorem State.setTxg_bm (s : State) (g : Nat) (v : TxGroup) : (s.setTxg g v).bm = s.bm := rfl
@[simp] theorem State.setTxg_bmOut (s : State) (g : Nat) (v : TxGroup) : (s.setTxg g v).bmOut = s.bmOut := rfl
@[simp] theorem State.setTxg_bmNext (s : State) (g : Nat) (v : TxGroup) : (s.setTxg g v).bmNext = s.bmNext := rfl
@[simp] theorem State.setTxg_portIn (s : State) (g : Nat) (v : TxGroup) : (s.setTxg g v).portIn = s.portIn := rfl
@[simp] theorem State.setTxg_portOut (s : State) (g : Nat) (v : TxGroup) : (s.setTxg g v).portOut = s.portOut := rfl
@[simp] theorem State.setTxg_gio (s : State) (g : Nat) (v : TxGroup) : (s.setTxg g v).gio = s.gio := rfl
@[simp] theorem State.setTxg_mgtLast (s : State) (g : Nat) (v : TxGroup) : (s.setTxg g v).mgtLast = s.mgtLast := rfl
@[simp] theorem State.setTxg_rb (s : State) (g : Nat) (v : TxGroup) : (s.setTxg g v).rb = s.rb := rfl
@[simp] theorem State.setTxg_rbOut (s : State) (g : Nat) (v : TxGroup) : (s.setTxg g v).rbOut = s.rbOut := rfl
@[simp] theorem State.setTxg_ddr (s : State) (g : Nat) (v : TxGroup) : (s.setTxg g v).ddr = s.ddr := rfl
@[simp] theorem State.setTxg_tes (s : State) (g : Nat) (v : TxGroup) : (s.setTxg g v).tes = s.tes := rfl
@[simp] theorem State.setTxg_dm (s : State) (g : Nat) (v : TxGroup) : (s.setTxg g v).dm = s.dm := rfl
@[simp] theorem State.setTxg_im (s : State) (g : Nat) (v : TxGroup) : (s.setTxg g v).im = s.im := rfl
@[simp] theorem State.setTxg_mesh (s : State) (g : Nat) (v : TxGroup) : (s.setTxg g v).mesh = s.mesh := rfl
@[simp] theorem State.setTxg_packers (s : State) (g : Nat) (v : TxGroup) : (s.setTxg g v).packers = s.packers := rfl
@[simp] theorem State.setTxg_chns (s : State) (g : Nat) (v : TxGroup) : (s.setTxg g v).chns = s.chns := rfl
@[simp] theorem State.setTxg_shallots (s : State) (g : Nat) (v : TxGroup) : (s.setTxg g v).shallots = s.shallots := rfl
@[simp] theorem State.setTxg_gold (s : State) (g : Nat) (v : TxGroup) : (s.setTxg g v).gold = s.gold := rfl
@[simp] theorem State.setTxg_arows (s : State) (g : Nat) (v : TxGroup) : (s.setTxg g v).arows = s.arows := rfl
@[simp] theorem State.setTxg_usr (s : State) (g : Nat) (v : TxGroup) : (s.setTxg g v).usr = s.usr := rfl
@[simp] theorem State.setTxg_wk (s : State) (g : Nat) (v : TxGroup) : (s.setTxg g v).wk = s.wk := rfl
@[simp] theorem State.setTxg_txs (s : State) (g : Nat) (v : TxGroup) : (s.setTxg g v).txs = mset {} s.txs g v := rfl
@[simp] theorem State.setTxg_rxs (s : State) (g : Nat) (v : TxGroup) : (s.setTxg g v).rxs = s.rxs := rfl
@[simp] theorem State.setTxg_rxOut (s : State) (g : Nat) (v : TxGroup) : (s.setTxg g v).rxOut = s.rxOut := rfl
@[simp] theorem State.setTxg_walks (s : State) (g : Nat) (v : TxGroup) : (s.setTxg g v).walks = s.walks := rfl
@[simp] theorem State.setTxg_hots (s : State) (g : Nat) (v : TxGroup) : (s.setTxg g v).hots = s.hots := rfl
@[simp] theorem State.setTxg_moves (s : State) (g : Nat) (v : TxGroup) : (s.setTxg g v).moves = s.moves := rfl
@[simp] theorem State.setTxg_repairs (s : State) (g : Nat) (v : TxGroup) : (s.setTxg g v).repairs = s.repairs := rfl
@[simp] theorem State.setTxg_paramErrs (s : State) (g : Nat) (v : TxGroup) : (s.setTxg g v).paramErrs = s.paramErrs := rfl
@[simp] theorem State.setTxg_paramPar (s : State) (g : Nat) (v : TxGroup) : (s.setTxg g v).paramPar = s.paramPar := rfl
@[simp] theorem State.setTxg_ceSums (s : State) (g : Nat) (v : TxGroup) : (s.setTxg g v).ceSums = s.ceSums := rfl
@[simp] theorem State.setTxg_lastLogs (s : State) (g : Nat) (v : TxGroup) : (s.setTxg g v).lastLogs = s.lastLogs := rfl
@[simp] theorem State.setTxg_points (s : State) (g : Nat) (v : TxGroup) : (s.setTxg g v).points = s.points := rfl
@[simp] theorem State.setTxg_cchecks (s : State) (g : Nat) (v : TxGroup) : (s.setTxg g v).cchecks = s.cchecks := rfl
@[simp] theorem State.setTxg_zones (s : State) (g : Nat) (v : TxGroup) : (s.setTxg g v).zones = s.zones := rfl
@[simp] theorem State.setTxg_keys (s : State) (g : Nat) (v : TxGroup) : (s.setTxg g v).keys = s.keys := rfl
@[simp] theorem State.setTxg_sec (s : State) (g : Nat) (v : TxGroup) : (s.setTxg g v).sec = s.sec := rfl
@[simp] theorem State.setTxg_romFail (s : State) (g : Nat) (v : TxGroup) : (s.setTxg g v).romFail = s.romFail := rfl
@[simp] theorem State.setTxg_rd (s : State) (g : Nat) (v : TxGroup) (pg : Nat) (r : Row) (n : Nat) :
    (s.setTxg g v).rd pg r n = s.rd pg r n := rfl
@[simp] theorem State.setTxg_txg_same (s : State) (g : Nat) (v : TxGroup) : (s.setTxg g v).txg g = v := mget_mset_same ..
theorem State.setTxg_txg_ne (s : State) {g j : Nat} (v : TxGroup) (h : j ≠ g) :
    (s.setTxg g v).txg j = s.txg j := mget_mset_ne _ _ _ h

/-! ### setRxg -/

@[simp] theorem State.setRxg_pending (s : State) (g : Nat) (v : RxGroup) : (s.setRxg g v).pending = s.pending := rfl
@[simp] theorem State.setRxg_fresh (s : State) (g : Nat) (v : RxGroup) : (s.setRxg g v).fresh = s.fresh := rfl
@[simp] theorem State.setRxg_cycles (s : State) (g : Nat) (v : RxGroup) : (s.setRxg g v).cycles = s.cycles := rfl
@[simp] theorem State.setRxg_regs (s : State) (g : Nat) (v : RxGroup) : (s.setRxg g v).regs = s.regs := rfl
@[simp] theorem State.setRxg_bus (s : State) (g : Nat) (v : RxGroup) : (s.setRxg g v).bus = s.bus := rfl
@[simp] theorem State.setRxg_shadow (s : State) (g : Nat) (v : RxGroup) : (s.setRxg g v).shadow = s.shadow := rfl
@[simp] theorem State.setRxg_logQ (s : State) (g : Nat) (v : RxGroup) : (s.setRxg g v).logQ = s.logQ := rfl
@[simp] theorem State.setRxg_chans (s : State) (g : Nat) (v : RxGroup) : (s.setRxg g v).chans = s.chans := rfl
@[simp] theorem State.setRxg_doms (s : State) (g : Nat) (v : RxGroup) : (s.setRxg g v).doms = s.doms := rfl
@[simp] theorem State.setRxg_gates (s : State) (g : Nat) (v : RxGroup) : (s.setRxg g v).gates = s.gates := rfl
@[simp] theorem State.setRxg_plls (s : State) (g : Nat) (v : RxGroup) : (s.setRxg g v).plls = s.plls := rfl
@[simp] theorem State.setRxg_trees (s : State) (g : Nat) (v : RxGroup) : (s.setRxg g v).trees = s.trees := rfl
@[simp] theorem State.setRxg_ck (s : State) (g : Nat) (v : RxGroup) : (s.setRxg g v).ck = s.ck := rfl
@[simp] theorem State.setRxg_tp (s : State) (g : Nat) (v : RxGroup) : (s.setRxg g v).tp = s.tp := rfl
@[simp] theorem State.setRxg_ms (s : State) (g : Nat) (v : RxGroup) : (s.setRxg g v).ms = s.ms := rfl
@[simp] theorem State.setRxg_ld (s : State) (g : Nat) (v : RxGroup) : (s.setRxg g v).ld = s.ld := rfl
@[simp] theorem State.setRxg_pw (s : State) (g : Nat) (v : RxGroup) : (s.setRxg g v).pw = s.pw := rfl
@[simp] theorem State.setRxg_rgs (s : State) (g : Nat) (v : RxGroup) : (s.setRxg g v).rgs = s.rgs := rfl
@[simp] theorem State.setRxg_cfg (s : State) (g : Nat) (v : RxGroup) : (s.setRxg g v).cfg = s.cfg := rfl
@[simp] theorem State.setRxg_latch (s : State) (g : Nat) (v : RxGroup) : (s.setRxg g v).latch = s.latch := rfl
@[simp] theorem State.setRxg_ff (s : State) (g : Nat) (v : RxGroup) : (s.setRxg g v).ff = s.ff := rfl
@[simp] theorem State.setRxg_restore (s : State) (g : Nat) (v : RxGroup) : (s.setRxg g v).restore = s.restore := rfl
@[simp] theorem State.setRxg_sbank (s : State) (g : Nat) (v : RxGroup) : (s.setRxg g v).sbank = s.sbank := rfl
@[simp] theorem State.setRxg_bm (s : State) (g : Nat) (v : RxGroup) : (s.setRxg g v).bm = s.bm := rfl
@[simp] theorem State.setRxg_bmOut (s : State) (g : Nat) (v : RxGroup) : (s.setRxg g v).bmOut = s.bmOut := rfl
@[simp] theorem State.setRxg_bmNext (s : State) (g : Nat) (v : RxGroup) : (s.setRxg g v).bmNext = s.bmNext := rfl
@[simp] theorem State.setRxg_portIn (s : State) (g : Nat) (v : RxGroup) : (s.setRxg g v).portIn = s.portIn := rfl
@[simp] theorem State.setRxg_portOut (s : State) (g : Nat) (v : RxGroup) : (s.setRxg g v).portOut = s.portOut := rfl
@[simp] theorem State.setRxg_gio (s : State) (g : Nat) (v : RxGroup) : (s.setRxg g v).gio = s.gio := rfl
@[simp] theorem State.setRxg_mgtLast (s : State) (g : Nat) (v : RxGroup) : (s.setRxg g v).mgtLast = s.mgtLast := rfl
@[simp] theorem State.setRxg_rb (s : State) (g : Nat) (v : RxGroup) : (s.setRxg g v).rb = s.rb := rfl
@[simp] theorem State.setRxg_rbOut (s : State) (g : Nat) (v : RxGroup) : (s.setRxg g v).rbOut = s.rbOut := rfl
@[simp] theorem State.setRxg_ddr (s : State) (g : Nat) (v : RxGroup) : (s.setRxg g v).ddr = s.ddr := rfl
@[simp] theorem State.setRxg_tes (s : State) (g : Nat) (v : RxGroup) : (s.setRxg g v).tes = s.tes := rfl
@[simp] theorem State.setRxg_dm (s : State) (g : Nat) (v : RxGroup) : (s.setRxg g v).dm = s.dm := rfl
@[simp] theorem State.setRxg_im (s : State) (g : Nat) (v : RxGroup) : (s.setRxg g v).im = s.im := rfl
@[simp] theorem State.setRxg_mesh (s : State) (g : Nat) (v : RxGroup) : (s.setRxg g v).mesh = s.mesh := rfl
@[simp] theorem State.setRxg_packers (s : State) (g : Nat) (v : RxGroup) : (s.setRxg g v).packers = s.packers := rfl
@[simp] theorem State.setRxg_chns (s : State) (g : Nat) (v : RxGroup) : (s.setRxg g v).chns = s.chns := rfl
@[simp] theorem State.setRxg_shallots (s : State) (g : Nat) (v : RxGroup) : (s.setRxg g v).shallots = s.shallots := rfl
@[simp] theorem State.setRxg_gold (s : State) (g : Nat) (v : RxGroup) : (s.setRxg g v).gold = s.gold := rfl
@[simp] theorem State.setRxg_arows (s : State) (g : Nat) (v : RxGroup) : (s.setRxg g v).arows = s.arows := rfl
@[simp] theorem State.setRxg_usr (s : State) (g : Nat) (v : RxGroup) : (s.setRxg g v).usr = s.usr := rfl
@[simp] theorem State.setRxg_wk (s : State) (g : Nat) (v : RxGroup) : (s.setRxg g v).wk = s.wk := rfl
@[simp] theorem State.setRxg_txs (s : State) (g : Nat) (v : RxGroup) : (s.setRxg g v).txs = s.txs := rfl
@[simp] theorem State.setRxg_rxs (s : State) (g : Nat) (v : RxGroup) : (s.setRxg g v).rxs = mset {} s.rxs g v := rfl
@[simp] theorem State.setRxg_rxOut (s : State) (g : Nat) (v : RxGroup) : (s.setRxg g v).rxOut = s.rxOut := rfl
@[simp] theorem State.setRxg_walks (s : State) (g : Nat) (v : RxGroup) : (s.setRxg g v).walks = s.walks := rfl
@[simp] theorem State.setRxg_hots (s : State) (g : Nat) (v : RxGroup) : (s.setRxg g v).hots = s.hots := rfl
@[simp] theorem State.setRxg_moves (s : State) (g : Nat) (v : RxGroup) : (s.setRxg g v).moves = s.moves := rfl
@[simp] theorem State.setRxg_repairs (s : State) (g : Nat) (v : RxGroup) : (s.setRxg g v).repairs = s.repairs := rfl
@[simp] theorem State.setRxg_paramErrs (s : State) (g : Nat) (v : RxGroup) : (s.setRxg g v).paramErrs = s.paramErrs := rfl
@[simp] theorem State.setRxg_paramPar (s : State) (g : Nat) (v : RxGroup) : (s.setRxg g v).paramPar = s.paramPar := rfl
@[simp] theorem State.setRxg_ceSums (s : State) (g : Nat) (v : RxGroup) : (s.setRxg g v).ceSums = s.ceSums := rfl
@[simp] theorem State.setRxg_lastLogs (s : State) (g : Nat) (v : RxGroup) : (s.setRxg g v).lastLogs = s.lastLogs := rfl
@[simp] theorem State.setRxg_points (s : State) (g : Nat) (v : RxGroup) : (s.setRxg g v).points = s.points := rfl
@[simp] theorem State.setRxg_cchecks (s : State) (g : Nat) (v : RxGroup) : (s.setRxg g v).cchecks = s.cchecks := rfl
@[simp] theorem State.setRxg_zones (s : State) (g : Nat) (v : RxGroup) : (s.setRxg g v).zones = s.zones := rfl
@[simp] theorem State.setRxg_keys (s : State) (g : Nat) (v : RxGroup) : (s.setRxg g v).keys = s.keys := rfl
@[simp] theorem State.setRxg_sec (s : State) (g : Nat) (v : RxGroup) : (s.setRxg g v).sec = s.sec := rfl
@[simp] theorem State.setRxg_romFail (s : State) (g : Nat) (v : RxGroup) : (s.setRxg g v).romFail = s.romFail := rfl
@[simp] theorem State.setRxg_rd (s : State) (g : Nat) (v : RxGroup) (pg : Nat) (r : Row) (n : Nat) :
    (s.setRxg g v).rd pg r n = s.rd pg r n := rfl
@[simp] theorem State.setRxg_rxg_same (s : State) (g : Nat) (v : RxGroup) : (s.setRxg g v).rxg g = v := mget_mset_same ..
theorem State.setRxg_rxg_ne (s : State) {g j : Nat} (v : RxGroup) (h : j ≠ g) :
    (s.setRxg g v).rxg j = s.rxg j := mget_mset_ne _ _ _ h

/-! ### setCh -/

@[simp] theorem State.setCh_pending (s : State) (c : Nat) (v : Chn) : (s.setCh c v).pending = s.pending := rfl
@[simp] theorem State.setCh_fresh (s : State) (c : Nat) (v : Chn) : (s.setCh c v).fresh = s.fresh := rfl
@[simp] theorem State.setCh_cycles (s : State) (c : Nat) (v : Chn) : (s.setCh c v).cycles = s.cycles := rfl
@[simp] theorem State.setCh_regs (s : State) (c : Nat) (v : Chn) : (s.setCh c v).regs = s.regs := rfl
@[simp] theorem State.setCh_bus (s : State) (c : Nat) (v : Chn) : (s.setCh c v).bus = s.bus := rfl
@[simp] theorem State.setCh_shadow (s : State) (c : Nat) (v : Chn) : (s.setCh c v).shadow = s.shadow := rfl
@[simp] theorem State.setCh_logQ (s : State) (c : Nat) (v : Chn) : (s.setCh c v).logQ = s.logQ := rfl
@[simp] theorem State.setCh_chans (s : State) (c : Nat) (v : Chn) : (s.setCh c v).chans = s.chans := rfl
@[simp] theorem State.setCh_doms (s : State) (c : Nat) (v : Chn) : (s.setCh c v).doms = s.doms := rfl
@[simp] theorem State.setCh_gates (s : State) (c : Nat) (v : Chn) : (s.setCh c v).gates = s.gates := rfl
@[simp] theorem State.setCh_plls (s : State) (c : Nat) (v : Chn) : (s.setCh c v).plls = s.plls := rfl
@[simp] theorem State.setCh_trees (s : State) (c : Nat) (v : Chn) : (s.setCh c v).trees = s.trees := rfl
@[simp] theorem State.setCh_ck (s : State) (c : Nat) (v : Chn) : (s.setCh c v).ck = s.ck := rfl
@[simp] theorem State.setCh_tp (s : State) (c : Nat) (v : Chn) : (s.setCh c v).tp = s.tp := rfl
@[simp] theorem State.setCh_ms (s : State) (c : Nat) (v : Chn) : (s.setCh c v).ms = s.ms := rfl
@[simp] theorem State.setCh_ld (s : State) (c : Nat) (v : Chn) : (s.setCh c v).ld = s.ld := rfl
@[simp] theorem State.setCh_pw (s : State) (c : Nat) (v : Chn) : (s.setCh c v).pw = s.pw := rfl
@[simp] theorem State.setCh_rgs (s : State) (c : Nat) (v : Chn) : (s.setCh c v).rgs = s.rgs := rfl
@[simp] theorem State.setCh_cfg (s : State) (c : Nat) (v : Chn) : (s.setCh c v).cfg = s.cfg := rfl
@[simp] theorem State.setCh_latch (s : State) (c : Nat) (v : Chn) : (s.setCh c v).latch = s.latch := rfl
@[simp] theorem State.setCh_ff (s : State) (c : Nat) (v : Chn) : (s.setCh c v).ff = s.ff := rfl
@[simp] theorem State.setCh_restore (s : State) (c : Nat) (v : Chn) : (s.setCh c v).restore = s.restore := rfl
@[simp] theorem State.setCh_sbank (s : State) (c : Nat) (v : Chn) : (s.setCh c v).sbank = s.sbank := rfl
@[simp] theorem State.setCh_bm (s : State) (c : Nat) (v : Chn) : (s.setCh c v).bm = s.bm := rfl
@[simp] theorem State.setCh_bmOut (s : State) (c : Nat) (v : Chn) : (s.setCh c v).bmOut = s.bmOut := rfl
@[simp] theorem State.setCh_bmNext (s : State) (c : Nat) (v : Chn) : (s.setCh c v).bmNext = s.bmNext := rfl
@[simp] theorem State.setCh_portIn (s : State) (c : Nat) (v : Chn) : (s.setCh c v).portIn = s.portIn := rfl
@[simp] theorem State.setCh_portOut (s : State) (c : Nat) (v : Chn) : (s.setCh c v).portOut = s.portOut := rfl
@[simp] theorem State.setCh_gio (s : State) (c : Nat) (v : Chn) : (s.setCh c v).gio = s.gio := rfl
@[simp] theorem State.setCh_mgtLast (s : State) (c : Nat) (v : Chn) : (s.setCh c v).mgtLast = s.mgtLast := rfl
@[simp] theorem State.setCh_rb (s : State) (c : Nat) (v : Chn) : (s.setCh c v).rb = s.rb := rfl
@[simp] theorem State.setCh_rbOut (s : State) (c : Nat) (v : Chn) : (s.setCh c v).rbOut = s.rbOut := rfl
@[simp] theorem State.setCh_ddr (s : State) (c : Nat) (v : Chn) : (s.setCh c v).ddr = s.ddr := rfl
@[simp] theorem State.setCh_tes (s : State) (c : Nat) (v : Chn) : (s.setCh c v).tes = s.tes := rfl
@[simp] theorem State.setCh_dm (s : State) (c : Nat) (v : Chn) : (s.setCh c v).dm = s.dm := rfl
@[simp] theorem State.setCh_im (s : State) (c : Nat) (v : Chn) : (s.setCh c v).im = s.im := rfl
@[simp] theorem State.setCh_mesh (s : State) (c : Nat) (v : Chn) : (s.setCh c v).mesh = s.mesh := rfl
@[simp] theorem State.setCh_packers (s : State) (c : Nat) (v : Chn) : (s.setCh c v).packers = s.packers := rfl
@[simp] theorem State.setCh_chns (s : State) (c : Nat) (v : Chn) : (s.setCh c v).chns = mset {} s.chns c v := rfl
@[simp] theorem State.setCh_shallots (s : State) (c : Nat) (v : Chn) : (s.setCh c v).shallots = s.shallots := rfl
@[simp] theorem State.setCh_gold (s : State) (c : Nat) (v : Chn) : (s.setCh c v).gold = s.gold := rfl
@[simp] theorem State.setCh_arows (s : State) (c : Nat) (v : Chn) : (s.setCh c v).arows = s.arows := rfl
@[simp] theorem State.setCh_usr (s : State) (c : Nat) (v : Chn) : (s.setCh c v).usr = s.usr := rfl
@[simp] theorem State.setCh_wk (s : State) (c : Nat) (v : Chn) : (s.setCh c v).wk = s.wk := rfl
@[simp] theorem State.setCh_txs (s : State) (c : Nat) (v : Chn) : (s.setCh c v).txs = s.txs := rfl
@[simp] theorem State.setCh_rxs (s : State) (c : Nat) (v : Chn) : (s.setCh c v).rxs = s.rxs := rfl
@[simp] theorem State.setCh_rxOut (s : State) (c : Nat) (v : Chn) : (s.setCh c v).rxOut = s.rxOut := rfl
@[simp] theorem State.setCh_walks (s : State) (c : Nat) (v : Chn) : (s.setCh c v).walks = s.walks := rfl
@[simp] theorem State.setCh_hots (s : State) (c : Nat) (v : Chn) : (s.setCh c v).hots = s.hots := rfl
@[simp] theorem State.setCh_moves (s : State) (c : Nat) (v : Chn) : (s.setCh c v).moves = s.moves := rfl
@[simp] theorem State.setCh_repairs (s : State) (c : Nat) (v : Chn) : (s.setCh c v).repairs = s.repairs := rfl
@[simp] theorem State.setCh_paramErrs (s : State) (c : Nat) (v : Chn) : (s.setCh c v).paramErrs = s.paramErrs := rfl
@[simp] theorem State.setCh_paramPar (s : State) (c : Nat) (v : Chn) : (s.setCh c v).paramPar = s.paramPar := rfl
@[simp] theorem State.setCh_ceSums (s : State) (c : Nat) (v : Chn) : (s.setCh c v).ceSums = s.ceSums := rfl
@[simp] theorem State.setCh_lastLogs (s : State) (c : Nat) (v : Chn) : (s.setCh c v).lastLogs = s.lastLogs := rfl
@[simp] theorem State.setCh_points (s : State) (c : Nat) (v : Chn) : (s.setCh c v).points = s.points := rfl
@[simp] theorem State.setCh_cchecks (s : State) (c : Nat) (v : Chn) : (s.setCh c v).cchecks = s.cchecks := rfl
@[simp] theorem State.setCh_zones (s : State) (c : Nat) (v : Chn) : (s.setCh c v).zones = s.zones := rfl
@[simp] theorem State.setCh_keys (s : State) (c : Nat) (v : Chn) : (s.setCh c v).keys = s.keys := rfl
@[simp] theorem State.setCh_sec (s : State) (c : Nat) (v : Chn) : (s.setCh c v).sec = s.sec := rfl
@[simp] theorem State.setCh_romFail (s : State) (c : Nat) (v : Chn) : (s.setCh c v).romFail = s.romFail := rfl
@[simp] theorem State.setCh_rd (s : State) (c : Nat) (v : Chn) (pg : Nat) (r : Row) (n : Nat) :
    (s.setCh c v).rd pg r n = s.rd pg r n := rfl
@[simp] theorem State.setCh_ch_same (s : State) (c : Nat) (v : Chn) : (s.setCh c v).ch c = v := mget_mset_same ..
theorem State.setCh_ch_ne (s : State) {c j : Nat} (v : Chn) (h : j ≠ c) :
    (s.setCh c v).ch j = s.ch j := mget_mset_ne _ _ _ h

/-! ### setSh -/

@[simp] theorem State.setSh_pending (s : State) (k : Nat) (v : Shallot) : (s.setSh k v).pending = s.pending := rfl
@[simp] theorem State.setSh_fresh (s : State) (k : Nat) (v : Shallot) : (s.setSh k v).fresh = s.fresh := rfl
@[simp] theorem State.setSh_cycles (s : State) (k : Nat) (v : Shallot) : (s.setSh k v).cycles = s.cycles := rfl
@[simp] theorem State.setSh_regs (s : State) (k : Nat) (v : Shallot) : (s.setSh k v).regs = s.regs := rfl
@[simp] theorem State.setSh_bus (s : State) (k : Nat) (v : Shallot) : (s.setSh k v).bus = s.bus := rfl
@[simp] theorem State.setSh_shadow (s : State) (k : Nat) (v : Shallot) : (s.setSh k v).shadow = s.shadow := rfl
@[simp] theorem State.setSh_logQ (s : State) (k : Nat) (v : Shallot) : (s.setSh k v).logQ = s.logQ := rfl
@[simp] theorem State.setSh_chans (s : State) (k : Nat) (v : Shallot) : (s.setSh k v).chans = s.chans := rfl
@[simp] theorem State.setSh_doms (s : State) (k : Nat) (v : Shallot) : (s.setSh k v).doms = s.doms := rfl
@[simp] theorem State.setSh_gates (s : State) (k : Nat) (v : Shallot) : (s.setSh k v).gates = s.gates := rfl
@[simp] theorem State.setSh_plls (s : State) (k : Nat) (v : Shallot) : (s.setSh k v).plls = s.plls := rfl
@[simp] theorem State.setSh_trees (s : State) (k : Nat) (v : Shallot) : (s.setSh k v).trees = s.trees := rfl
@[simp] theorem State.setSh_ck (s : State) (k : Nat) (v : Shallot) : (s.setSh k v).ck = s.ck := rfl
@[simp] theorem State.setSh_tp (s : State) (k : Nat) (v : Shallot) : (s.setSh k v).tp = s.tp := rfl
@[simp] theorem State.setSh_ms (s : State) (k : Nat) (v : Shallot) : (s.setSh k v).ms = s.ms := rfl
@[simp] theorem State.setSh_ld (s : State) (k : Nat) (v : Shallot) : (s.setSh k v).ld = s.ld := rfl
@[simp] theorem State.setSh_pw (s : State) (k : Nat) (v : Shallot) : (s.setSh k v).pw = s.pw := rfl
@[simp] theorem State.setSh_rgs (s : State) (k : Nat) (v : Shallot) : (s.setSh k v).rgs = s.rgs := rfl
@[simp] theorem State.setSh_cfg (s : State) (k : Nat) (v : Shallot) : (s.setSh k v).cfg = s.cfg := rfl
@[simp] theorem State.setSh_latch (s : State) (k : Nat) (v : Shallot) : (s.setSh k v).latch = s.latch := rfl
@[simp] theorem State.setSh_ff (s : State) (k : Nat) (v : Shallot) : (s.setSh k v).ff = s.ff := rfl
@[simp] theorem State.setSh_restore (s : State) (k : Nat) (v : Shallot) : (s.setSh k v).restore = s.restore := rfl
@[simp] theorem State.setSh_sbank (s : State) (k : Nat) (v : Shallot) : (s.setSh k v).sbank = s.sbank := rfl
@[simp] theorem State.setSh_bm (s : State) (k : Nat) (v : Shallot) : (s.setSh k v).bm = s.bm := rfl
@[simp] theorem State.setSh_bmOut (s : State) (k : Nat) (v : Shallot) : (s.setSh k v).bmOut = s.bmOut := rfl
@[simp] theorem State.setSh_bmNext (s : State) (k : Nat) (v : Shallot) : (s.setSh k v).bmNext = s.bmNext := rfl
@[simp] theorem State.setSh_portIn (s : State) (k : Nat) (v : Shallot) : (s.setSh k v).portIn = s.portIn := rfl
@[simp] theorem State.setSh_portOut (s : State) (k : Nat) (v : Shallot) : (s.setSh k v).portOut = s.portOut := rfl
@[simp] theorem State.setSh_gio (s : State) (k : Nat) (v : Shallot) : (s.setSh k v).gio = s.gio := rfl
@[simp] theorem State.setSh_mgtLast (s : State) (k : Nat) (v : Shallot) : (s.setSh k v).mgtLast = s.mgtLast := rfl
@[simp] theorem State.setSh_rb (s : State) (k : Nat) (v : Shallot) : (s.setSh k v).rb = s.rb := rfl
@[simp] theorem State.setSh_rbOut (s : State) (k : Nat) (v : Shallot) : (s.setSh k v).rbOut = s.rbOut := rfl
@[simp] theorem State.setSh_ddr (s : State) (k : Nat) (v : Shallot) : (s.setSh k v).ddr = s.ddr := rfl
@[simp] theorem State.setSh_tes (s : State) (k : Nat) (v : Shallot) : (s.setSh k v).tes = s.tes := rfl
@[simp] theorem State.setSh_dm (s : State) (k : Nat) (v : Shallot) : (s.setSh k v).dm = s.dm := rfl
@[simp] theorem State.setSh_im (s : State) (k : Nat) (v : Shallot) : (s.setSh k v).im = s.im := rfl
@[simp] theorem State.setSh_mesh (s : State) (k : Nat) (v : Shallot) : (s.setSh k v).mesh = s.mesh := rfl
@[simp] theorem State.setSh_packers (s : State) (k : Nat) (v : Shallot) : (s.setSh k v).packers = s.packers := rfl
@[simp] theorem State.setSh_chns (s : State) (k : Nat) (v : Shallot) : (s.setSh k v).chns = s.chns := rfl
@[simp] theorem State.setSh_shallots (s : State) (k : Nat) (v : Shallot) : (s.setSh k v).shallots = mset {} s.shallots k v := rfl
@[simp] theorem State.setSh_gold (s : State) (k : Nat) (v : Shallot) : (s.setSh k v).gold = s.gold := rfl
@[simp] theorem State.setSh_arows (s : State) (k : Nat) (v : Shallot) : (s.setSh k v).arows = s.arows := rfl
@[simp] theorem State.setSh_usr (s : State) (k : Nat) (v : Shallot) : (s.setSh k v).usr = s.usr := rfl
@[simp] theorem State.setSh_wk (s : State) (k : Nat) (v : Shallot) : (s.setSh k v).wk = s.wk := rfl
@[simp] theorem State.setSh_txs (s : State) (k : Nat) (v : Shallot) : (s.setSh k v).txs = s.txs := rfl
@[simp] theorem State.setSh_rxs (s : State) (k : Nat) (v : Shallot) : (s.setSh k v).rxs = s.rxs := rfl
@[simp] theorem State.setSh_rxOut (s : State) (k : Nat) (v : Shallot) : (s.setSh k v).rxOut = s.rxOut := rfl
@[simp] theorem State.setSh_walks (s : State) (k : Nat) (v : Shallot) : (s.setSh k v).walks = s.walks := rfl
@[simp] theorem State.setSh_hots (s : State) (k : Nat) (v : Shallot) : (s.setSh k v).hots = s.hots := rfl
@[simp] theorem State.setSh_moves (s : State) (k : Nat) (v : Shallot) : (s.setSh k v).moves = s.moves := rfl
@[simp] theorem State.setSh_repairs (s : State) (k : Nat) (v : Shallot) : (s.setSh k v).repairs = s.repairs := rfl
@[simp] theorem State.setSh_paramErrs (s : State) (k : Nat) (v : Shallot) : (s.setSh k v).paramErrs = s.paramErrs := rfl
@[simp] theorem State.setSh_paramPar (s : State) (k : Nat) (v : Shallot) : (s.setSh k v).paramPar = s.paramPar := rfl
@[simp] theorem State.setSh_ceSums (s : State) (k : Nat) (v : Shallot) : (s.setSh k v).ceSums = s.ceSums := rfl
@[simp] theorem State.setSh_lastLogs (s : State) (k : Nat) (v : Shallot) : (s.setSh k v).lastLogs = s.lastLogs := rfl
@[simp] theorem State.setSh_points (s : State) (k : Nat) (v : Shallot) : (s.setSh k v).points = s.points := rfl
@[simp] theorem State.setSh_cchecks (s : State) (k : Nat) (v : Shallot) : (s.setSh k v).cchecks = s.cchecks := rfl
@[simp] theorem State.setSh_zones (s : State) (k : Nat) (v : Shallot) : (s.setSh k v).zones = s.zones := rfl
@[simp] theorem State.setSh_keys (s : State) (k : Nat) (v : Shallot) : (s.setSh k v).keys = s.keys := rfl
@[simp] theorem State.setSh_sec (s : State) (k : Nat) (v : Shallot) : (s.setSh k v).sec = s.sec := rfl
@[simp] theorem State.setSh_romFail (s : State) (k : Nat) (v : Shallot) : (s.setSh k v).romFail = s.romFail := rfl
@[simp] theorem State.setSh_rd (s : State) (k : Nat) (v : Shallot) (pg : Nat) (r : Row) (n : Nat) :
    (s.setSh k v).rd pg r n = s.rd pg r n := rfl
@[simp] theorem State.setSh_sh_same (s : State) (k : Nat) (v : Shallot) : (s.setSh k v).sh k = v := mget_mset_same ..
theorem State.setSh_sh_ne (s : State) {k j : Nat} (v : Shallot) (h : j ≠ k) :
    (s.setSh k v).sh j = s.sh j := mget_mset_ne _ _ _ h

/-! ### setLd -/

@[simp] theorem State.setLd_pending (s : State) (v : Ld) : (s.setLd v).pending = s.pending := rfl
@[simp] theorem State.setLd_fresh (s : State) (v : Ld) : (s.setLd v).fresh = s.fresh := rfl
@[simp] theorem State.setLd_cycles (s : State) (v : Ld) : (s.setLd v).cycles = s.cycles := rfl
@[simp] theorem State.setLd_regs (s : State) (v : Ld) : (s.setLd v).regs = s.regs := rfl
@[simp] theorem State.setLd_bus (s : State) (v : Ld) : (s.setLd v).bus = s.bus := rfl
@[simp] theorem State.setLd_shadow (s : State) (v : Ld) : (s.setLd v).shadow = s.shadow := rfl
@[simp] theorem State.setLd_logQ (s : State) (v : Ld) : (s.setLd v).logQ = s.logQ := rfl
@[simp] theorem State.setLd_chans (s : State) (v : Ld) : (s.setLd v).chans = s.chans := rfl
@[simp] theorem State.setLd_doms (s : State) (v : Ld) : (s.setLd v).doms = s.doms := rfl
@[simp] theorem State.setLd_gates (s : State) (v : Ld) : (s.setLd v).gates = s.gates := rfl
@[simp] theorem State.setLd_plls (s : State) (v : Ld) : (s.setLd v).plls = s.plls := rfl
@[simp] theorem State.setLd_trees (s : State) (v : Ld) : (s.setLd v).trees = s.trees := rfl
@[simp] theorem State.setLd_ck (s : State) (v : Ld) : (s.setLd v).ck = s.ck := rfl
@[simp] theorem State.setLd_tp (s : State) (v : Ld) : (s.setLd v).tp = s.tp := rfl
@[simp] theorem State.setLd_ms (s : State) (v : Ld) : (s.setLd v).ms = s.ms := rfl
@[simp] theorem State.setLd_ld (s : State) (v : Ld) : (s.setLd v).ld = v := rfl
@[simp] theorem State.setLd_pw (s : State) (v : Ld) : (s.setLd v).pw = s.pw := rfl
@[simp] theorem State.setLd_rgs (s : State) (v : Ld) : (s.setLd v).rgs = s.rgs := rfl
@[simp] theorem State.setLd_cfg (s : State) (v : Ld) : (s.setLd v).cfg = s.cfg := rfl
@[simp] theorem State.setLd_latch (s : State) (v : Ld) : (s.setLd v).latch = s.latch := rfl
@[simp] theorem State.setLd_ff (s : State) (v : Ld) : (s.setLd v).ff = s.ff := rfl
@[simp] theorem State.setLd_restore (s : State) (v : Ld) : (s.setLd v).restore = s.restore := rfl
@[simp] theorem State.setLd_sbank (s : State) (v : Ld) : (s.setLd v).sbank = s.sbank := rfl
@[simp] theorem State.setLd_bm (s : State) (v : Ld) : (s.setLd v).bm = s.bm := rfl
@[simp] theorem State.setLd_bmOut (s : State) (v : Ld) : (s.setLd v).bmOut = s.bmOut := rfl
@[simp] theorem State.setLd_bmNext (s : State) (v : Ld) : (s.setLd v).bmNext = s.bmNext := rfl
@[simp] theorem State.setLd_portIn (s : State) (v : Ld) : (s.setLd v).portIn = s.portIn := rfl
@[simp] theorem State.setLd_portOut (s : State) (v : Ld) : (s.setLd v).portOut = s.portOut := rfl
@[simp] theorem State.setLd_gio (s : State) (v : Ld) : (s.setLd v).gio = s.gio := rfl
@[simp] theorem State.setLd_mgtLast (s : State) (v : Ld) : (s.setLd v).mgtLast = s.mgtLast := rfl
@[simp] theorem State.setLd_rb (s : State) (v : Ld) : (s.setLd v).rb = s.rb := rfl
@[simp] theorem State.setLd_rbOut (s : State) (v : Ld) : (s.setLd v).rbOut = s.rbOut := rfl
@[simp] theorem State.setLd_ddr (s : State) (v : Ld) : (s.setLd v).ddr = s.ddr := rfl
@[simp] theorem State.setLd_tes (s : State) (v : Ld) : (s.setLd v).tes = s.tes := rfl
@[simp] theorem State.setLd_dm (s : State) (v : Ld) : (s.setLd v).dm = s.dm := rfl
@[simp] theorem State.setLd_im (s : State) (v : Ld) : (s.setLd v).im = s.im := rfl
@[simp] theorem State.setLd_mesh (s : State) (v : Ld) : (s.setLd v).mesh = s.mesh := rfl
@[simp] theorem State.setLd_packers (s : State) (v : Ld) : (s.setLd v).packers = s.packers := rfl
@[simp] theorem State.setLd_chns (s : State) (v : Ld) : (s.setLd v).chns = s.chns := rfl
@[simp] theorem State.setLd_shallots (s : State) (v : Ld) : (s.setLd v).shallots = s.shallots := rfl
@[simp] theorem State.setLd_gold (s : State) (v : Ld) : (s.setLd v).gold = s.gold := rfl
@[simp] theorem State.setLd_arows (s : State) (v : Ld) : (s.setLd v).arows = s.arows := rfl
@[simp] theorem State.setLd_usr (s : State) (v : Ld) : (s.setLd v).usr = s.usr := rfl
@[simp] theorem State.setLd_wk (s : State) (v : Ld) : (s.setLd v).wk = s.wk := rfl
@[simp] theorem State.setLd_txs (s : State) (v : Ld) : (s.setLd v).txs = s.txs := rfl
@[simp] theorem State.setLd_rxs (s : State) (v : Ld) : (s.setLd v).rxs = s.rxs := rfl
@[simp] theorem State.setLd_rxOut (s : State) (v : Ld) : (s.setLd v).rxOut = s.rxOut := rfl
@[simp] theorem State.setLd_walks (s : State) (v : Ld) : (s.setLd v).walks = s.walks := rfl
@[simp] theorem State.setLd_hots (s : State) (v : Ld) : (s.setLd v).hots = s.hots := rfl
@[simp] theorem State.setLd_moves (s : State) (v : Ld) : (s.setLd v).moves = s.moves := rfl
@[simp] theorem State.setLd_repairs (s : State) (v : Ld) : (s.setLd v).repairs = s.repairs := rfl
@[simp] theorem State.setLd_paramErrs (s : State) (v : Ld) : (s.setLd v).paramErrs = s.paramErrs := rfl
@[simp] theorem State.setLd_paramPar (s : State) (v : Ld) : (s.setLd v).paramPar = s.paramPar := rfl
@[simp] theorem State.setLd_ceSums (s : State) (v : Ld) : (s.setLd v).ceSums = s.ceSums := rfl
@[simp] theorem State.setLd_lastLogs (s : State) (v : Ld) : (s.setLd v).lastLogs = s.lastLogs := rfl
@[simp] theorem State.setLd_points (s : State) (v : Ld) : (s.setLd v).points = s.points := rfl
@[simp] theorem State.setLd_cchecks (s : State) (v : Ld) : (s.setLd v).cchecks = s.cchecks := rfl
@[simp] theorem State.setLd_zones (s : State) (v : Ld) : (s.setLd v).zones = s.zones := rfl
@[simp] theorem State.setLd_keys (s : State) (v : Ld) : (s.setLd v).keys = s.keys := rfl
@[simp] theorem State.setLd_sec (s : State) (v : Ld) : (s.setLd v).sec = s.sec := rfl
@[simp] theorem State.setLd_romFail (s : State) (v : Ld) : (s.setLd v).romFail = s.romFail := rfl
@[simp] theorem State.setLd_rd (s : State) (v : Ld) (pg : Nat) (r : Row) (n : Nat) :
    (s.setLd v).rd pg r n = s.rd pg r n := rfl

/-! ### setWk -/

@[simp] theorem State.setWk_pending (s : State) (v : Walker) : (s.setWk v).pending = s.pending := rfl
@[simp] theorem State.setWk_fresh (s : State) (v : Walker) : (s.setWk v).fresh = s.fresh := rfl
@[simp] theorem State.setWk_cycles (s : State) (v : Walker) : (s.setWk v).cycles = s.cycles := rfl
@[simp] theorem State.setWk_regs (s : State) (v : Walker) : (s.setWk v).regs = s.regs := rfl
@[simp] theorem State.setWk_bus (s : State) (v : Walker) : (s.setWk v).bus = s.bus := rfl
@[simp] theorem State.setWk_shadow (s : State) (v : Walker) : (s.setWk v).shadow = s.shadow := rfl
@[simp] theorem State.setWk_logQ (s : State) (v : Walker) : (s.setWk v).logQ = s.logQ := rfl
@[simp] theorem State.setWk_chans (s : State) (v : Walker) : (s.setWk v).chans = s.chans := rfl
@[simp] theorem State.setWk_doms (s : State) (v : Walker) : (s.setWk v).doms = s.doms := rfl
@[simp] theorem State.setWk_gates (s : State) (v : Walker) : (s.setWk v).gates = s.gates := rfl
@[simp] theorem State.setWk_plls (s : State) (v : Walker) : (s.setWk v).plls = s.plls := rfl
@[simp] theorem State.setWk_trees (s : State) (v : Walker) : (s.setWk v).trees = s.trees := rfl
@[simp] theorem State.setWk_ck (s : State) (v : Walker) : (s.setWk v).ck = s.ck := rfl
@[simp] theorem State.setWk_tp (s : State) (v : Walker) : (s.setWk v).tp = s.tp := rfl
@[simp] theorem State.setWk_ms (s : State) (v : Walker) : (s.setWk v).ms = s.ms := rfl
@[simp] theorem State.setWk_ld (s : State) (v : Walker) : (s.setWk v).ld = s.ld := rfl
@[simp] theorem State.setWk_pw (s : State) (v : Walker) : (s.setWk v).pw = s.pw := rfl
@[simp] theorem State.setWk_rgs (s : State) (v : Walker) : (s.setWk v).rgs = s.rgs := rfl
@[simp] theorem State.setWk_cfg (s : State) (v : Walker) : (s.setWk v).cfg = s.cfg := rfl
@[simp] theorem State.setWk_latch (s : State) (v : Walker) : (s.setWk v).latch = s.latch := rfl
@[simp] theorem State.setWk_ff (s : State) (v : Walker) : (s.setWk v).ff = s.ff := rfl
@[simp] theorem State.setWk_restore (s : State) (v : Walker) : (s.setWk v).restore = s.restore := rfl
@[simp] theorem State.setWk_sbank (s : State) (v : Walker) : (s.setWk v).sbank = s.sbank := rfl
@[simp] theorem State.setWk_bm (s : State) (v : Walker) : (s.setWk v).bm = s.bm := rfl
@[simp] theorem State.setWk_bmOut (s : State) (v : Walker) : (s.setWk v).bmOut = s.bmOut := rfl
@[simp] theorem State.setWk_bmNext (s : State) (v : Walker) : (s.setWk v).bmNext = s.bmNext := rfl
@[simp] theorem State.setWk_portIn (s : State) (v : Walker) : (s.setWk v).portIn = s.portIn := rfl
@[simp] theorem State.setWk_portOut (s : State) (v : Walker) : (s.setWk v).portOut = s.portOut := rfl
@[simp] theorem State.setWk_gio (s : State) (v : Walker) : (s.setWk v).gio = s.gio := rfl
@[simp] theorem State.setWk_mgtLast (s : State) (v : Walker) : (s.setWk v).mgtLast = s.mgtLast := rfl
@[simp] theorem State.setWk_rb (s : State) (v : Walker) : (s.setWk v).rb = s.rb := rfl
@[simp] theorem State.setWk_rbOut (s : State) (v : Walker) : (s.setWk v).rbOut = s.rbOut := rfl
@[simp] theorem State.setWk_ddr (s : State) (v : Walker) : (s.setWk v).ddr = s.ddr := rfl
@[simp] theorem State.setWk_tes (s : State) (v : Walker) : (s.setWk v).tes = s.tes := rfl
@[simp] theorem State.setWk_dm (s : State) (v : Walker) : (s.setWk v).dm = s.dm := rfl
@[simp] theorem State.setWk_im (s : State) (v : Walker) : (s.setWk v).im = s.im := rfl
@[simp] theorem State.setWk_mesh (s : State) (v : Walker) : (s.setWk v).mesh = s.mesh := rfl
@[simp] theorem State.setWk_packers (s : State) (v : Walker) : (s.setWk v).packers = s.packers := rfl
@[simp] theorem State.setWk_chns (s : State) (v : Walker) : (s.setWk v).chns = s.chns := rfl
@[simp] theorem State.setWk_shallots (s : State) (v : Walker) : (s.setWk v).shallots = s.shallots := rfl
@[simp] theorem State.setWk_gold (s : State) (v : Walker) : (s.setWk v).gold = s.gold := rfl
@[simp] theorem State.setWk_arows (s : State) (v : Walker) : (s.setWk v).arows = s.arows := rfl
@[simp] theorem State.setWk_usr (s : State) (v : Walker) : (s.setWk v).usr = s.usr := rfl
@[simp] theorem State.setWk_wk (s : State) (v : Walker) : (s.setWk v).wk = v := rfl
@[simp] theorem State.setWk_txs (s : State) (v : Walker) : (s.setWk v).txs = s.txs := rfl
@[simp] theorem State.setWk_rxs (s : State) (v : Walker) : (s.setWk v).rxs = s.rxs := rfl
@[simp] theorem State.setWk_rxOut (s : State) (v : Walker) : (s.setWk v).rxOut = s.rxOut := rfl
@[simp] theorem State.setWk_walks (s : State) (v : Walker) : (s.setWk v).walks = s.walks := rfl
@[simp] theorem State.setWk_hots (s : State) (v : Walker) : (s.setWk v).hots = s.hots := rfl
@[simp] theorem State.setWk_moves (s : State) (v : Walker) : (s.setWk v).moves = s.moves := rfl
@[simp] theorem State.setWk_repairs (s : State) (v : Walker) : (s.setWk v).repairs = s.repairs := rfl
@[simp] theorem State.setWk_paramErrs (s : State) (v : Walker) : (s.setWk v).paramErrs = s.paramErrs := rfl
@[simp] theorem State.setWk_paramPar (s : State) (v : Walker) : (s.setWk v).paramPar = s.paramPar := rfl
@[simp] theorem State.setWk_ceSums (s : State) (v : Walker) : (s.setWk v).ceSums = s.ceSums := rfl
@[simp] theorem State.setWk_lastLogs (s : State) (v : Walker) : (s.setWk v).lastLogs = s.lastLogs := rfl
@[simp] theorem State.setWk_points (s : State) (v : Walker) : (s.setWk v).points = s.points := rfl
@[simp] theorem State.setWk_cchecks (s : State) (v : Walker) : (s.setWk v).cchecks = s.cchecks := rfl
@[simp] theorem State.setWk_zones (s : State) (v : Walker) : (s.setWk v).zones = s.zones := rfl
@[simp] theorem State.setWk_keys (s : State) (v : Walker) : (s.setWk v).keys = s.keys := rfl
@[simp] theorem State.setWk_sec (s : State) (v : Walker) : (s.setWk v).sec = s.sec := rfl
@[simp] theorem State.setWk_romFail (s : State) (v : Walker) : (s.setWk v).romFail = s.romFail := rfl
@[simp] theorem State.setWk_rd (s : State) (v : Walker) (pg : Nat) (r : Row) (n : Nat) :
    (s.setWk v).rd pg r n = s.rd pg r n := rfl

/-! ### setSec -/

@[simp] theorem State.setSec_pending (s : State) (v : Sec) : (s.setSec v).pending = s.pending := rfl
@[simp] theorem State.setSec_fresh (s : State) (v : Sec) : (s.setSec v).fresh = s.fresh := rfl
@[simp] theorem State.setSec_cycles (s : State) (v : Sec) : (s.setSec v).cycles = s.cycles := rfl
@[simp] theorem State.setSec_regs (s : State) (v : Sec) : (s.setSec v).regs = s.regs := rfl
@[simp] theorem State.setSec_bus (s : State) (v : Sec) : (s.setSec v).bus = s.bus := rfl
@[simp] theorem State.setSec_shadow (s : State) (v : Sec) : (s.setSec v).shadow = s.shadow := rfl
@[simp] theorem State.setSec_logQ (s : State) (v : Sec) : (s.setSec v).logQ = s.logQ := rfl
@[simp] theorem State.setSec_chans (s : State) (v : Sec) : (s.setSec v).chans = s.chans := rfl
@[simp] theorem State.setSec_doms (s : State) (v : Sec) : (s.setSec v).doms = s.doms := rfl
@[simp] theorem State.setSec_gates (s : State) (v : Sec) : (s.setSec v).gates = s.gates := rfl
@[simp] theorem State.setSec_plls (s : State) (v : Sec) : (s.setSec v).plls = s.plls := rfl
@[simp] theorem State.setSec_trees (s : State) (v : Sec) : (s.setSec v).trees = s.trees := rfl
@[simp] theorem State.setSec_ck (s : State) (v : Sec) : (s.setSec v).ck = s.ck := rfl
@[simp] theorem State.setSec_tp (s : State) (v : Sec) : (s.setSec v).tp = s.tp := rfl
@[simp] theorem State.setSec_ms (s : State) (v : Sec) : (s.setSec v).ms = s.ms := rfl
@[simp] theorem State.setSec_ld (s : State) (v : Sec) : (s.setSec v).ld = s.ld := rfl
@[simp] theorem State.setSec_pw (s : State) (v : Sec) : (s.setSec v).pw = s.pw := rfl
@[simp] theorem State.setSec_rgs (s : State) (v : Sec) : (s.setSec v).rgs = s.rgs := rfl
@[simp] theorem State.setSec_cfg (s : State) (v : Sec) : (s.setSec v).cfg = s.cfg := rfl
@[simp] theorem State.setSec_latch (s : State) (v : Sec) : (s.setSec v).latch = s.latch := rfl
@[simp] theorem State.setSec_ff (s : State) (v : Sec) : (s.setSec v).ff = s.ff := rfl
@[simp] theorem State.setSec_restore (s : State) (v : Sec) : (s.setSec v).restore = s.restore := rfl
@[simp] theorem State.setSec_sbank (s : State) (v : Sec) : (s.setSec v).sbank = s.sbank := rfl
@[simp] theorem State.setSec_bm (s : State) (v : Sec) : (s.setSec v).bm = s.bm := rfl
@[simp] theorem State.setSec_bmOut (s : State) (v : Sec) : (s.setSec v).bmOut = s.bmOut := rfl
@[simp] theorem State.setSec_bmNext (s : State) (v : Sec) : (s.setSec v).bmNext = s.bmNext := rfl
@[simp] theorem State.setSec_portIn (s : State) (v : Sec) : (s.setSec v).portIn = s.portIn := rfl
@[simp] theorem State.setSec_portOut (s : State) (v : Sec) : (s.setSec v).portOut = s.portOut := rfl
@[simp] theorem State.setSec_gio (s : State) (v : Sec) : (s.setSec v).gio = s.gio := rfl
@[simp] theorem State.setSec_mgtLast (s : State) (v : Sec) : (s.setSec v).mgtLast = s.mgtLast := rfl
@[simp] theorem State.setSec_rb (s : State) (v : Sec) : (s.setSec v).rb = s.rb := rfl
@[simp] theorem State.setSec_rbOut (s : State) (v : Sec) : (s.setSec v).rbOut = s.rbOut := rfl
@[simp] theorem State.setSec_ddr (s : State) (v : Sec) : (s.setSec v).ddr = s.ddr := rfl
@[simp] theorem State.setSec_tes (s : State) (v : Sec) : (s.setSec v).tes = s.tes := rfl
@[simp] theorem State.setSec_dm (s : State) (v : Sec) : (s.setSec v).dm = s.dm := rfl
@[simp] theorem State.setSec_im (s : State) (v : Sec) : (s.setSec v).im = s.im := rfl
@[simp] theorem State.setSec_mesh (s : State) (v : Sec) : (s.setSec v).mesh = s.mesh := rfl
@[simp] theorem State.setSec_packers (s : State) (v : Sec) : (s.setSec v).packers = s.packers := rfl
@[simp] theorem State.setSec_chns (s : State) (v : Sec) : (s.setSec v).chns = s.chns := rfl
@[simp] theorem State.setSec_shallots (s : State) (v : Sec) : (s.setSec v).shallots = s.shallots := rfl
@[simp] theorem State.setSec_gold (s : State) (v : Sec) : (s.setSec v).gold = s.gold := rfl
@[simp] theorem State.setSec_arows (s : State) (v : Sec) : (s.setSec v).arows = s.arows := rfl
@[simp] theorem State.setSec_usr (s : State) (v : Sec) : (s.setSec v).usr = s.usr := rfl
@[simp] theorem State.setSec_wk (s : State) (v : Sec) : (s.setSec v).wk = s.wk := rfl
@[simp] theorem State.setSec_txs (s : State) (v : Sec) : (s.setSec v).txs = s.txs := rfl
@[simp] theorem State.setSec_rxs (s : State) (v : Sec) : (s.setSec v).rxs = s.rxs := rfl
@[simp] theorem State.setSec_rxOut (s : State) (v : Sec) : (s.setSec v).rxOut = s.rxOut := rfl
@[simp] theorem State.setSec_walks (s : State) (v : Sec) : (s.setSec v).walks = s.walks := rfl
@[simp] theorem State.setSec_hots (s : State) (v : Sec) : (s.setSec v).hots = s.hots := rfl
@[simp] theorem State.setSec_moves (s : State) (v : Sec) : (s.setSec v).moves = s.moves := rfl
@[simp] theorem State.setSec_repairs (s : State) (v : Sec) : (s.setSec v).repairs = s.repairs := rfl
@[simp] theorem State.setSec_paramErrs (s : State) (v : Sec) : (s.setSec v).paramErrs = s.paramErrs := rfl
@[simp] theorem State.setSec_paramPar (s : State) (v : Sec) : (s.setSec v).paramPar = s.paramPar := rfl
@[simp] theorem State.setSec_ceSums (s : State) (v : Sec) : (s.setSec v).ceSums = s.ceSums := rfl
@[simp] theorem State.setSec_lastLogs (s : State) (v : Sec) : (s.setSec v).lastLogs = s.lastLogs := rfl
@[simp] theorem State.setSec_points (s : State) (v : Sec) : (s.setSec v).points = s.points := rfl
@[simp] theorem State.setSec_cchecks (s : State) (v : Sec) : (s.setSec v).cchecks = s.cchecks := rfl
@[simp] theorem State.setSec_zones (s : State) (v : Sec) : (s.setSec v).zones = s.zones := rfl
@[simp] theorem State.setSec_keys (s : State) (v : Sec) : (s.setSec v).keys = s.keys := rfl
@[simp] theorem State.setSec_sec (s : State) (v : Sec) : (s.setSec v).sec = v := rfl
@[simp] theorem State.setSec_romFail (s : State) (v : Sec) : (s.setSec v).romFail = s.romFail := rfl
@[simp] theorem State.setSec_rd (s : State) (v : Sec) (pg : Nat) (r : Row) (n : Nat) :
    (s.setSec v).rd pg r n = s.rd pg r n := rfl

end Sys2Proof.Machine
end

