-- ==== Sys2Proof/Tests/Slice0.lean ====
section
/-! SUPPORT. Tests/Slice0.lean: the ill-formed commands that each check refuses, small steps whose results come from the
spec's tables and worked examples, and states that meet the hypotheses of the statements. -/

namespace Sys2Proof.Tests

-- One theorem at a time: many kernel evaluations waiting at once would each hold a thread.
set_option Elab.async false

open Sys2Proof Sys2Proof.Machine

/-! ### Ill-formed commands -/

/-- A frame of 640 words, and one a word short. -/
def frame640 : FrameWords := ⟨List.replicate 640 0, 0⟩
def frame639 : FrameWords := ⟨List.replicate 639 0, 0⟩

theorem test_wf_sizes : Instr.wf (.registerWrite 0 0 3 0) = false ∧ Instr.wf (.registerWrite 0 0 4 0) = true ∧
    Instr.wf (.selftestEnd [1, 1] []) = false ∧ Instr.wf (.selftestEnd [] [.pattern 0 1, .pattern 0 1]) = false ∧
    Instr.wf (.selftestEnd [1, 2] []) = true := by decide

theorem test_wf_commands : Instr.wf (.userCommand false 0x3F 0) = false ∧ Instr.wf (.userCommand false 0x40 0) = true ∧
    Instr.wf (.menderWalk 0 3276800) = false ∧ Instr.wf (.menderWalk 0 3276799) = true ∧
    Instr.wf (.hotWordExpiry (.ddr 0) 16) = false ∧ Instr.wf (.hotWordExpiry (.ddr 0) 15) = true ∧
    Instr.wf (.eyeScanSlice 0 3 4) = false ∧ Instr.wf (.eyeScanSlice 0 4 4) = true ∧
    Instr.wf (.hitWrite 0 0 (List.replicate 5 (0, 0))) = false ∧
    Instr.wf (.hitWrite 0 0 (List.replicate 4 (0, 0))) = true := by decide

theorem test_wf_stream : frame640.wf = true ∧ frame639.wf = false ∧ Instr.wf (.frames []) = false ∧
    Instr.wf (.frames [frame640, frame639]) = false ∧ Instr.wf (.frame frame639) = false ∧
    Instr.wf (.frame frame640) = true ∧ Instr.wf (.wreg []) = false ∧ Instr.wf (.bulk 0 []) = false ∧
    Instr.wf (.encBegin 0 0 0 0 1 [0, 0]) = false ∧ Instr.wf (.encBegin 0 0 0 0 2 [0, 0]) = true := by decide +kernel

theorem test_wf_windows : Instr.wf (.loaderWindowWrite 0x08000000 []) = false ∧
    Instr.wf (.loaderWindowWrite 0x07FFFFFF [0]) = false ∧ Instr.wf (.loaderWindowWrite 0x080FFFFF [0, 0]) = false ∧
    Instr.wf (.loaderWindowWrite 0x080FFFFF [0]) = true ∧ Instr.wf (.userWindowAccess 0 0 false 0 []) = false ∧
    Instr.wf (.userWindowAccess 0 0 false 4097 []) = false ∧ Instr.wf (.userWindowAccess 0 0 true 2 [0]) = false ∧
    Instr.wf (.userWindowAccess 0 0 true 1 [0]) = true := by decide

theorem test_wf_network : Instr.wf (.netWrite 0 0 []) = false ∧
    Instr.wf (.netReadData 0 0 (List.replicate 17 ⟨0, 0, false⟩)) = false ∧
    Instr.wf (.netWrite 0 0 (List.replicate 17 ⟨0, 0, false⟩)) = false ∧ Instr.wf (.netEvent 0 0 []) = false ∧
    Instr.wf (.netReadData 0 0 (List.replicate 16 ⟨0, 0, false⟩)) = true := by decide +kernel

theorem test_wf_measurements : Instr.wf (.powerMeasure [(0, 1), (0, 2)] 0) = false ∧
    Instr.wf (.powerMeasure [(0, 1), (1, 2)] 0) = true ∧
    Instr.wf (.tempConversion [⟨0, 1, false, false⟩, ⟨0, 2, false, false⟩]) = false ∧
    Instr.wf (.tempConversion [⟨0, 1, false, false⟩]) = true := by decide

/-! ### States that meet the hypotheses of the statements -/

/-- s with some fields written, each by page, row, value and instance. -/
def put (fs : List (Nat × Row × Nat × Nat)) (s : State := State.reset) : State :=
  fs.foldl (fun s f => s.wr f.1 f.2.1 f.2.2.1 f.2.2.2) s

/-- The timing port is LOCKED, in bucket b of a turn of 4545 buckets that has no lay-by. -/
def locked (b : Nat := 0) (s : State := State.reset) : State :=
  put [(Pg.timing, Tp.STATE, 4, 0), (Pg.timing, Tp.BUCKET, b, 0), (Pg.timing, Tp.TURN_LEN_USED, 4545, 0),
    (Pg.timing, Tp.TIME64_LO, 1000, 0)] { s with tp := { s.tp with ck := true, layNone := true } }

/-- Page pg is owned by agent ag. -/
def owned (pg ag : Nat) : State := put [(pg, Hdr.CLAIMED, 1, 0), (pg, Hdr.OWN_AGENT, ag, 0), (pg, Hdr.OWN_FEATURE, 7, 0)]

/-- Resource x is claimed by agent ag. -/
def held (x ag : Nat) (s : State := State.reset) : State := s.setClaim x ag 1 true

/-- A command runs on channel c of processor p. -/
def cmdOn (p c : Nat) (m : MailCmd) (s : State := State.reset) : State := s.setChan (chanKey p c) { run := some m }

/-- The tree of entry e delivers edges. -/
def runs (e : Nat) (s : State := State.reset) : State := (treeOf e).elim s fun t => put [(Pg.clocks, Clk.OPEN, 1, t)] s

/-- Region i runs in a started device, and its context 1 is VALID. -/
def region (i : Nat) (g : Rg := {}) (s : State := locked 0) : State :=
  put [(Pg.region i, Rgn.CSTATE, 2, 1)]
    (runs (En.region i) { s with rgs := [(i, g)], tp := { s.tp with started := true, globalReset := false } })

/-- The firing of milestone entry e with action a on a target. -/
def firing (e a target : Nat) (ctx param : Nat := 0) : Firing := ⟨e, 0, false, false, a, target, ctx, param, true⟩

/-- Milestone entry e fires in this bucket with action a on a target. -/
def fires (e a target : Nat) (s : State := locked 0) (ctx param : Nat := 0) : State :=
  { s with ms := { s.ms with firing := [firing e a target ctx param] } }

/-- The fabric logic of region i runs under its live context. -/
def live (i : Nat) (g : Rg := {}) (s : State := locked 0) : State :=
  put [(Pg.region i, Rgn.CSTATE, 2, 0)] (region i { g with live := true } s)

theorem test_hyp_registerAccess : (State.reset.reaches 0 = true ∧ windowOf 0x030040 = none ∧ 2 ≠ 4) ∧
    (windowOf 0xFFFFFFFF = none ∧ entryOfPage (0xFFFFFFFF / 4096) = none) ∧ hasHeader 0x30 = true ∧
    (windowOf 0x0F000002 = some (.slots 2) ∧ 0x0F000002 % 4 ≠ 0 ∧ State.reset.response 0 (Window.slots 2).page = .ok) ∧
    (State.reset.grants 0 Pg.power ∧ windowOf (Pg.power * 4096 + 0x04C) = none ∧ paramPage Pg.power = false ∧
      mget none State.reset.shadow (Pg.power * 4096 + 0x04C) = none) ∧
    (State.reset.grants 0 Pg.timing ∧ lowWord Pg.timing 0x058 = true ∧ windowOf (Pg.timing * 4096 + 0x058) = none) ∧
    (State.reset.grants 0 3 ∧ paramPage 3 = true ∧ paramPage 0xF = true) := by
  decide +kernel

/-- No parameter block is longer than 96 bytes, so they end below 0xB4C0. -/
theorem test_param_end (e : Nat) : paramPtr e + paramLen e ≤ 0x3000 + 96 * (e + 1) := by
  induction e with
  | zero => simp only [paramPtr, paramLen, paramRecords, paramRoom, paramWords]; omega
  | succ e ih =>
    simp only [paramPtr, paramLen, paramRecords, paramRoom, paramWords] at *
    omega

/-- The word 0x3000 opens the block of entry 0 and reads clean; the last word of the area lies outside every block. -/
theorem test_hyp_parameterArea : paramAt 0x3000 = some (0, 0) ∧ paramAt 0xFFFC = none ∧
    ∃ d, wordDecode (State.reset.paramCode 0 0) = (.clean, d) := by
  refine ⟨?_, ?_, (State.reset.paramCode 0 0).data, ?_⟩
  · rw [paramAt, List.range_succ_eq_map, List.find?_cons_of_pos] <;> simp [paramPtr, paramLen, paramRecords]
    all_goals omega
  · simp only [paramAt, Option.map_eq_none_iff, List.find?_eq_none, List.mem_range]
    intro e he
    have := test_param_end e
    simp
    omega
  · have key : ∀ w : EWord, onesIn w.err 80 = 0 → w.poison = false → wordDecode w = (.clean, w.data) := by
      intro w h g
      simp [wordDecode, h, g]
    exact key _ (by decide +kernel) (by decide +kernel)

theorem test_hyp_statusAndKeyWrites : State.reset.flag Pg.power Hdr.CLAIMED = false ∧
    ((owned Pg.power 1).flag Pg.power Hdr.CLAIMED = true ∧ (owned Pg.power 1).rd Pg.power Hdr.OWN_AGENT = 1) ∧
    ((owned Pg.power 1).rd Pg.power Hdr.OWN_AGENT ≠ 0 ∧ (owned Pg.power 1).reaches 0 = true) := by decide +kernel

theorem test_hyp_pageClaim : hasHeader Pg.power = true ∧ State.reset.reaches 5 = true ∧
    State.reset.flag Pg.power Hdr.CLAIMED = false := by decide +kernel

theorem test_hyp_pageOwnership : ((owned Pg.power 1).flag Pg.power Hdr.CLAIMED = true ∧
      (owned Pg.power 1).rd Pg.power Hdr.OWN_AGENT ≠ 0 ∧ hasHeader Pg.power = true ∧ (owned Pg.power 1).reaches 0 = true) ∧
    (owned Pg.power 0).rd Pg.power Hdr.OWN_AGENT = 0 := by decide +kernel

theorem test_hyp_votesSoftResetAndProfiles :
    (entryOfPage (Pg.slab 0) = some (En.slab 0) ∧ domainOf (En.slab 0) ≠ alwaysOn ∧ State.reset.reaches 0 = true) ∧
    (entryOfPage Pg.power = some 31 ∧ domainOf 31 = alwaysOn ∧ holdsProfile 31 = false) ∧
    (holdsProfile (En.region 39) = true ∧ State.reset.rd (Pg.region 39) Hdr.PROFILE_REQ ≠ Prof.thasol ∧
      State.reset.thasolWhy 39 = none) ∧
    (State.reset.rd (Pg.region 39) Hdr.PROFILE_REQ = 2) ∧
    (region 39 { staging := some ⟨1, 0, 0⟩ }).thasolWhy 39 = some 0 ∧
    (region 39 { stgReqs := [⟨0, 1, 0, none⟩] }).thasolWhy 39 = some 0 ∧
    (region 39 { swReqs := [⟨0, 1, 0, none⟩] }).thasolWhy 39 = some 1 ∧
    (({ put [(Pg.loader, Ld.SYNCED, 1, 0)] with ld := { State.reset.ld with regions := [39] } } : State).thasolWhy 39 =
      some 2) ∧
    (((State.reset.setMe 255 MsE.ARM 1).setMe 255 MsE.ACTION 2).setMe 255 MsE.TARGET 39).thasolWhy 39 = some 3 := by
  decide +kernel

theorem test_hyp_profileChangeAndSoftReset :
    ((locked 0).quietPoint = true ∧ (put [(0, Wbe.PEND_VALID, 1, En.region 0)] (locked 0)).pendValid (En.region 0) = true ∧
      State.reset.quietPoint = false) ∧
    ((live 39).regionRuns 39 = true ∧ State.reset.regionRuns 0 = false) ∧
    ((({ State.reset with packers := [(39, { queue := [⟨0, 0, 0⟩] })] } : State).pk 39).queue ≠ [] ∧
      (State.reset.pk 39).queue = []) ∧
    (entryOfPage (Pg.engine 103) = some (En.engine 103) ∧ typeOf (En.engine 103) = 0x30 ∧
      (put [(Pg.engine 103, Te.ESTATE, Es.running, 0)]).teBusy 103 = true ∧ State.reset.teBusy 103 = false) ∧
    (typeOf (En.shallot 11) = 0x31 ∧ typeOf (En.tx 11) = 0x40 ∧ typeOf (En.rx 11) = 0x41 ∧ typeOf (En.ddr 7) = 0x42 ∧
      entryOfPage Pg.pcie = some En.pcie ∧ typeOf En.pcie = 0x44 ∧ entryOfPage Pg.network = some En.network ∧
      typeOf En.network = 0x43) ∧
    typeOf 31 ∉ [0x20, 0x32, 0x30, 0x31, 0x40, 0x41, 0x42, 0x43, 0x44] := by decide +kernel

theorem test_hyp_ownerWords : State.reset.grants 0 (Pg.registry 0) ∧ State.reset.claimed 0 = false ∧
    ((held 2015 0).claimed 2015 = true ∧ (held 2015 0).claimAgent 2015 ≠ 1 ∧ (held 2015 0).grants 1 (Pg.registry 2015)) ∧
    ((held 108 0).claimed 108 = true ∧ (held 108 0).claimAgent 108 = 0) := by decide +kernel

theorem test_hyp_mailboxes : (((cmdOn 3 2 { words := [5], tag := 0, resp := some [0] }).chan (chanKey 3 2)).run =
        some { words := [5], tag := 0, resp := some [0] } ∧
      ((cmdOn 3 2 { words := [5], tag := 0, resp := none }).chan (chanKey 3 2)).cancelled = []) ∧
    ((State.reset.setChan (chanKey 0 0) { cancelled := [{ words := [5], tag := 0, resp := none }, { words := [5], tag := 1, resp := some [0] }] }).chan
      (chanKey 0 0)).cancelled.find? (fun x => x.resp.isSome) = some { words := [5], tag := 1, resp := some [0] } ∧
    ((State.reset.chan (chanKey 0 0)).run = none ∧ State.reset.sec.restartAfter ≠ some 0) ∧
    ((opcodesOf 3).contains (0xFFFF % 2 ^ 16) = false ∧ (opcodesOf 2).contains (0x8040 % 2 ^ 16) = true) ∧
    (mget 0 State.reset.sec.patchLen 0 = 0 ∧ ({ State.reset.sec with patchLen := [(0, 4)] } : Sec).patchLen = [(0, 4)] ∧
      beNat (sha256 [0, 0, 0, 0]) ≠ 0) := by decide +kernel

theorem test_hyp_logTakesEntry : ((State.reset.logHw Pg.power 0x20 Sev.info 0).logQ.map fun r => hasHeader r.page) = [true] ∧
    State.reset.rd Pg.log Log.LOG_WR < 1024 ∧ State.reset.rd Pg.log Log.LOG_FILL < 1024 ∧
    (put [(Pg.log, Log.LOG_FILL, 1024, 0)]).rd Pg.log Log.LOG_FILL = 1024 ∧ State.reset.logQ = [] := by decide +kernel

theorem test_hyp_logReadPointer : State.reset.grants 0 Pg.log ∧ (put [(Pg.log, Log.LOG_WR, 1023, 0)]).rd Pg.log Log.LOG_WR = 1023 := by
  decide +kernel

theorem test_hyp_coldStartAndSelftest : State.reset.rd Pg.loader Ld.PHASE = 0 ∧
    (put [(Pg.loader, Ld.PHASE, 1, 0)]).rd Pg.loader Ld.PHASE = 1 ∧
    (put [(Pg.loader, Ld.PHASE, 3, 0)]).rd Pg.loader Ld.PHASE = 3 ∧ State.reset.usr.held = false ∧
    State.reset.tp.ck = false ∧ State.reset.tpState = 0 := by decide +kernel

theorem test_hyp_brownOutAndPerst : (put [(Pg.loader, Ld.PHASE, 7, 0)]).rd Pg.loader Ld.PHASE ≠ 0 ∧
    State.reset.usr.perst = false := by decide +kernel

/-- The port hunts for a marker: two good ones before, 4545 words apart, and 4544 words since the last. -/
def hunting : State := put [(Pg.timing, Tp.STATE, 3, 0)]
  { State.reset with tp := { State.reset.tp with ck := true, sinceMark := some 4544, spacing := some 4545 } }

theorem test_hyp_timingPortStates :
    ((locked 0).tp.ck = true ∧ (locked 0).tpState = 4 ∧ chkOf (goodWord false 0 7) = bitsOf (goodWord false 0 7) 0 7 ∧
      bitsOf (goodWord false 0 7) 23 8 = 0 ∧ (BitVec.ofNat 32 (goodWord false 0 7)).getLsb 31 ≠ decide ((locked 0).bucket = 0)) ∧
    (State.reset.tp.ck = false ∧ chkOf 0 ≠ bitsOf 1 0 7) ∧
    ((put [(Pg.timing, Tp.STATE, 2, 0)] (locked 0)).tpState = 2 ∧ (locked 0).tp.good = 0) ∧
    (hunting.tp.ck = true ∧ hunting.tpState = 3 ∧ (BitVec.ofNat 32 (goodWord true 0 0)).getLsb 31 = true ∧
      hunting.tp.sinceMark = some 4544 ∧ hunting.tp.spacing = some (4544 + 1) ∧ hunting.tpRd Tp.TURN_LEN = 0) ∧
    ((put [(Pg.timing, Tp.STATE, 5, 0)]).tpState = 5 ∧
      min ((put [(Pg.timing, Tp.HOLD_MAX, 0, 0)]).tpRd Tp.HOLD_MAX) 4096 ≤ 0 ∧ State.reset.tp.holdBuckets = 0) := by
  decide +kernel

theorem test_hyp_timingCommands : ((locked 0).tp.ck = true ∧ (locked 0).tpState = 4 ∧ true = decide ((locked 0).bucket = 0)) ∧
    false = decide ((locked 4544).bucket = 0) ∧
    ((put [(Pg.timing, Tp.STATE, 5, 0)] (locked 0)).tpState = 5 ∧ (put [(Pg.timing, Tp.STATE, 5, 0)] (locked 0)).tp.ck = true) ∧
    (put [(Pg.timing, Tp.TURN_BCAST_EN, 1, 0)] (locked 0)).tpRd Tp.TURN_BCAST_EN = 1 ∧
    ((locked 0).tp.loSeen = false ∧ (locked 0).tp.bstage < 2 ^ 32) ∧
    (put [(Pg.timing, Tp.TURN_BCAST_EN, 0, 0)] (locked 0)).tpRd Tp.TURN_BCAST_EN ≠ 1 := by decide +kernel

theorem test_hyp_bucketBoundary : ((locked 4544).timed = true ∧ (locked 4544).turnLen < 2 ^ 16 ∧
      (locked 4544).turnLen ≤ (locked 4544).bucket + 1 ∧ (locked 4544).tp.nextLen = none) ∧
    ((locked 4543).bucket + 1 < (locked 4543).turnLen) ∧ State.reset.timed = false := by decide +kernel

/-- A software load of TURN waits since TIME64 998, and with b a broadcast load too. -/
def loads (b : Option (Nat × Nat)) : State :=
  { locked 0 with tp := { (locked 0).tp with loadS := some (7, 998), loadB := b, layWait := true, layDue := true } }

theorem test_hyp_turnSettings : (State.reset.grants 0 Pg.timing ∧ State.reset.tp.loadS = none ∧ State.reset.timed = false ∧
      State.reset.tp.layWait = false) ∧
    ((loads none).timed = true ∧ (loads none).bucket = 0 ∧ (loads none).tp.loadS = some (7, 998) ∧
      998 + 2 ≤ (loads none).time64 ∧ (loads none).tp.loadB = none) ∧
    ((loads (some (9, 997))).tp.loadB = some (9, 997) ∧ 997 + 2 ≤ (loads (some (9, 997))).time64) ∧
    (State.reset.tpRd Tp.TURN_LEN ≠ 0xFFFF ∧ State.reset.lockOpen Pg.timing = false ∧
      (put [(Pg.timing, Hdr.LOCK_OPEN, 1, 0)]).lockOpen Pg.timing = true) ∧
    ((loads none).tp.layWait = true ∧ (loads none).tp.layDue = true) := by decide +kernel

/-- The load is complete, and in bucket b the CFG_DONE sample of TIME64 999 read high. -/
def loaded (b : Nat) : State :=
  { locked b with ld := { (locked b).ld with complete := true }, tp := { (locked b).tp with sampled := some 999 } }

theorem test_hyp_deviceStart :
    ((loaded 0).ld.complete = true ∧ (loaded 0).timed = true ∧ (loaded 0).bucket = (loaded 0).doneRelease) ∧
    ((put [(Pg.timing, Tp.DONE_SAMPLE, 4544, 0)] (locked 4544)).bucket =
      (put [(Pg.timing, Tp.DONE_SAMPLE, 4544, 0)] (locked 4544)).doneSample) ∧
    ((loaded 0).tp.sampled = some 999 ∧ 999 < (loaded 0).time64 ∧ (loaded 0).flag Pg.pcie Pcie.QUIESCED = false ∧
      (loaded 0).tp.started = false ∧ (loaded 0).ld.late = [] ∧ (loaded 0).ld.profiles = []) ∧
    ((region 0).tp.globalReset = false ∧ State.reset.tp.globalReset = true ∧
      ({ (locked 1).tp with started := true } : Tp).startAt < (locked 1).time64 ∧ State.reset.tp.started = false) := by
  decide +kernel


theorem test_hyp_milestoneArming : (State.reset.grants 0 (msPage 255) ∧ State.reset.msArmed 255 = false ∧
      (State.reset.served.msFields 255 1).armRefusal 0 255 = none) ∧
    (State.reset.served.msFields 255 (5 * 2 + 1)).armRefusal 0 255 = some Why.badParam ∧
    (State.reset.setMe 0 MsE.ARM 1).msArmed 0 = true := by decide +kernel

/-- Every PLL is READY. -/
def plls (s : State := State.reset) : State := put ((List.range 20).map fun p => (Pg.pll p, Pll.READY, 1, 0)) s

/-- Milestone 3 fires beside the milestone 255 of the same target. -/
def fires2 (a target : Nat) (s : State := locked 0) (param : Nat := 0) : State :=
  { s with ms := { s.ms with firing := [firing 3 a target 0 param, firing 255 a target 0 param] } }

theorem test_hyp_milestoneFirings : ((locked 0).timed = true ∧ ((locked 0).setMe 255 MsE.ARM 1).msArmed 255 = true ∧
      ((locked 0).setMe 255 MsE.ARM 1).me 255 MsE.ONCE ≠ 1 ∧ (locked 4542).bucket + 2 < (locked 4542).turnLen) ∧
    (((fires 255 0 0).setMe 255 MsE.ONCE 1).me 255 MsE.ONCE = 1 ∧ (fires 255 0 0).msBound 255 = true) ∧
    (fires 255 0 0).firesWith 255 0 (firing 255 0 0) ∧ State.reset.firingOf 255 9 = none ∧
    ((fires 1 7 191).firesWith 1 7 (firing 1 7 191) ∧
      (put [(Pg.gio 7, Gio.PMODE, 3, 23)] (fires 1 7 191)).pinMode 191 = 3 ∧ (fires 1 7 191).pinMode 191 ≠ 3) ∧
    ((fires 1 8 39).firesWith 1 8 (firing 1 8 39) ∧ (fires 1 8 39).serves (En.region 39) = true) ∧
    ((fires 1 9 0 (locked 0) 0 269).firesWith 1 9 (firing 1 9 0 0 269) ∧ (firing 1 9 0 0 269).param % 512 = 269) ∧
    ((fires2 9 0).firingOf 255 9 = some (firing 255 9 0) ∧ (firing 255 9 0).sameTarget (firing 3 9 0) = true) := by
  decide +kernel

/-- Milestone entry 5 acts on region 39 with context 1. -/
def acts (a : Nat) (g : Rg) : State := fires 5 a 39 (live 39 g) 1

theorem test_hyp_milestoneActions :
    ((acts 1 {}).firingOf 5 1 = some (firing 5 1 39 1) ∧ ((acts 1 {}).edgeBefore 39 1).firesWith 5 1 (firing 5 1 39 1) ∧
      ((acts 1 {}).edgeBefore 39 1).stageWhy 39 1 false = none ∧
      (((acts 1 {}).edgeBefore 39 1).rg 39).stgEdge = none) ∧
    (((acts 1 { staging := some ⟨1, 0, 0⟩ }).edgeBefore 39 1).stageWhy 39 1 false = some 2) ∧
    ((fires2 1 39 (region 39)).edgeBefore 39 1).firingOf 255 1 = some (firing 255 1 39) ∧
    (((acts 2 {}).edgeBefore 39 2).switchWhy 39 1 false = some 1 ∧ ((acts 2 {}).edgeBefore 39 2).firesWith 5 2 (firing 5 2 39 1)) ∧
    ((put [(Pg.region 39, Rgn.STG_VALID, 1, 0), (Pg.region 39, Rgn.STG_CTX, 1, 0)] (acts 2 {})).edgeBefore 39 2).switchWhy
      39 1 false = none ∧
    ((fires 5 3 39).captureOk 39 = false ∧ (acts 3 {}).captureOk 39 = true ∧ (acts 3 {}).firesWith 5 3 (firing 5 3 39 1)) := by
  decide +kernel

theorem test_hyp_milestoneEngineActions :
    (((fires 5 4 0).engineFireOn 0 [5]).firesWith 5 4 (firing 5 4 0) ∧
      ((runs (En.engine 0) (fires 5 4 0)).engineFireOn 0 [5]).hostEngine 0 = some 0 ∧
      ((runs (En.engine 0) (fires 5 4 0)).engineFireOn 0 [5]).startWhy 0 = none ∧
      ((fires 5 4 0).engineFireOn 0 [5]).startWhy 0 = some 3 ∧ ((fires 5 4 255).engineFireOn 255 [5]).hostEngine 255 = none) ∧
    ((fires 5 5 0).firesWith 5 5 (firing 5 5 0) ∧ (fires 5 5 0).hostEngine 0 = some 0 ∧
      (fires 5 5 0).serves (En.engine 0) = true ∧ ((fires 5 5 0).te 0).moving = false ∧
      (put [(Pg.engine 0, Te.ESTATE, Es.running, 0)] (fires 5 5 0)).teBusy 0 = true ∧ (fires 5 5 0).teBusy 0 = false) ∧
    ((fires 5 6 7).firesWith 5 6 (firing 5 6 7) ∧ (fires 5 6 7).ddrRanks 7 ≤ 2 ∧ (fires 5 6 7).isOn (En.ddr 7) = true ∧
      (put [(Pg.ddr 7, Ddr.TRAINED, 1, 0)] (plls (fires 5 6 7))).trained 7 = true ∧
      (fires 5 6 7).trained 7 = false) ∧
    (([3, 4, 5, 6].all fun a => (fires2 a 7).firingOf 255 a = some (firing 255 a 7) ∧
      (firing 255 a 7).sameTarget (firing 3 a 7) = true) = true) := by decide +kernel

theorem test_hyp_timers : (State.reset.grants 0 Pg.milestones ∧ State.reset.tm 31 Tmr.T_EN = 0 ∧
      State.reset.mayClaim (Reg.timer 31) 0 1 = true) ∧ (held (Reg.timer 31) 3).mayClaim (Reg.timer 31) 0 1 = false ∧
    (State.reset.setTm 31 Tmr.T_EN 1).tm 31 Tmr.T_EN = 1 ∧ 31 ∈ ({ expired := [31] } : Ms).expired ∧
    ((State.reset.setTm 31 Tmr.T_FAB 1).tm 31 Tmr.T_FAB = 1 ∧ State.reset.tm 31 Tmr.T_REGION < 40 ∧
      State.reset.serves (En.region 0) = true) := by decide +kernel

theorem test_hyp_plls : State.reset.refHere 19 = false ∧ State.reset.treesOn 19 = [] ∧
    (State.reset.grants 0 (Pg.pll 3) ∧ State.reset.flag (Pg.pll 3) Hdr.EN = false ∧
      State.reset.pllRefusal 3 (State.reset.rd (Pg.pll 3) Pll.REF_SEL) (State.reset.rd (Pg.pll 3) Pll.MULT) = none ∧
      ¬ ((State.reset.rd (Pg.pll 3) Pll.REF_SEL) = 3 ∧ 0 = State.reset.rd (Pg.pll 3) Pll.MULT)) ∧
    State.reset.pllRefusal 3 (State.reset.rd (Pg.pll 3) Pll.REF_SEL) 0 ≠ none ∧
    (State.reset.grants 2 (Pg.pll 16) ∧ State.reset.blk (En.pll 16) ≠ St.inUse ∧ State.reset.spareFree 16 = true) ∧
    (put [(0, Wbe.STATE, St.inUse, En.pll 16)]).blk (En.pll 16) = St.inUse ∧
    ({ put [(Pg.pll 0, Pll.REF_OK, 1, 0)] with
        ck := { State.reset.ck with delayOver := true }, plls := [(0, { locking := some 0 })] } : State).pllRuns 0 = true ∧
    ((put [(Pg.pll 19, Pll.READY, 1, 0)]).pllReady 19 = true ∧ State.reset.pllReady 19 = false ∧
      (State.reset.pll 19).locking = none) ∧
    ((State.reset.bucketTrees.all fun k => !(State.reset.gate (entryOfTree k)).treeClose) = true ∧
      State.reset.ck.relockWait = false) := by decide +kernel

/-- Tree 0 switches to source 4. -/
def switching : State := (put [(Pg.clocks, Clk.SW_BUSY, 1, 0)] (plls (locked 0))).setTree 0 { swSrc := 4 }

theorem test_hyp_clockTrees : (State.reset.treePll 176).all (fun p => !State.reset.treeMayOpen p) = true ∧
    (((plls (locked 0)).treePll 176).isSome = true ∧
      ((plls (locked 0)).treePll 176).all (fun p => (plls (locked 0)).treeMayOpen p) = true ∧
      (plls (locked 0)).flag Pg.clocks Clk.OPEN 176 = false) ∧
    ((plls (locked 0)).grants 0 Pg.clocks ∧ (plls (locked 0)).flag Pg.clocks Clk.SW_BUSY 0 = false ∧
      4 ≠ (plls (locked 0)).rd Pg.clocks Clk.ACT_SRC 0 ∧ (plls (locked 0)).switchReason 0 4 1 true = none) ∧
    (State.reset.switchReason 0 7 0 true = some 0) ∧
    (switching.flag Pg.clocks Clk.SW_BUSY 0 = true ∧ switching.grants 0 Pg.clocks ∧
      (treeSource 0 (switching.tree 0).swSrc).any switching.treeMayRun = true) ∧
    (State.reset.rd Pg.clocks Clk.SRC 0 = State.reset.rd Pg.clocks Clk.ACT_SRC 0 ∧
      State.reset.rd Pg.clocks Clk.ACT_SRC 0 ≠ 7 ∧ (State.reset.tree 0).pendDiv = none ∧
      (plls (locked 0)).switchReason 0 ((plls (locked 0)).rd Pg.clocks Clk.SRC 0) 5 false = none ∧
      5 ≠ ((plls (locked 0)).tree 0).div) := by
  decide +kernel

/-- The gate of entry 43 waits for its port: a close of branches, of the whole tree, or both. -/
def closing (c t : Bool) : State :=
  State.reset.setGate (gateEntry 43) { State.reset.gate (gateEntry 43) with closing := c, treeClose := t }

theorem test_hyp_gatesAndCounters : (State.reset.dom 0).kept = none ∧ (State.reset.gate (entryOfTree 0)).waits = false ∧
    (((closing true false).gate (gateEntry 43)).closing = true ∧ domainOf (gateEntry 43) = alwaysOn ∧
      ((closing true true).gate (gateEntry 43)).treeClose = true ∧
      ((closing false true).gate (gateEntry 43)).closing = false ∧ (State.reset.gate (gateEntry 43)).waits = false) ∧
    (let s := State.reset.setGate (gateEntry (En.slab 0)) { State.reset.gate (gateEntry (En.slab 0)) with closing := true, toLevel := 3 }
     let d := domainOf (gateEntry (En.slab 0))
     (s.gate (gateEntry (En.slab 0))).closing = true ∧ d ≠ alwaysOn ∧ (s.dom d).entry = 0 ∧ (s.dom d).wake = 0 ∧
      (s.dom d).kept = none ∧ s.allRetired d = false ∧ s.asked d = (s.gate (gateEntry (En.slab 0))).toLevel) ∧
    (State.reset.mayClaim (Reg.counter 15) 0 1 = true ∧ (held (Reg.counter 15) 3).mayClaim (Reg.counter 15) 0 1 = false ∧
      State.reset.flag Pg.clocks Clk.FC_EN 15 = false ∧ (put [(Pg.clocks, Clk.FC_EN, 1, 15)]).flag Pg.clocks Clk.FC_EN 15 = true) := by
  decide +kernel

/-- The latch slot of minor m at (x, r) of region i holds v. -/
def slot (i x m r v : Nat) (s : State := locked 0) : State := { s with latch := mset 0 s.latch (latchKey 0 i x m r) v }

/-- Minor m of slot (63, 319) drives index 63 of the causeways of both regions of pair 19. -/
def meeting : State := slot 19 63 15 319 (2 ^ 63)
  (slot 39 63 15 319 (2 ^ 63) { State.reset with rgs := [(19, { live := true }), (39, { live := true })] })

theorem test_hyp_causewaysAndBlocks :
    ((live 39).rg 39).live = true ∧ ((live 39).rg 39).srst = false ∧ (live 39).tp.globalReset = false ∧
    (meeting.bothDrive 19 63 319 63 = true ∧ (meeting.rg 19).conflicts = [] ∧ State.reset.bothDrive 19 63 319 63 = false) ∧
    ((({ State.reset with rgs := [(0, { conflicts := [⟨1, 2, 3, false, false⟩] })] } : State).rg 0).conflicts =
      [⟨1, 2, 3, false, false⟩] ∧
      ({ State.reset with rgs := [(0, { conflicts := [⟨1, 2, 3, false, false⟩] })] } : State).bondsBusy 0 = false) ∧
    ((State.reset.rg 0).conflicts.all fun c => c.x ≠ 0 || c.r ≠ 0 || c.persists || c.passed) = true := by decide +kernel

/-- Region 39 runs, and its slot hosts block 1023 on both ports, in BMW mode where w is 1. -/
def hosts (w : Nat) : State :=
  slot 39 63 7 300 (2 ^ 63 + w * 2 ^ 31) (slot 39 63 7 310 (2 ^ 63 + w * 2 ^ 31) (live 39))

theorem test_hyp_blockPorts :
    ((hosts 0).regionRuns 39 = true ∧ (hosts 0).isOn (En.slab 39) = true ∧ (hosts 0).bmHost 39 63 (20 * 15) = true ∧
      bitOf ((hosts 0).activeSlot 39 63 7 (20 * 15)) 31 = 0 ∧ (hosts 0).bmHost 39 63 (20 * 15 + 10) = true ∧
      bitOf ((hosts 0).activeSlot 39 63 7 (20 * 15 + 10)) 31 = 0 ∧
      byteDecode (mget 0 (hosts 0).bm (bmKey 39 1023 4095)) = (.clean, 0, 0)) ∧
    ((hosts 1).bmHost 39 63 (20 * 15) = true ∧ bitOf ((hosts 1).activeSlot 39 63 7 (20 * 15)) 31 = 1 ∧
      byteDecode (mget 0 (hosts 1).bm (bmKey 39 1023 4094)) = (.clean, 0, 0)) ∧
    State.reset.regionRuns 39 = false ∧
    (((hosts 0).setDom (domainOf (En.slab 39)) { level := 0 }).isOn (En.slab 39) = false ∧
      ((hosts 0).setDom (domainOf (En.slab 39)) { level := 0 }).regionRuns 39 = true) := by decide +kernel

theorem test_hyp_regionPorts :
    ((put [(Pg.region 39, Rgn.TYPE, 9, 15)] (live 39)).livePort 39 9 = true ∧
      (put [(Pg.region 39, Rgn.TYPE, 10, 15)] (live 39)).livePort 39 10 = true ∧ (live 39).livePort 39 9 = false) ∧
    State.reset.regionRuns 0 = false ∧ (State.reset.grants 0 (Pg.region 0) ∧ State.reset.isLive 0 0 = false ∧
      State.reset.attWhy 0 0 0 9 0 0 = none ∧ State.reset.attWhy 0 0 0 9 0 320 = some 3 ∧
      State.reset.rgRd 0 Rgn.TYPE 0 ≠ 9) ∧
    ((live 0).isLive 0 0 = true ∧ (live 0).grants 0 (Pg.region 0)) ∧
    (let s := put [(Pg.region 19, Rgn.REMAP_PEND, 1, 0), (Pg.region 19, Rgn.PEND_COL, 127, 0)] (live 39)
     let u := s.each [19, 39] (fun i s => (s.captures i).regionFire i 2)
     s.rgRd 19 Rgn.REMAP_PEND = 1 ∧ s.quietPoint = true ∧ u.rgRd 19 Rgn.REMAP_PEND = 1 ∧ u.rgRd 19 Rgn.PEND_COL < 128 ∧
      u.rgRd 19 Rgn.MAP0 < 128 ∧ (u.rg 39).live = true ∧ u.regionRuns 39 = true ∧ u.liveCtx 39 < 8 ∧
      u.stageWhy 39 (u.liveCtx 39) (u.onEdge 0 (u.rg 39).stgEdge) = none ∧ u.onEdge 0 (u.rg 39).swEdge = false ∧
      (u.rg 39).stgNext = none ∧ (u.rg 19).live = false) ∧
    ((live 0 { capReq := true }).captureOk 0 = true ∧ ((live 0 { capReq := true }).rg 0).capReq = true ∧
      (live 0 { capReq := true }).bucketSince ((live 0 { capReq := true }).rg 0).capSince = true ∧
      (live 0 { capReq := true }).firesOn [3] 0 = [] ∧ ((live 0).rg 0).capEdge = none) ∧
    State.reset.captureOk 0 = false ∧
    (put [(0, Wbe.STATE, St.retired, En.region 0)]).response 0 (Pg.region 0) = .retired := by decide +kernel

/-- What an edge of region 39 leaves before its stagings (a = 1) or its switches (a = 2). -/
def before (a : Nat) (s : State) : State := (s.edgeBefore 39 a).regionFire 39 a

theorem test_hyp_stagings : (State.reset.grants 0 (Pg.region 39) ∧ State.reset.rgRd 39 Rgn.STG_PEND = 0 ∧
      (put [(Pg.region 39, Rgn.STG_PEND, 1, 0)]).rgRd 39 Rgn.STG_PEND = 1 ∧
      (put [(Pg.region 39, Rgn.SW_PEND, 1, 0)]).rgRd 39 Rgn.SW_PEND = 1) ∧
    ((put [(Pg.region 39, Rgn.FAB_REQ_EN, 1, 0)] (live 39)).rgRd 39 Rgn.FAB_REQ_EN = 1 ∧ (live 39).regionRuns 39 = true) ∧
    (((before 1 (live 39 { stgReqs := [⟨3, 1, 0, none⟩] })).rg 39).stgReqs = [⟨3, 1, 0, none⟩] ∧
      (before 1 (live 39 { stgReqs := [⟨3, 1, 0, none⟩] })).bucketSince none = true ∧
      (before 1 (live 39 { stgReqs := [⟨3, 1, 0, none⟩] })).stageWhy 39 1 false = none ∧
      ((before 1 (live 39 { stgReqs := [⟨3, 1, 0, none⟩] })).rg 39).stgEdge = none) ∧
    ((before 1 (live 39 { stgReqs := [⟨1, 7, 0, none⟩] })).stageWhy 39 7 false = some 1 ∧
      ((before 1 (live 39 { stgReqs := [⟨1, 7, 0, none⟩] })).rg 39).stgReqs = [⟨1, 7, 0, none⟩]) ∧
    (((before 1 (live 39 { stgReqs := [⟨3, 1, 0, some 1000⟩] })).rg 39).stgReqs = [⟨3, 1, 0, some 1000⟩] ∧
      (before 1 (live 39 { stgReqs := [⟨3, 1, 0, some 1000⟩] })).bucketSince (some 1000) = false) ∧
    (((live 39 { staging := some ⟨1, 0, 8⟩ }).rg 39).staging = some ⟨1, 0, 8⟩ ∧ ((live 39).rg 39).staging = none ∧
      ((live 39 { stgNext := some ⟨3, 1, 0, none⟩ }).rg 39).stgNext = some ⟨3, 1, 0, none⟩) := by decide +kernel

/-- Region 39 may switch to context 1. -/
def staged : State := put [(Pg.region 39, Rgn.STG_VALID, 1, 0), (Pg.region 39, Rgn.STG_CTX, 1, 0)]
  (live 39 { swReqs := [⟨3, 1, 0, none⟩] })

theorem test_hyp_contextSwitch : ((before 2 staged).switchWhy 39 1 false = none ∧
      ((before 2 staged).rg 39).swReqs = [⟨3, 1, 0, none⟩] ∧ ((before 2 staged).rg 39).swEdge = none ∧
      (before 2 staged).bucketSince none = true ∧ mwf 0 (before 2 staged).ff = true ∧
      mwf 0 (before 2 staged).restore = true ∧ ((before 2 staged).rg 39).live = true) ∧
    ((before 2 (live 39 { swReqs := [⟨1, 7, 0, none⟩] })).switchWhy 39 7 false = some 1 ∧
      ((before 2 (live 39 { swReqs := [⟨1, 7, 0, none⟩] })).rg 39).swReqs = [⟨1, 7, 0, none⟩]) ∧
    (((before 2 (live 39 { swReqs := [⟨3, 1, 0, some 1000⟩] })).rg 39).swReqs = [⟨3, 1, 0, some 1000⟩] ∧
      (before 2 (live 39 { swReqs := [⟨3, 1, 0, some 1000⟩] })).bucketSince (some 1000) = false) := by decide +kernel


/-- A stream is open on PCIe, its order is o, and the loader holds l beside. -/
def stream (o : Nat) (l : Ld := {}) (s : State := State.reset) : State :=
  put [(Pg.loader, Ld.READY, 1, 0), (Pg.loader, Ld.SYNCED, 1, 0), (Pg.loader, Ld.SRC, 1, 0), (Pg.thermal, Thr.CFG_WIN, 1, 0)]
    { s with ld := { l with order := o } }

/-- The loader is READY, in configuration mode m, and port p owns it. -/
def ready (m p : Nat) : State := put [(Pg.loader, Ld.READY, 1, 0), (0, Wbh.CFG_MODE, m, 0), (Pg.loader, Ld.SRC, p, 0)]

theorem test_hyp_streamPorts :
    ((ready 1 0).flag Pg.loader Ld.READY = true ∧ (ready 1 0).ldRd Ld.SRC = 0 ∧ (ready 1 0).streamOpen = false ∧
      (ready 1 0).rd 0 Wbh.CFG_MODE = 1 ∧ (ready 2 0).psReady = true ∧ (ready 2 0).streamOpen = false) ∧
    ((stream 0).flag Pg.loader Ld.READY = true ∧ (stream 0).ldRd Ld.SRC = 1 ∧ (stream 0).between 0) ∧
    State.reset.flag Pg.loader Ld.READY = false ∧ 2 ≤ (ready 1 2).ldRd Ld.SRC ∧
    ((stream 1).ldRd Ld.SRC = 1 ∧ (stream 1).streamOpen = true) ∧ (ready 1 0).rd 0 Wbh.CFG_MODE = 1 ∧
    ((ready 1 3).flag Pg.loader Ld.READY = true ∧ (ready 1 3).ldRd Ld.SRC ≠ 0 ∧ (ready 1 3).ldRd Ld.SRC ≠ 2) ∧
    (ready 2 0).rd 0 Wbh.CFG_MODE ≠ 1 ∧
    ((ready 2 2).psReady = false ∧ (ready 2 2).rd 0 Wbh.CFG_MODE = 2 ∧ (ready 2 2).ldRd Ld.SRC = 2) := by decide +kernel

/-- A serial stream is open behind a held frame, and the buffer is full. -/
def full : State := put [(Pg.loader, Ld.SRC, 2, 0), (0, Wbh.CFG_MODE, 1, 0)]
  (stream 1 { jobs := [⟨[], none, 1⟩], buf := List.replicate 16384 0 })

theorem test_hyp_fullBuffer : full.rd 0 Wbh.CFG_MODE = 1 ∧ full.flag Pg.loader Ld.READY = true ∧ full.ldRd Ld.SRC = 2 ∧
    full.streamOpen = true ∧ full.ld.jobs ≠ [] ∧ 16384 ≤ full.ld.buf.length ∧ full.noSyncBehind := by decide +kernel

theorem test_hyp_streamPackets : State.reset.streamOpen = false ∧ (stream 1).between 1 ∧
    ((stream 0).between 0 ∧ State.reset.rd 0 Wbh.MEMBER < 2 ^ 16 ∧ (stream 0).ldRd Ld.SRC = (stream 0).fullPort ∧
      (stream 0).flag Pg.loader Ld.LOADED = false ∧ bitOf ((stream 0).scRd Scp.POLICY) 0 = 0 ∧
      bitOf ((stream 0).scRd Scp.POLICY) 1 = 0) ∧
    (bitOf (stream 1).ld.flags 2 = 0 ∧ (stream 1).ld.selected = true ∧ (stream 1).ld.wreg.length + 1 ≤ 2048 ∧
      (stream 1 { flags := 1 }).wregWhy 0x45040 0 = none ∧
      (stream 1).wregWhy 0x45040 0 = some Abort.fence ∧
      2048 < (stream 1 { wreg := List.replicate 2048 (0, 0) }).ld.wreg.length + 1) ∧
    ((stream 1 { flags := 1 }).ldFull = true ∧ ((stream 1 { flags := 1 }).bulkWrite 0x02000000 0).isSome = true ∧
      (stream 1 { flags := 1 }).bulkWrite 1 0 = none ∧ (stream 1).ldFull = false) ∧
    (stream 4 { flags := 1 }).between 4 ∧ (stream 3).between 3 := by decide +kernel

/-- A frame of zeros at frame address a, with its CRC. -/
def zeroFrame (a : Nat) : FrameWords := ⟨List.replicate 640 0, BitVec.ofNat 32 (frameCrc a (List.replicate 640 0))⟩

/-- A full image whose FAR is a. -/
def image (a : Nat) (s : State := State.reset) : State := stream 1 { flags := 1, far := a } s

theorem test_hyp_frames_write : (zeroFrame 0).data.length = 640 ∧ (image 0).ld.selected = true ∧ (image 0).between 1 ∧
    bitOf (image 0).ld.flags 2 = 0 ∧ (image 0).judge 0 (List.replicate 640 0) none = .write := by decide +kernel

theorem test_hyp_frames_crc :
    (image 0).judge 0 ((zeroFrame 0).data.map (·.toNat)) (some (zeroFrame 0).crc.toNat) = .write := by
  have h : (zeroFrame 0).data.map (·.toNat) = List.replicate 640 0 := by decide +kernel
  have hc : (zeroFrame 0).crc.toNat = frameCrc 0 (List.replicate 640 0) :=
    (BitVec.toNat_ofNat _ _).trans (Nat.mod_eq_of_lt (frameCrc_lt 0 (List.replicate 640 0)))
  rw [h, hc, judge_frameCrc]
  exact test_hyp_frames_write.2.2.2.2

theorem test_hyp_frames_fail : (image 0).judge (16 * 4096) (List.replicate 640 0) none = .fail Abort.live 0 ∧
    (image 0).judge (22 * 4096) (List.replicate 640 0) none = .fail Abort.badCmd 0 ∧
    (stream 1).judge 0 (List.replicate 640 0) none = .fail Abort.fence 0 := by decide +kernel

/-- Every agent votes level l for the plane of region 0, and it is there. -/
def voted (l : Nat) : State := ((List.range 8).foldl (fun s a => s.castVote 80 a l) State.reset).setDom 80 { level := l }

theorem test_hyp_frames_hold : (put [(0, Wbe.STATE, St.retired, En.region 0)] (image 0)).judge 0
      (List.replicate 640 0) none = .skip ∧
    (image 0 { State.reset with rgs := [(0, { staging := some ⟨0, 0, 0⟩ })] }).judge 0 (List.replicate 640 0) none = .hold ∧
    ((image 0 (voted 2)).judge 0 (List.replicate 640 0) none = .power 80 ∧ (voted 2).taken 80 < 3 ∧
      ((image 0 (voted 2)).loadVote 80).judge 0 (List.replicate 640 0) none = .write) ∧
    ((image 0 (voted 1)).judge 0 (List.replicate 640 0) none = .power 80 ∧
      ((image 0 (voted 1)).loadVote 80).judge 0 (List.replicate 640 0) none ≠ .write) ∧
    (put [(Pg.thermal, Thr.CFG_WIN, 0, 0)] (image 0)).judge 0 (List.replicate 640 0) none = .window ∧
    ((stream 1 { jobs := [⟨[], none, 1⟩] }).ld.jobs = [⟨[], none, 1⟩] ∧ (stream 1).ld.buf = []) ∧
    (641 ≤ (stream 1 { op := Op.frames, left := 641 }).ld.left ∧ (stream 1).ld.jobs = []) := by decide +kernel

/-- Slot 1 holds key 0, which may sign images and decrypt them. -/
def keyed (s : State) : State := put [(Pg.mailbox 2, Scp.VALID, 1, 1), (Pg.mailbox 2, Scp.USE, 6, 1)] s

theorem test_hyp_streamSecurity : (keyed (stream 1)).between 1 ∧ (keyed (stream 1)).keyFor 1 2 = some (List.replicate 32 0) ∧
    (stream 1).keyFor 1 2 = none ∧ (stream 1).keyFor 8 1 = none ∧
    (keyed (stream 1)).keyFor 1 1 = some (List.replicate 32 0) := by decide +kernel


/-- An encrypted section with slot 1 whose words have come. -/
def section1 : Enc := ⟨1, List.replicate 12 0, [1, 2, 3], 0, []⟩

theorem test_hyp_streamSecurity_right :
    gcmTag ((keyed (stream 1 { enc := some section1 })).keyBytes section1.slot) section1.iv (section1.aad.flatMap leBytes)
      (section1.cipher.reverse.flatMap leBytes) =
        [0x9EE9EAE5, 0x303690C9, 0xC966EEBD, 0x27BE38FE].flatMap leBytes ∧
    hmacSha256 (List.replicate 32 0) ([2, 1].reverse.flatMap leBytes) =
        [0xF6708D96, 0x55F6B312, 0x9209E126, 0x9AF04547, 0x3C100FBE, 0x95DFBE35, 0x66103EAC, 0x7F6C38C4].flatMap leBytes := by
  decide +kernel

theorem test_hyp_loadEnds : ((stream 1 { flags := 1, written := [(39, 7)] }).between 1 ∧ bitOf 1 1 = 0 ∧
      (stream 2 { flags := 3, macOk := true }).between 2 ∧
      (List.range 64).all (fun x => !(stream 1 { flags := 1, written := [(39, 7)] }).bothEnds 39 7 x
        ((stream 1 { flags := 1, written := [(39, 7)] }).driveSlots 39 7 x)) = true ∧
      (put [(Pg.region 39, Rgn.CSTATE, 1, 7)] (stream 1)).ctxState 39 7 = 1) ∧
    ((stream 1 { flags := 2 }).between 1 ∧ bitOf 2 1 = 1) ∧ (stream 3 { flags := 1 }).between 3 ∧
    ((put [(Pg.loader, Ld.PHASE, 5, 0)] (plls)).ldRd Ld.PHASE = 5 ∧ (put [(Pg.loader, Ld.PHASE, 5, 0)] (plls)).pllsReady = true ∧
      (region 39).usable (En.region 39) = true ∧ (region 39).isOn (En.region 39) = true ∧
      (region 39).isOn (En.plane 39) = true ∧ (region 39).ctxValid 39 1 = true) ∧
    ((put [(Pg.loader, Ld.STALL_TMO, 1, 0)] (stream 1)).streamOpen = true ∧
      (put [(Pg.loader, Ld.STALL_TMO, 1, 0)] (stream 1)).ldRd Ld.STALL_TMO ≠ 0) ∧ State.reset.streamOpen = false ∧
    ((put [(Pg.loader, Ld.TEMP_HOLD, 1, 0), (Pg.loader, Ld.TEMP_HOLD_MAX, 1, 0)] (stream 1)).flag Pg.loader Ld.TEMP_HOLD = true ∧
      (put [(Pg.loader, Ld.TEMP_HOLD_MAX, 1, 0)] (stream 1)).ldRd Ld.TEMP_HOLD_MAX ≠ 0) ∧
    State.reset.flag Pg.loader Ld.TEMP_HOLD = false ∧ (stream 1 { enumerated := some 0 }).ld.enumerated.isSome = true ∧
    State.reset.flag Pg.loader Ld.LOADED = false ∧ State.reset.ld.enumerated = none := by decide +kernel

/-- A mailbox command of opcode op with n words after its first. -/
def mail (op n : Nat) : MailCmd := { words := (op + n * 65536) :: List.replicate n 0, tag := 0, resp := none }

theorem test_hyp_readbackAndMailbox : State.reset.grants 0 Pg.loader ∧ State.reset.flag Pg.loader Ld.RB_BUSY = false ∧
    (put [(Pg.loader, Ld.RB_BUSY, 1, 0)]).flag Pg.loader Ld.RB_BUSY = true ∧
    ((cmdOn 0 2 (mail 1 0)).serving 0 2 0x0001 0 (mail 1 0) ∧ (cmdOn 0 2 (mail 2 0)).serving 0 2 0x0002 0 (mail 2 0) ∧
      (cmdOn 0 2 (mail 3 0)).serving 0 2 0x0003 0 (mail 3 0) ∧ (cmdOn 0 2 (mail 3 1)).serving 0 2 0x0003 1 (mail 3 1)) ∧
    (farOk 0 = true ∧ farOk (22 * 4096) = false ∧ bitOf (State.reset.scRd Scp.POLICY) 3 = 0 ∧
      State.reset.isOn (En.plane 0) = true ∧ (State.reset.setDom 80 { level := 0 }).isOn (En.plane 0) = false) ∧
    (put [(Pg.loader, Ld.READY, 1, 0)] (cmdOn 0 2 (mail 3 0))).flag Pg.loader Ld.READY = true := by decide +kernel

/-! ### Trigger engines -/

/-- The instruction of opcode op with fields, each at its lowest bit. -/
def instr (op : Nat) (fs : List (Nat × Nat) := []) : Nat := op * 2 ^ 58 + (fs.map fun f => f.1 * 2 ^ f.2).sum

/-- Engine 103 runs at PC 2047, where its memory has word i. -/
def eng (i : Nat) (te : Te := {}) (s : State := locked 0) : State :=
  let s := put [(Pg.engine 103, Te.ESTATE, Es.running, 0), (Pg.engine 103, Te.PC, 2047, 0)] (runs (En.engine 103) s)
  { s with im := mset {} s.im (imKey 103 2047) (cleanWord i), tes := [(103, te)] }

theorem test_hyp_engineTraps : State.reset.teIssues 103 = false ∧
    ((eng (instr 0)).issues 103 (instr 0) ∧ Iw.op (instr 1) ≠ 0) ∧
    (teLegal 2047 (instr 0 + 1) = false ∧ (eng (instr 0 + 1)).teIssues 103 = true ∧
      wordDecode (mget {} (eng (instr 0 + 1)).im (imKey 103 2047)) = (.clean, instr 0 + 1)) ∧
    ((eng (instr 0x1B [(12, 54)])).teStall 103 (instr 0x1B [(12, 54)]) = some (.popIn 0) ∧
      teLegal 2047 (instr 0x1B [(12, 54)]) = true) ∧
    (wordDecode poisonWord).1 = .poison ∧ (eng (instr 0x0F [(255, 0)])).issues 103 (instr 0x0F [(255, 0)]) ∧
    ((eng (instr 0x0E [(1, 46)])).issues 103 (instr 0x0E [(1, 46)]) ∧ (eng 0).teRd 103 Te.IN_HANDLER = 0 ∧
      (put [(Pg.engine 103, Te.IN_HANDLER, 1, 0)] (eng 0)).teRd 103 Te.IN_HANDLER = 1) ∧
    (let s := put [(Pg.engine 103, Te.AG_LEN, 1, 3), (Pg.engine 103, Te.AG_IDX, 1, 3)] (eng (instr 0x1B [(11, 54), (1, 44)]));
      s.agUpdates 103 [(11, true), (0, false)] = none ∧ s.issues 103 (instr 0x1B [(11, 54), (1, 44)])) := by decide +kernel

/-- A register's start request, or a halt request, meets engine 103 or 0 after the milestones of its bucket. -/
def requested (e : Nat) (te : Te) : State := (runs (En.engine e) { locked 0 with tes := [(e, te)] }).engineFire e [5, 4]

theorem test_hyp_engineRuns : State.reset.grants 0 (Pg.engine 0) ∧
    (((requested 0 { startReq := some (3, some 999) }).te 0).startReq = some (3, some 999) ∧
      (requested 0 { startReq := some (3, some 999) }).bucketSince (some 999) = true ∧
      (requested 0 { startReq := some (3, some 999) }).startWhy 0 = none ∧
      (requested 0 { startReq := some (3, some 1000) }).bucketSince (some 1000) = false ∧
      ((eng 0).engineFire 103 [5, 4]).startWhy 103 = some 1 ∧ ((requested 0 {}).te 0).startReq = none) ∧
    (((requested 0 { haltReq := true }).te 0).haltReq = true ∧ ((requested 0 {}).te 0).haltReq = false ∧
      ((eng 0).engineFire 103 [5, 4]).teBusy 103 = true) ∧
    ((locked 0).firesOn [5, 4] (((locked 0).logicalOf 0).getD 96) = []) ∧ (eng (instr 1)).issues 103 (instr 1) ∧
    ((eng (instr 2 [(1, 46), (4544, 0)])).issues 103 (instr 2 [(1, 46), (4544, 0)]) ∧ (eng 0).turnLen = 4545) ∧
    (let s := put [(Pg.engine 103, Te.ESTATE, Es.waiting, 0)] (eng 0 { wait := .wait 0 0 999 });
      s.estate 103 = Es.waiting ∧ s.teCore 103 = true ∧ s.waitOver 0 0 999 = true ∧ s.waitOver 0 0 1000 = false) ∧
    (let s := put [(Pg.engine 103, Te.ESTATE, Es.waiting, 0), (Pg.engine 103, Te.IN_TMO, 1, 0)] (eng 0 { wait := .popIn 0 });
      s.estate 103 = Es.waiting ∧ (s.te 103).wait = .popIn 0 ∧ ((s.te 103).fifo 0).words = [] ∧ s.teRd 103 Te.IN_TMO ≠ 0) ∧
    (let s := put [(Pg.engine 103, Te.ESTATE, Es.waiting, 0), (Pg.engine 103, Te.OUT_TMO, 1, 0)]
        (eng (instr 0x1B [(14, 46)]) { wait := .pushOut 0, fifos := [(2, { words := List.replicate 32 ⟨0, 0, false, 0⟩ })] });
      s.estate 103 = Es.waiting ∧ (s.te 103).wait = .pushOut 0 ∧ s.teRd 103 Te.OUT_TMO ≠ 0 ∧
        32 < ((s.te 103).fifo (2 + 0)).words.length +
          tePushes (wordDecode (mget {} s.im (imKey 103 (s.teRd 103 Te.PC)))).2) := by decide +kernel

theorem test_hyp_controlInstructions : (∀ i ∈ [instr 0, instr 4 [(2047, 32)], instr 5 [(3, 50), (0, 32)], instr 6 [(3, 50)],
      instr 7 [(15, 54), (2 ^ 32 - 1, 0)], instr 8 [(15, 54), (1, 50), (1, 0)], instr 9 [(3, 48), (3, 46), (1, 0)],
      instr 0x0A [(3, 48), (1, 50)], instr 0x0B [(1, 54), (3, 48), (3, 46)], instr 0x0C [(1, 48), (255, 0)],
      instr 0x0C [(72, 0)], instr 0x0D [(1, 54), (1, 48)]], (eng i).issues 103 i) ∧
    (let i := instr 3 [(100, 32), (2 ^ 16, 0)];
      let s := put [(Pg.engine 103, Te.PC, 99, 0)] (eng 0);
      let s := { s with im := mset {} s.im (imKey 103 99) (cleanWord i) };
      s.issues 103 i ∧ s.teRd 103 Te.SREG 0 = 0 ∧ Iw.imm i % 2 ^ 16 = 0 ∧
        (put [(Pg.engine 103, Te.SREG, 5, 0)] s).teRd 103 Te.SREG (Iw.rs i) % 2 ^ 16 ≠ 0) ∧
    4 ≤ ((eng 0 { loops := List.replicate 4 ⟨0, 9, 2⟩ }).te 103).loops.length := by decide +kernel

/-- Selectors 0 to 7 read a vector register, 8 to 11 the row of a generator, 12 and 13 the head of an input FIFO, and 15 zero. -/
theorem test_hyp_reads : (eng 0).reads 103 7 (List.replicate 32 (0, false)) ∧
    (eng 0).reads 103 11 (List.replicate 32 (0, false)) ∧
    (eng 0 { fifos := [(1, { words := [⟨0, 0, false, 0⟩] })] }).reads 103 13 (wordLanes ⟨0, 0, false, 0⟩) ∧
    (eng 0).reads 103 15 (List.replicate 32 (0, false)) := by
  have h8 : ∀ j, j < 32 → laneDecode (mget 0 (eng 0).dm (dmKey 103 ((eng 0).agAddr 103 3) j)) = (.clean, 0, 0) ∧
      (List.replicate 32 ((0 : Int), false))[j]? = some (signedOf 18 0, false) := by decide +kernel
  refine ⟨⟨by decide, fun _ => by decide +kernel, fun h => absurd h (by decide), fun h => absurd h (by decide),
      fun h => absurd h (by decide)⟩,
    ⟨by decide, fun h => absurd h (by decide), fun _ _ j hj => ⟨0, 0, h8 j hj⟩, fun h => absurd h (by decide),
      fun h => absurd h (by decide)⟩,
    ⟨by decide +kernel, fun h => absurd h (by decide), fun _ h => absurd h (by decide),
      fun _ _ => ⟨⟨0, 0, false, 0⟩, [], by decide +kernel, rfl⟩, fun h => absurd h (by decide)⟩,
    ⟨by decide, fun h => absurd h (by decide), fun _ h => absurd h (by decide), fun _ h => absurd h (by decide),
      fun _ => rfl⟩⟩

/-- Two sources of vector registers, without a generator. -/
theorem test_hyp_accumulatorInstructions : (∀ i ∈ [instr 0x10 [(7, 54), (1, 45)], instr 0x11, instr 0x12, instr 0x14 [(29, 35)],
      instr 0x13 [(1, 45)], instr 0x1E [(15, 30)]], (eng i).issues 103 i ∧
        (teSources i).all (fun p => decide (p.1 < 8)) = true ∧
        (eng i).agUpdates 103 (teSources i ++ (teDest i).toList.map fun d => (d, Iw.ud i)) = some []) ∧
    unpoisoned [(eng 0).vreg 103 7, (eng 0).vreg 103 0] := by decide +kernel

theorem test_hyp_teSta : (∀ i ∈ [instr 0x15 [(7, 46), (2, 40)], instr 0x15 [(13, 46)], instr 0x15 [(8, 46)],
      instr 0x15 [(11, 46), (1, 42)], instr 0x15 [(11, 46), (1, 42), (1, 40)]], (eng i).issues 103 i) ∧
    (let s := put [(Pg.engine 103, Te.AG_STRIDE, 1, 3)] (eng 0);
      s.agNext 103 3 2047 = some 0 ∧ s.agNext 103 3 0 = some 1 ∧ (s.teRd 103 Te.AG_BASE 3 + 1) % 2048 ≠ s.agAddr 103 3) ∧
    (put [(Pg.engine 103, Te.AG_LEN, 1, 3)] (eng 0)).agNext 103 3 1 = none := by decide +kernel

theorem test_hyp_laneInstructions : ∀ i ∈ [instr 0x16, instr 0x17, instr 0x18, instr 0x19, instr 0x1A, instr 0x1B [(13, 46)],
    instr 0x1C, instr 0x1D, instr 0x1F [(7, 54)]], (eng i).issues 103 i ∧
      (teSources i).all (fun p => decide (p.1 < 8)) = true ∧
      (eng i).agUpdates 103 (teSources i ++ (teDest i).toList.map fun d => (d, Iw.ud i)) = some [] := by decide +kernel

/-- Region 0's live context attaches FIFO 1 of logical engine 95 by entries of types 3 and 4. -/
def attached (s : State := locked 0) : State :=
  put [(Pg.region 0, Rgn.TYPE, 3, 16), (Pg.region 0, Rgn.INST, 95 + 128, 16), (Pg.region 0, Rgn.TYPE, 4, 17),
    (Pg.region 0, Rgn.INST, 95 + 128, 17), (Pg.region 0, Rgn.LIVE_CTX, 1, 0)] (region 0 { live := true } s)

theorem test_hyp_engineFifosAndMemories : (attached.fifoAttached 0 3 95 1 = true ∧ attached.fifoAttached 0 4 95 1 = true ∧
      attached.hostEngine 95 = some 102 ∧ attached.isOn (En.engine 102) = true ∧ attached.fifoFull 102 1 = false ∧
      attached.fifoAttached 0 3 95 0 = false) ∧
    (let s := { attached with tes := [(102, { fifos := [(1, { words := List.replicate 32 ⟨0, 0, false, 0⟩ }), (3, { words := [⟨0, 4, true, 0⟩] })] })] };
      s.fifoFull 102 1 = true ∧ ((s.te 102).fifo 3).words = [⟨0, 4, true, 0⟩]) ∧
    (State.reset.grants 0 (Pg.engine 102) ∧ State.reset.teBusy 103 = false ∧ State.reset.teCore 103 = false ∧ (eng 0).teCore 103 = true ∧
      (put [(Pg.engine 103, Te.SCRUB_EN, 1, 0)] (eng 0)).teRd 103 Te.SCRUB_EN = 1) ∧
    (laneDecode 0 = (.clean, 0, 0) ∧ laneDecode lanePoison = (.poison, 0, 63)) ∧
    (let s := put [(Pg.engine 91, Te.ESTATE, Es.failed, 0)] (locked 0);
      s.quietPoint = true ∧ s.estate 91 = Es.failed ∧ (s.te 91).moving = false ∧ s.blk (En.engine 91) ≠ St.retired ∧ s.blk (En.engine 91) ≠ St.spare ∧
        s.rowSpare 91 = some 103 ∧ s.rowSpare 103 = none) ∧
    (let s := put [(Pg.engine 91, Te.ESTATE, Es.failed, 0)] { State.reset with tes := [(91, { moving := true })] };
      (s.te 91).moving = true ∧ s.rowSpare 91 = some 103) := by decide +kernel

/-! ### Packers and shallots -/

/-- Region 39 runs, its live context 1 holds port type ty, and its packer is p. -/
def porter (ty : Nat) (p : Packer := {}) (s : State := locked 0) : State :=
  { put [(Pg.region 39, Rgn.TYPE, ty, 16), (Pg.region 39, Rgn.INST, 11, 16), (Pg.region 39, Rgn.LIVE_CTX, 1, 0)]
      (region 39 { live := true } s) with packers := [(39, p)] }

/-- A descriptor of mode m, n source words from word a, for address 0. -/
def descr (m n : Nat) (a : Nat := 0) : Desc := ⟨m * 2 ^ 48 + a * 2 ^ 96 + n * 2 ^ 128, 0, 0⟩

/-- The network's clock is open. -/
def net (s : State) : State := put [(Pg.clocks, Clk.OPEN, 1, 156)] s

theorem test_hyp_packers_start : State.reset.rbPort 39 = false ∧ (porter 8).rbPort 39 = true ∧
    ((porter 8).pk 39).queue.length < 64 ∧
    64 ≤ ((porter 8 { queue := List.replicate 64 (descr 0 1) }).pk 39).queue.length ∧
    ((porter 8).pk 39).queue = [] ∧
    ((porter 8 { queue := [descr 5 1] }).regionRuns 39 = true ∧ (porter 8 { queue := [descr 5 1] }).isOn (En.slab 39) = true ∧
      ((porter 8 { queue := [descr 5 1] }).pk 39).queue = [descr 5 1] ∧ ((porter 8).pk 39).work = none ∧
      ((porter 8).pk 39).banks.length < 2) ∧
    (porter 8).descWhy 39 (descr 6 1).d = some 3 ∧ (porter 8).descWhy 39 (descr 0 8193).d = some 2 ∧
    (porter 8).descWhy 39 (descr 0 0).d = some 3 ∧ (porter 8).descWhy 39 (descr 5 1).d = none := by decide +kernel

theorem test_hyp_packers_coding : (porter 8).sourceReads 39 (descr 5 1).d 1 [0] ∧
    (payloadOf 5 0 0 false [0]).length ≤ 1 ∧ 1 < (payloadOf 5 0 0 false [0x123456789ABCDEF0]).length ∧
    (let s := { porter 8 with rb := [(rbKey 39 1, poisonWord)] };
      s.sourceReads 39 (descr 0 2).d 1 [0] ∧ s.sourceWord 39 (Dc.src (descr 0 2).d) 1 = 1 ∧
      (wordDecode (mget {} s.rb (rbKey 39 1))).1 = .poison) := by decide +kernel

theorem test_hyp_packers_end : (porter 8).regionRuns 39 = true ∧
    ((porter 8 { work := some ⟨[0, 0, 0], descr 0 1, 0⟩ }).pk 39).work = some ⟨[0, 0, 0], descr 0 1, 0⟩ ∧
    (let s := net (porter 8 { banks := [⟨[0, 0, 0, 0], descr 0 1, 0⟩] });
      s.regionRuns 39 = true ∧ s.netRuns = true ∧ (s.pk 39).banks = [⟨[0, 0, 0, 0], descr 0 1, 0⟩] ∧
      s.injectWhy (eventPacket ⟨0, 0, 0⟩ (regionPlace 39 2) 0 [0, 0, 0, 0]) = .sent) ∧
    (let s := put [(Pg.network, Net.GT_EN, 1, 0), (0, Wbe.PROFILE, Prof.latency, En.packer 39)] (net (porter 8));
      s.injectWhy { eventPacket ⟨0, 0, 0⟩ (regionPlace 39 2) 0 [0, 0, 0, 0] with vc := 0 } = .noSlot) := by decide +kernel

/-- Shallot 11 is enabled, its banks were filled, and it holds x. -/
def shal (x : Shallot := {}) (s : State := locked 0) : State :=
  { put [(Pg.shallot 11, Hdr.EN, 1, 0), (Pg.shallot 11, Shl.ACT_VALID, 1, 0)] s with
    shallots := [(11, x)], tp := { s.tp with everLocked := true } }

theorem test_hyp_shallotMatching_hits : State.reset.shAttached (portRegion 11 0) 5 11 = false ∧
    (let r := portRegion 11 7;
     let s := { put [(Pg.region r, Rgn.TYPE, 5, 16), (Pg.region r, Rgn.INST, 11, 16), (Pg.region r, Rgn.LIVE_CTX, 1, 0)]
        (region r { live := true } shal) with shallots := [(11, {})] };
      s.shAttached r 5 11 = true ∧ s.isOn (En.shallot 11) = true ∧ s.shBusy 11 = false ∧ 0 < s.hitLimit 11 ∧
      s.hitLimit 11 ≤ 64 ∧ (put [(Pg.shallot 11, Hdr.EN, 0, 0)] s).shBusy 11 = true) := by decide +kernel

/-- A set of the bucket before, matched without a road. -/
def roadSet (t n : Nat) (stream : Bool) : RoadSet := ⟨{ t64 := t, bucket := 0 }, n, List.replicate n ⟨262143, 255⟩, 0, false, stream, false, []⟩

theorem test_hyp_shallotMatching_roads : ((shal).timed = true ∧ (shal).isOn (En.shallot 11) = true ∧
      (shal).flag (Pg.shallot 11) Hdr.EN = true ∧ (shal).time64 ≠ 0 ∧ ((shal).sh 11).closed = none ∧
      ∀ r ∈ ((shal).sh 11).results, r.set.t64 + 1 ≠ (shal).time64) ∧
    (((shal { sets := [{ t64 := 999, bucket := 4544 }] }).sh 11).sets.find? fun y => y.t64 + 1 = (shal).time64).isSome = true ∧
    ((shal { closed := some { t64 := 999, bucket := 4544 } }).sh 11).closed = some { t64 := 999, bucket := 4544 } ∧
    ((State.reset.sh 11).closed = none ∧ mwf 0 (shal).arows = true ∧ State.reset.timed = false) ∧
    (let s := shal { results := [roadSet 997 3 false] }; ((s.sh 11).results.find? fun r => !r.stream && r.set.t64 + s.roadDelay 11 = s.time64) =
      some (roadSet 997 3 false) ∧ ∀ r ∈ (s.sh 11).results, r.stream = false) ∧
    (let s := shal { results := [roadSet 997 3 true], progress := [(7, (997, 3))] };
      (s.sh 11).results = [roadSet 997 3 true] ∧ 997 + s.roadDelay 11 ≤ s.time64 ∧
      mget (0, 0) (s.sh 11).progress 7 = (997, 3) ∧ 3 ≤ (roadSet 997 3 true).roads.length) := by decide +kernel

theorem test_hyp_shallotBanks : State.reset.grants 0 (Pg.shallot 11) ∧
    (0x7FFFF8#23).toNat % 8 = 0 ∧ (0x7FFFFC#23).toNat % 8 = 4 ∧ (0x7FFFFD#23).toNat % 4 ≠ 0 ∧
    ((shal).shRd 11 Shl.WIN_BANK = 0 ∧ (shal).bank 11 0 = Bank.empty ∧ (shal).shRd 11 Shl.FILL_PEND = 0) ∧
    (let s := put [(Pg.shallot 11, Shl.BANK0_STATE, Bank.active, 0)] (shal { lost := [(0, 262143, 15)] });
      s.bank 11 0 = Bank.active ∧ s.isLost 11 0 262142 = false ∧ (s.sh 11).lost = [(0, 262143, 15)] ∧
      s.shRd 11 Shl.ACT_BANK = 0 ∧ s.shRd 11 Shl.ACT_VALID = 1 ∧ s.isOn (En.shallot 11) = true) ∧
    ((shal { half := some (2 ^ 20 - 1, 5) }).sh 11).half = some (2 ^ 20 - 1, 5) ∧
    (put [(Pg.shallot 11, Shl.BANK1_STATE, Bank.verified, 0)] (shal)).bank 11 1 = Bank.verified ∧
    (put [(Pg.shallot 11, Shl.FILL_PEND, 1, 0)] (shal)).shRd 11 Shl.FILL_PEND = 1 ∧
    ((shal { verify := some 1 }).sh 11).verify = some 1 ∧
    (let s := put [(Pg.shallot 11, Shl.FILL_PEND, 1, 0)] (shal { fillBank := 1 }); (s.sh 11).fillBank = 1 ∧ s.quietPoint = true ∧
      s.bucketSince (s.sh 11).fillSince = true ∧ (shal { fillSince := (shal).stamp }).bucketSince (shal).stamp = false) ∧
    (let s := shal { fillBank := 1, auto := true }; s.timed = true ∧ (s.sh 11).auto = true ∧ (region 0).tp.started = true) ∧
    (let s := put [(Pg.shallot 11, Shl.SCRUB_EN, 1, 0)] (shal { scrub := [(3, 65535)], diffs := [(262143, 1, 2)] });
      s.shRd 11 Shl.SCRUB_EN = 1 ∧ mget 0 (s.sh 11).scrub 3 = 65535 ∧ s.isLost 11 0 262143 = false ∧
      ({ s with arows := [(arowKey 11 262143, 1)] } : State).arows ≠ [] ∧
      mget 0 ({ s with arows := [(arowKey 11 262143, 1)] } : State).arows (arowKey 11 262143) ^^^ 0 = 1 ∧ s.repairs = []) := by
  decide +kernel

theorem test_hyp_shallotVerifies :
    (let s := put [(Pg.shallot 11, Shl.FILL_PEND, 1, 0), (Pg.shallot 11, Shl.BANK0_STATE, Bank.verified, 0)] (shal {});
      s.shRd 11 Shl.FILL_PEND = 1 ∧ (s.sh 11).fillBank = 0 ∧ s.shRd 11 Shl.WIN_BANK = 0 ∧ s.bank 11 0 = Bank.verified) ∧
    ((shal).bank 11 0 ≠ Bank.verifying ∧ (shal).bank 11 0 ≠ Bank.active ∧ ((shal).sh 11).half = none) ∧
    ((shal { verify := some 0, auto := true }).isOn (En.shallot 11) = true ∧
      ((shal { verify := some 0, auto := true }).sh 11).verify = some 0 ∧
      ((shal { verify := some 1, auto := true }).sh 11).auto = true ∧
      (shal { verify := some 1, auto := true }).bank 11 0 = Bank.empty ∧
      (put [(Pg.shallot 11, Shl.BANK0_STATE, Bank.writing, 0)] (shal { verify := some 1, auto := true })).bank 11 0 =
        Bank.writing) := by decide +kernel

/-- Of an empty bank every pattern has the row 0, and every word reads clean. -/
theorem test_hyp_shallotBanks_record (b n : Nat) : (shal { filling := true }).record 11 b n 0 ∧
    (wordDecode (mget {} (shal { verify := some 1 }).gold (goldKey 11 b 0 0 + n))).1 = .clean :=
  have h : wordDecode {} = (.clean, 0) := by decide +kernel
  ⟨⟨rfl, 0, 0, 0, h, h, h, rfl⟩, congrArg Prod.fst h⟩

/-! ### Memory -/

/-- Channel 7 is trained with two ranks, and holds x. -/
def chan7 (x : Chn := {}) (s : State := locked 0) : State :=
  { put [(Pg.ddr 7, Ddr.TRAINED, 1, 0), (Pg.ddr 7, Ddr.DEV_CFG_RANKS, 2, 0), (Pg.ddr 7, Ddr.PATROL_EN, 1, 0),
      (Pg.ddr 7, Ddr.EVR_EN, 1, 3), (Pg.ddr 7, Ddr.EVR_LINES, 4, 3)] (plls s) with chns := [(7, x)] }

theorem test_hyp_stores_region : State.reset.rbPort 39 = false ∧ ((porter 8).rbPort 39 = true ∧ (porter 8).isOn (En.slab 39) = true ∧
      ((porter 8).setDom 79 { level := 0 }).isOn (En.slab 39) = false) ∧ rbLines ≤ 0xFFFFE ∧ rbLines - 1 < rbLines ∧
    (∀ j, j < 8 → wordDecode (mget {} (porter 8).rb (rbKey 39 (8 * (rbLines - 1) + j))) = (.clean, 0)) := by decide +kernel

theorem test_hyp_stores_walks : State.reset.slabScrubs 39 = true ∧
    ((put [(Pg.slab 39, Slab.SCRUB_EN, 0, 0)]).slabScrubs 39 = false ∧
      (put [(Pg.slab 39, Slab.SCRUB_EN, 0, 0)]).slabKeeps 39 = true ∧
      (State.reset.setDom 79 { level := 0 }).slabKeeps 39 = false) := by decide +kernel

theorem test_hyp_stores_rows : (locked 0).moveTurn (.regionBuffer 39) 0 = false ∧
    (let s := { locked 0 with moves := [(Store.ddr 7, 0), (Store.regionBuffer 39, 0), (Store.regionBuffer 39, 1)] };
      s.moveTurn (.regionBuffer 39) 0 = true ∧ s.moveTurn (.regionBuffer 39) 1 = false ∧
      (s.moves.filter fun m => storeEntry m.1 = storeEntry (.regionBuffer 39)).head? = some (.regionBuffer 39, 0) ∧ s.sparesUsed (.regionBuffer 39) < s.storeSpares (.regionBuffer 39) ∧
      mwf ({} : EWord) s.rb = true) ∧
    (let s := { locked 0 with moves := [(Store.ddr 7, 0)] };
      (s.moves.filter fun m => storeEntry m.1 = storeEntry (.ddr 7)).head? = some (.ddr 7, 0) ∧ s.storeSpares (.ddr 7) ≤ s.sparesUsed (.ddr 7)) ∧
    (State.reset.hotTable (.ddr 7))[0]? = none ∧ State.reset.isOn (En.plane 39) = true ∧
    mget 0 ({ State.reset with wk := { tiles := [(tileKey 39 327679 9, 1)] } } : State).wk.tiles (tileKey 39 327679 9) ≠ 0 := by
  decide +kernel

theorem test_hyp_ddrChannels : State.reset.mayTrain 7 = false ∧
    (put [(Pg.ddr 7, Hdr.EN, 1, 0), (Pg.ddr 7, Ddr.TRAINED, 0, 0)] (chan7)).mayTrain 7 = true ∧ (chan7 { training := true }).ch 7 = { training := true } ∧
    ((chan7).ch 7).training = false ∧ State.reset.refreshes 7 1 = false ∧
    ((chan7).refreshes 7 1 = true ∧ (chan7).debt 7 1 = 0 ∧ (chan7).inLayby = false ∧
      (put [(Pg.ddr 7, debtRow 1, 8, 0)] (chan7)).debt 7 1 = 8) ∧
    ((chan7).patrolSlot 7 = true ∧ (chan7).ddrRd 7 Ddr.PATROL_EN = 1 ∧ (chan7 { training := true }).ddrClock 7 = true ∧
      State.reset.ddrClock 7 = false) ∧
    ((chan7).trained 7 = true ∧ (chan7).isOn (En.ddr 7) = true ∧ (chan7).ddrRd 7 Ddr.SELF_REFRESH = 0 ∧
      State.reset.trained 7 = false) ∧
    (let s := chan7 { rings := [(3, [[(1, false)]])] };
      s.ringWaiting 7 3 = [[(1, false)]] ∧ s.ddrRd 7 Ddr.EVR_EN 3 = 1 ∧ s.ringRoom 7 3 1 = true ∧
      s.ringRoom 7 3 4 = false) ∧
    (State.reset.ringWaiting 7 3 = [] ∧ State.reset.grants 0 (Pg.ddr 7) ∧ State.reset.ddrRd 7 Ddr.EVR_EN 3 = 0 ∧
      (chan7).ddrUsable 7 ≠ 0) := by decide +kernel

/-! ### The network -/

/-- A REQ of OP op from place f to place d. -/
def req (op : Nat) (d : Place) (f : Place := pciePlace) : Packet := ⟨Nw.req, 1, headerOf op d f 5, []⟩

/-- A DAT packet of one line of zeros. -/
def dat (op : Nat) (d : Place) (f : Place := pciePlace) (addr : Nat := 0) (vc : Nat := 1) : Packet :=
  ⟨Nw.dat, vc, datHeader op d f 5 1 false addr 1, [flitOf (List.replicate 8 (0, false))]⟩

/-- An answer or a snoop. -/
def ans (n op : Nat) (d : Place) (f : Place := regionPlace 38 1) : Packet := ⟨n, 1, headerOf op d f 5, []⟩

/-- A packet that runs and may be sent lands at once. -/
theorem test_hyp_lands (s : State) (op : Nat) (p : Packet) (h : Hd.op p.h = op ∧ s.netRuns = true ∧ s.flying p = none ∧
    s.injectWhy p = .sent ∧ s.flowBusy (sourceOf p.h) (s.onFlow p) = false) : s.lands s op p (s.onFlow p) :=
  ⟨h.1, h.2.1, .inr ⟨h.2.2.1, h.2.2.2.1, rfl, h.2.2.2.2, rfl⟩⟩

/-- The packets sent below land in this state. -/
def net7 (m : Mesh := {}) : State := net { porter 7 with mesh := m }

theorem test_hyp_packets : ∀ p ∈ [req 0 (regionPlace 39 1), req 1 (homePlace 39) (regionPlace 38 1), req 2 (homePlace 107) (regionPlace 38 1),
      req 0 ⟨11, 7, 0⟩, req 2 pciePlace, dat 0 (regionPlace 39 1), dat 0 ⟨11, 7, 0⟩, dat 0 (homePlace 39), dat 0 pciePlace,
      dat 1 (regionPlace 39 1), dat 1 pciePlace (regionPlace 38 1), ans Nw.rsp 0 pciePlace, ans Nw.rsp 1 (regionPlace 39 1), ans Nw.snp 0 (regionPlace 39 1),
      ans Nw.snp 1 (homePlace 39), dat 2 (homePlace 107) (regionPlace 38 2), dat 2 ⟨11, 0, 5⟩ (regionPlace 38 2), dat 2 pciePlace (regionPlace 38 2)],
    (net7).netRuns = true ∧ (net7).flying p = none ∧ (net7).injectWhy p = .sent ∧ (net7).flowBusy (sourceOf p.h) ((net7).onFlow p) = false ∧ ((net7).onFlow p).vc = 1 ∧ goodFlits p.flits := by
  decide +kernel

/-- Two READs of one flow are on their way, tags 5 and 6; one with tag 7 would come behind them. -/
theorem test_hyp_flight : let p := req 0 (regionPlace 39 1)
    let p6 := { p with h := headerOf 0 (regionPlace 39 1) pciePlace 6 }
    let p7 := { p with h := headerOf 0 (regionPlace 39 1) pciePlace 7 }
    let s := net7 { flight := [⟨0, pciePlace, p, [⟨8, 7⟩]⟩, ⟨1, pciePlace, p6, [⟨0, 8⟩]⟩] }
    s.netRuns = true ∧ s.flying p = some ⟨0, pciePlace, p, [⟨8, 7⟩]⟩ ∧
      s.mesh.flight.find? (sameFlow pciePlace p) = some ⟨0, pciePlace, p, [⟨8, 7⟩]⟩ ∧
      s.flying p6 = some ⟨1, pciePlace, p6, [⟨0, 8⟩]⟩ ∧ Hd.op p7.h = 0 ∧ s.flying p7 = none ∧ s.injectWhy p7 = .sent ∧
      s.flowBusy (sourceOf p7.h) (s.onFlow p7) = true := by decide +kernel

theorem test_hyp_requests_ends : State.reset.netRuns = false ∧ (net7).injectWhy (req 0 ⟨12, 0, 0⟩) = .noRoute ∧
    (net7).endpointWhy (regionPlace 38 1) = some 5 ∧ (net7).endpointWhy (regionPlace 39 1) = none ∧
    unitAt (regionPlace 39 1) = some (.port 39) ∧ unitAt pciePlace = some .pcie ∧ (net7).endpointWhy pciePlace = none ∧
    unitAt ⟨11, 7, 0⟩ = some (.engine 95) ∧ (net7).endpointWhy ⟨11, 7, 0⟩ = none ∧ (net7).hostEngine 95 = some 102 ∧
    mget 0 ((net7).np 39).used 5 < 4 ∧ mget 0 ({ used := [(5, 4)] } : NetPort).used 5 = 4 := by decide +kernel

theorem test_hyp_requests_memory : unitAt (homePlace 39) = some (.slab 39) ∧ memKey (.slab 39) = some 39 ∧
    (net7).memWhy 39 (rbLines - 1) 1 = none ∧ (net7).memWhy 39 rbLines 1 = some 2 ∧
    Hd.reqLen (req 1 (homePlace 39)).h = 1 ∧ Hd.reqAddr (req 1 (homePlace 39)).h = 0 ∧
    sharerOf (req 1 (homePlace 39) (regionPlace 38 1)).h = some 38 ∧ sharerOf (req 1 (homePlace 39)).h = none ∧
    (∀ j, j < 8 → wordDecode ((net7).word 39 j) = (.clean, 0)) ∧
    ((net7).home 39).dir = [] ∧
    ((net7 { homes := [(39, { dir := [⟨0, 2 ^ 38⟩] })] }).home 39).dir = [⟨0, 2 ^ 38⟩] ∧ sharersOf (2 ^ 38) = [38] ∧
    256 ≤ ((net7 { homes := [(39, { dir := List.replicate 256 ⟨1, 1⟩ })] }).home 39).dir.length ∧
    Hd.wmask (dat 0 (homePlace 39)).h % 2 ^ 8 ≠ 0 ∧ Hd.addr (dat 0 (homePlace 39) pciePlace 8).h % 64 ≠ 0 := by decide +kernel

theorem test_hyp_requests_engine : (∀ j, j < 16 → laneDecode (mget 0 (net7).dm (dmKey 102 ((4 * j) / 128) ((4 * j) % 128 / 4))) = (.clean, 0, 0)) ∧
    0x40000 < 0x40000 - 64 + 64 * 2 ∧ Hd.reqAddr ((req 0 ⟨11, 7, 0⟩).h + 15 * 2 ^ 36 + 0x3FC00 * 2 ^ 40) = 0x3FC00 ∧
    Hd.reqLen ((req 0 ⟨11, 7, 0⟩).h + 15 * 2 ^ 36) = 16 := by decide +kernel

/-- One user access waits for tag 5. -/
def asked (wr : Bool) : State := { net7 with usr := { (net7).usr with reqs := [⟨5, 39, wr⟩] } }

theorem test_hyp_answersAndLinks_answers : (net7).portAt (regionPlace 39 1) = some 39 ∧ Hd.tag (ans Nw.rsp 1 (regionPlace 39 1)).h = 5 ∧
    5 ∈ ((net7 { ports := [(39, { late := [5] })] }).np 39).late ∧ 5 ∉ ((net7).np 39).late ∧
    (asked false).usr.reqs.find? (fun r => r.tag = 5) = some ⟨5, 39, false⟩ ∧
    (asked true).usr.reqs.find? (fun r => r.tag = 5) = some ⟨5, 39, true⟩ ∧ (net7).usr.reqs = [] ∧
    Hd.code (ans Nw.rsp 0 pciePlace).h = 0 ∧ (net7).portAt pciePlace = none ∧ (net7).portAt (homePlace 39) = none ∧
    regionAt (Hd.sx (ans Nw.snp 1 (homePlace 39)).h) (Hd.sy (ans Nw.snp 1 (homePlace 39)).h) = some 38 ∧
    Hd.line (ans Nw.snp 1 (homePlace 39)).h = 5 ∧ ([(5, 38), (5, 39)] : List (Nat × Nat)).erase (5, 38) ≠ [] ∧
    ((net7 { homes := [(39, { waits := [⟨[(5, 38)], req 0 pciePlace⟩] })] }).home 39).waits = [⟨[(5, 38)], req 0 pciePlace⟩] := by
  decide +kernel

theorem test_hyp_answersAndLinks_events : unitAt (homePlace 107) = some (.ddr 7) ∧ unitAt ⟨11, 0, 5⟩ = some (.tx 11) ∧
    (net7).endpointWhy ⟨11, 0, 5⟩ = none ∧ unitAt ⟨0, 0, 7⟩ = none ∧
    (let s := net (chan7); s.blk (En.ddr 7) ≠ St.retired ∧ s.ddrRd 7 Ddr.EVR_EN 3 = 1 ∧ s.trained 7 = true ∧ s.ringRoom 7 3 1 = true) ∧
    ((net7).txRd 11 Tx.H_SRC 0 = 0 ∧ (halfOf ((net7).txg 11) 1).fifo = [] ∧ (halfOf ((net7).txg 11) 1).wait = [] ∧
      (net7).isOn (En.tx 11) = true) ∧
    (put [(Pg.tx 11, Tx.H_SRC, 1, 1), (Pg.tx 11, Tx.H_EN, 1, 1)] (net7)).txRd 11 Tx.H_EN 1 = 1 ∧ (net7).linkTakes = false ∧
    (let s := put [(Pg.pcie, Pcie.LINK_SPEED, 5, 0), (Pg.pcie, Pcie.R_EN, 1, 0)] (net7);
      s.linkTakes = true ∧ s.peRd Pcie.R_EN (s.ringSel 38) = 1 ∧ s.hostRoom 0 64 = true) := by decide +kernel

theorem test_hyp_answersAndLinks_links : (net7).rd Pg.network Net.SNP_TMO ≠ 0 ∧ (net7).netRuns = true ∧
    (let l := 11 + 7 * 2 ^ 4 + 4 * 2 ^ 7 + 3 * 2 ^ 10;
      ((State.reset.us :: mget [] (net7 { replays := [(l, List.replicate 16 0)] }).mesh.replays l).take 17).length = 17 ∧
      l ∈ (net7 { tests := [l] }).mesh.tests ∧ l ∉ (net7).mesh.tests) ∧
    (let r : Repair := ⟨En.network, 6, false, false, 0, 0⟩; 2 ≤ [r, r].length) ∧
    (State.reset.grants 0 Pg.network ∧ State.reset.rd Pg.network Net.ACT_TBL = 0) ∧
    (let s := put [(Pg.network, Net.TBL_PEND, 1, 0)] (net7); s.rd Pg.network Net.TBL_PEND = 1 ∧ s.quietPoint = true ∧
      s.mesh.commitAt < s.time64 ∧ s.netRuns = true) := by decide +kernel

theorem test_hyp_answersAndLinks_ports : (net7).regionRuns 39 = true ∧ (net7).netPort 39 = true ∧ (net7).netRuns = true ∧
    mget 0 ((net7).np 39).sent 15 < 4 ∧ 4 ≤ mget 0 ((net7 { ports := [(39, { sent := [(15, 4)] })] }).np 39).sent 15 ∧
    mget [] ((net7 { ports := [(39, { parts := [(3, [⟨Nw.dat, 3, true, false, false, 0⟩])] })] }).np 39).parts 3 =
      [⟨Nw.dat, 3, true, false, false, 0⟩] ∧
    (put [(Pg.network, Net.REQ_TMO, 1, 0)] (net7)).rd Pg.network Net.REQ_TMO ≠ 0 ∧ 255 ∈ ((net7 { ports := [(39, { asked := [255] })] }).np 39).asked := by decide +kernel

/-- A READ from the PCIe block to the far corner stands at its first router since edge 0; the next edge is edge e. -/
def corner (e : Nat) (vc : Nat := 1) : State :=
  net7 { flight := [⟨0, pciePlace, { req 0 (regionPlace 39 1) with vc := vc }, [⟨0, 0⟩]⟩], edge := e, offered := 1 }

theorem test_hyp_routers : let w : Worm := ⟨0, pciePlace, req 0 (regionPlace 39 1), [⟨0, 0⟩]⟩
    (corner 2).mesh.flight = [w] ∧ (corner 2).netRuns = true ∧ 0 < w.links ∧
    mget 0 (corner 2).mesh.busy (Lead.mk w 0 ⟨0, 0⟩).outputKey ≤ 2 ∧ w.src.x < 12 ∧ Hd.dx w.p.h < 12 ∧ w.src.y < 8 ∧
    (corner 2).endpointRoom w.p = true ∧ (corner 2).choose [⟨w, 0, ⟨0, 0⟩⟩] = some ⟨w, 0, ⟨0, 0⟩⟩ ∧
    ((corner 2).mesh.flight.map Worm.id).Nodup ∧
    (put [(Pg.network, Net.GT_EN, 1, 0)] (corner 2 0)).flag Pg.network Net.GT_EN = true ∧
    (let s := put [(Pg.network, Net.GT_EN, 1, 0)] { corner 2 0 with tp := { (corner 2).tp with everLocked := true } }
     let l : Lead := ⟨{ w with p := { w.p with vc := 0 } }, 0, ⟨0, 0⟩⟩
     let s := put [(Pg.pll 7, Pll.MULT, 30, 0)] { s with mesh := { s.mesh with
       slots := [(slotKey (s.rd Pg.network Net.ACT_TBL) l.router.1 l.router.2 0 l.output 0, l.input)] } }
     s.slotNames l = true) := by decide +kernel

/-! ### Lanes -/

/-- Transmit group 11 runs in a started device, and holds x; region 39's port 1 feeds its half 1. -/
def lanes (x : TxGroup := { quiet := false }) : State :=
  { put [(Pg.tx 11, Hdr.EN, 1, 0), (Pg.tx 11, Tx.H_EN, 1, 1), (Pg.tx 11, Tx.H_REGION, 39, 1), (Pg.tx 11, Tx.H_PORT, 1, 1),
      (Pg.clocks, Clk.OPEN, 1, 168), (Pg.region 39, Rgn.INST, 1, 16)] (porter 2) with txs := [(11, x)] }

theorem test_hyp_transmitting : State.reset.grants 0 (Pg.tx 11) ∧
    ((lanes).halfFor 39 1 = some (11, 1) ∧ (11, 1) ≠ ((0, 0) : Nat × Nat) ∧ State.reset.halfFor 39 1 = none) ∧
    ((lanes).regionRuns 39 = true ∧ (lanes).livePortAt 39 2 1 = true ∧ (lanes).txReady 11 1 = true ∧
      (lanes { quiet := true }).txReady 11 1 = false) ∧
    (State.reset.txIdle 11 = true ∧ (lanes).txIdle 11 = false ∧ ((lanes).txg 11).old = none) ∧
    (logicalAt ((lanes).txRd 11 Tx.PARK) 8 = 8 ∧ logicalAt ((lanes).txRd 11 Tx.PARK) 7 = 7 ∧
      (lanes).halfSends 11 1 = true ∧ (lanes).halfSends 11 0 = false ∧ laneCells ((lanes).txg 11) 7 = [] ∧
      laneCells ((lanes { quiet := false, halves := [(1, { fifo := [⟨3, 0, false, false, 0, 0⟩] })] }).txg 11) 7 =
        [⟨3, 0, false, false, 0, 0⟩]) ∧
    ((lanes).quietPoint = true ∧ (lanes).isOn (En.tx 11) = true ∧
      (put [(Pg.tx 11, Tx.PARK_PEND, 1, 0)] (lanes)).txRd 11 Tx.PARK_PEND = 1 ∧
      (let s := put [(Pg.tx 11, Tx.ROLL_EN, 1, 0), (Pg.tx 11, Tx.ROLL_TURNS, 2, 0)] (lanes { turns := 2 });
        s.txRd 11 Tx.PARK_PEND = 0 ∧ s.txRd 11 Tx.ROLL_EN = 1 ∧ s.txRd 11 Tx.PARK_FIX = 0 ∧
        max 1 (s.txRd 11 Tx.ROLL_TURNS) ≤ (s.txg 11).turns)) := by decide +kernel

/-- Receive group 11 is enabled and its lanes are in state st; it holds x. -/
def hears (st : Nat) (x : RxGroup := {}) : State :=
  { put ([(Pg.rx 11, Hdr.EN, 1, 0), (Pg.rx 11, Rx.RATE_OK, 1, 0), (Pg.rx 11, Rx.H0_UP, 1, 0), (Pg.rx 11, Rx.H1_UP, 1, 0)] ++
      (List.range 9).map fun p => (Pg.rx 11, Rx.LSTATE, st, p)) (porter 1) with rxs := [(11, x)] }

/-- Cell 5 of logical lane 7, and an empty one, as lane 8 sends it. -/
def cell5 : Nat := cellOf 5 0 false true false 7 0
def sent5 : List Bool := (stuff 0 (List.zipWith (fun a b => a != b) (bitsList cell5 512) (scrambler 8))).1

theorem test_hyp_receiving_lanes : State.reset.isOn (En.rx 11) = true ∧ ((hears 0).setDom 259 { level := 0 }).isOn (En.rx 11) = false ∧
    ((hears 1).flag (Pg.rx 11) Hdr.EN = true ∧ (hears 1).rxRd 11 Rx.RATE_OK = 1 ∧ (hears 1).rxRd 11 Rx.LSTATE 8 = 1 ∧
      (hears 2).rxRd 11 Rx.LSTATE 8 = 2 ∧ State.reset.rxRd 11 Rx.RATE_OK ≠ 1) ∧
    (hears 3).rxLook 11 = hears 3 ∧ (hears 2).rxLook 11 = hears 2 ∧ (hears 1).rxLook 11 = hears 1 ∧
    (rxLaneOf ((hears 2 { lanes := [(8, { good := 7 })] }).rxg 11) 8).good = 7 ∧
    (rxLaneOf ((hears 3 { lanes := [(8, { bad := 7 })] }).rxg 11) 8).bad = 7 ∧ Cell.good 0 = false := by decide +kernel

theorem test_hyp_receiving_cell : (let u := unstuff 0 sent5;
      let c := natOf (List.zipWith (fun a b => a != b) u.1 (scrambler 8));
      u.1.length = 512 ∧ c = cell5 ∧ Cell.good c = true ∧ Cell.lane c = 7 ∧ Cell.idle c = false ∧ Cell.seq c = 5) := by
  decide +kernel

theorem test_hyp_receiving_queue : (let s := put [(Pg.rx 11, Rx.LOGICAL, 7, 8)] (hears 3 { logicals := [(7, { started := true, expect := 5, shown := 5 })] });
      let r := rxLogicalOf (s.rxg 11) 7;
      s.rxRd 11 Rx.H0_UP = 1 ∧ s.rxRd 11 Rx.H1_UP = 1 ∧ s.rxFixed 11 = true ∧ s.rxRd 11 Rx.LOGICAL 8 = 7 ∧ r.started = true ∧
        r.early = [] ∧ r.expect = 5 ∧ r.shown = 5 ∧ s.laneBuffer 11 8 < 64) := by decide +kernel

theorem test_hyp_receiving_release : (let s := put [(Pg.region 39, Rgn.INST, 0, 16)] (hears 3 { logicals := [(7, { newest := 1000, ready := [⟨5, 0, 999, cell5, false, false, some 8⟩] })], slots := [(1, 39 + 128)] });
      s.rxFixed 11 = true ∧ s.rxRd 11 (halfUpRow 1) ≠ 0 ∧ s.rxAlign 11 ≤ s.time64 ∧ bitOf (s.rxg 11).resume 1 = 0 ∧
      (∀ k, k < 4 → ∀ c ∈ (rxLogicalOf (s.rxg 11) (4 + k)).ready, s.time64 - s.rxAlign 11 ≤ c.t64) ∧
      s.destinations 11 1 = [(0, 39, 0)]) ∧
    State.reset.rxFixed 11 = false ∧ ((hears 3).destinations 11 1 = []) := by decide +kernel

theorem test_hyp_receiving_checks : State.reset.grants 0 (Pg.rx 11) ∧
    (let s := put [(Pg.rx 0, Rx.REGION_3, 39, 0), (Pg.rx 0, Rx.DV_3, 1, 0)] (hears 3);
      namedPorts (39 + 128) = [39] ∧ ((List.range 24).filter fun n => n ≠ 2 * 11 + 1).flatMap (fun n => namedPorts (s.slotWord (n / 2) (n % 2))) = [39] ∧
      ∀ x ∈ namedPorts 0, x ∉ [39]) ∧
    (let s := put [(Pg.rx 11, Rx.LF_THR, 1, 0)] (hears 3 { lanes := [(8, { fails := 2 })] });
      s.rxRd 11 Rx.LF_THR ≠ 0 ∧ s.rxRd 11 Rx.LF_THR < (rxLaneOf (s.rxg 11) 8).fails ∧ bitOf (s.rxRd 11 Rx.FAIL_MASK) 8 = 0) ∧
    ((hears 3).rxRd 11 Rx.ES_BUSY = 0 ∧ (put [(Pg.rx 11, Rx.ES_BUSY, 1, 0)] (hears 3)).rxRd 11 Rx.ES_BUSY = 1 ∧
      (hears 3).rxRd 11 Rx.LSTATE 8 = 3 ∧ (hears 3).rxRd 11 Rx.ES_DWELL < 16) := by decide +kernel

/-- A lane is parked while a move waits or asked for beyond lane 8; a scan runs or does not, in a turn without a lay-by,
at any time, in an observed lay-by, and not before one. -/
theorem test_hyp_parkAndScan : (put [(Pg.tx 11, Tx.PARK_PEND, 1, 0)]).txRd 11 Tx.PARK_PEND = 1 ∧
    State.reset.txRd 11 Tx.PARK_PEND ≠ 1 ∧ 8 < (9 : BitVec 4).toNat ∧
    ((0x800000 : Word).getLsb 23 = true ∧ (0 : Word).getLsb 23 = false) ∧
    (let s := put [(Pg.rx 11, Rx.ES_BUSY, 1, 0)] (hears 3);
      s.noLayby = true ∧ s.rxRd 11 Rx.ES_BUSY ≠ 0 ∧ (s.rxg 11).scan.2 < 16 ∧
      (let q : State := { s with tp := { s.tp with layStart := 5, layLen := 2 } };
        q.noLayby = false ∧ q.inLayby = false ∧ q.rxRd 11 Rx.ES_ANYTIME ≠ 1 ∧
        (put [(Pg.timing, Tp.IN_LAYBY, 1, 0)] q).inLayby = true ∧
        (put [(Pg.rx 11, Rx.ES_ANYTIME, 1, 0)] q).rxRd 11 Rx.ES_ANYTIME = 1)) := by decide +kernel

/-! ### Power and thermal -/

/-- Domain d is as x says. -/
def dom (d : Nat) (x : Dom) (s : State := State.reset) : State := s.setDom d x

theorem test_hyp_powerSequences : (State.reset.dom 269).entry = 0 ∧
    (let s := (dom 267 { entry := 1 }).setGate (entryOfDomain 267) { closing := true };
      (s.dom 267).entry = 1 ∧ (s.gate (entryOfDomain 267)).closing = true ∧ (s.gate (entryOfDomain 267)).treeClose = false) ∧
    (∀ d ∈ [0, 39, 40, 79, 80, 119, 120, 223, 236, 247, 248, 259, 260, 267, 268], ((dom d { entry := 4, goal := 0 }).dom d).goal = 0 ∧
      ((dom d { entry := 4, goal := 1 }).dom d).entry = 4 ∧ ((dom d { wake := 1, fromOff := true }).dom d).fromOff = true) ∧
    (State.reset.dom 269).wake = 0 ∧ ((dom 40 { wake := 2, fromOff := true }).clkOk 40 = true) ∧
    (put [(Pg.pll 3, Hdr.EN, 1, 0), (Pg.pll 3, Pll.REF_OK, 1, 0)] (dom 0 { wake := 2, fromOff := true })).clkOk 0 = false ∧
    (let s := dom 80 { level := 0 } (put [(Pg.region 0, Rgn.CSTATE, 2, 0)] (dom 0 { wake := 4, fromOff := true }));
      (s.dom 0).wake = 4 ∧ s.planeReady 0 (s.dom 0).fromOff = false) ∧
    (let s := dom 260 { wake := 4, level := 1, goal := 3 }; s.planeReady 260 (s.dom 260).fromOff = true ∧ (s.dom 260).entry = 0 ∧
      (s.dom 260).kept = none ∧ (s.dom 260).wake < 8) := by decide +kernel

theorem test_hyp_powerSequences_wake : (let s := (locked 0).castVote 0 Ag.hlp 3; (dom 0 { wake := 4, level := 1, goal := 3 } s).asked 0 = 3) := by
  decide +kernel

/-- The cap is on with limit l, and the block draws p tenths of a watt. -/
def capped (l p : Nat) (x : Pw := {}) : State :=
  put [(Pg.power, Pwr.PCAP, 1, 0), (Pg.power, Pwr.P_LIMIT, l, 0), (Pg.power, Pwr.P_TOTAL, p, 0)] { State.reset with pw := x }

theorem test_hyp_powerAndThermal_power : (([] : List (Fin 270 × Nat)).map (·.1)).Nodup ∧ ([((269 : Fin 270), 1)].map (·.1)).Nodup ∧
    State.reset.pwRd Pwr.PCAP = 0 ∧
    (let s := put [(Pg.power, Pwr.SHED_EN, 1, 269)] (capped 1 11); s.pwRd Pwr.PCAP = 1 ∧ s.overLimit = true ∧
      s.pwRd Pwr.SHED_EN 269 = 1 ∧ 269 ∉ s.pw.ceils) ∧
    (let s := put [(Pg.power, Pwr.PCAP_UNMET, 1, 0)] (capped 1 11 { ceils := (List.range 270).reverse });
      s.pwRd Pwr.PCAP_UNMET = 1 ∧ s.overLimit = true ∧ ∀ e : Fin 270, e.val ∈ s.pw.ceils) ∧
    ((capped 1 11).pwRd Pwr.PCAP_UNMET = 0 ∧ (capped 1 11).pwRd Pwr.P_TOTAL < 2 ^ 16) ∧
    ((capped 100 0 { ceils := [269] }).wellUnder = true ∧ (capped 100 0 { ceils := [269] }).pw.ceils = [269] ∧
      (capped 100 0).pw.ceils = [] ∧ (capped 100 0).overLimit = false ∧ (capped 1 11).wellUnder = false) := by decide +kernel

theorem test_hyp_powerAndThermal_thermal : ([⟨187, 1201, false, false⟩].map TempReading.point).Nodup ∧
    (put [(Pg.thermal, Thr.EXT_EN, 1, 7)]).thRd Thr.EXT_EN 7 = 1 ∧
    (mget {} ({ State.reset with points := [(179, { hist := List.replicate 100 0 })] } : State).points 179).hist[99]? = some 0 ∧
    State.reset.ownState 179 ≠ 2 ∧ (State.reset.modelOf 23).isSome = true ∧
    (put [(Pg.thermal, Thr.PSTATE, 2, 71), (Pg.thermal, Thr.PSTATE, 2, 119)]).modelOf 23 = none ∧
    State.reset.zstate 32 ≤ 3 ∧ State.reset.limitT Thr.T_SHED ≤ State.reset.limitT Thr.T_LIMIT := by decide +kernel

/-! ### Resilience -/

/-- Slices of a kind on entry 353. -/
def slices (cs : List Slice) : State := put [(Pg.walker, Wk.ST_EN, 0x7FF, 0)] { locked 0 with wk := { slices := cs } }

theorem test_hyp_selfTest : bitOf ((put [(Pg.walker, Wk.ST_EN, 0, 0)]).wkRd Wk.ST_EN) 10 = 0 ∧
    8 ≤ (slices (List.replicate 8 ⟨0, 44, none, none⟩)).wk.slices.length ∧
    (bitOf ((slices []).wkRd Wk.ST_EN) 10 = 1 ∧ (slices []).wk.slices.length < 8 ∧ (slices []).sliceFree 10 353 = true ∧
      (slices []).sliceFree 3 164 = true) ∧
    (domainOf 30 = alwaysOn ∧ domainOf 353 ≠ alwaysOn ∧ 3 ≤ (slices []).taken (domainOf 353) ∧ ((slices []).setSlots (domainOf 353) 0).taken (domainOf 353) < 3 ∧ 3 ≤ (slices []).ceil (domainOf 353)) ∧
    (let s := ({ slices [] with pw := { ceils := [domainOf 353] } } : State).setSlots (domainOf 353) 0; s.taken (domainOf 353) < 3 ∧ s.ceil (domainOf 353) < 3) ∧
    ((slices []).mayClaim (Reg.counter 0) Ag.hlp 0x40 = true ∧
      ∀ g : Fin 16, ((List.range 16).foldl (fun s g => held (Reg.counter g) 3 s) (slices [])).mayClaim (Reg.counter g) Ag.hlp 0x40 = false) ∧
    ((slices [⟨10, 353, none, some 15⟩]).wk.slices.find? fun c => c.kind = 10 && c.entry = 353) = some ⟨10, 353, none, some 15⟩ := by
  decide +kernel

/-- Wear monitor 0 covers region 0, which holds ENDURANCE, and reads w. -/
def worn (w : Wear) (s : State := locked 0) : State :=
  put [(0, Wbe.PROFILE, Prof.endurance, En.region 0)] { s with wk := { wears := [(0, w)] } }

/-- Four detours of a via group of region 0 are used. -/
def vias (n : Nat) : State :=
  { locked 0 with repairs := (List.range n).map fun k => ⟨En.region 0, 2, false, false, k, 3 * 2 ^ 15⟩ }

theorem test_hyp_wearViasAndWalker : ((worn {}).quietPoint = true ∧ ((worn {}).wear 0).ignored = false ∧ (worn {}).wearEndurance 0 = true ∧
      ((worn { ignored := true }).wear 0).ignored = true ∧ State.reset.quietPoint = false) ∧
    ((vias 4).repairs.filter fun q => q.entry = En.region 0 && q.kind = 2 && q.place % 2 ^ 18 = 3 * 2 ^ 15).length = 4 ∧
    ((vias 3).repairs.filter fun q => q.entry = En.region 0 && q.kind = 2 && q.place % 2 ^ 18 = 3 * 2 ^ 15).length < 4 ∧
    ((vias 4).columnsFree 0 ≠ 0 ∧ (vias 4).rgRd 0 Rgn.REMAP_PEND = 0 ∧ (vias 4).blk (En.region 0) ≠ St.retired ∧
      (put [(Pg.region 0, Rgn.MAP0, 1, 0), (Pg.region 0, Rgn.MAP1, 2, 0)] (vias 4)).columnsFree 0 = 0) ∧
    ((vias 4).repairs.all fun q => q.kind ≠ 3) = true := by decide +kernel

theorem test_hyp_walks : (let s := put [(Pg.walker, Wk.WALK_EN, 1, 0), (Pg.region 39, Rgn.LIVE_CTX, 1, 0)] (region 39 { live := true });
      s.laneWalks 39 = true ∧ s.isOn (En.region 39) = true ∧ s.wk.outvoted = [] ∧ (∀ w, w < 8 → mget 0 s.wk.tables (8 * 39 + w) = 0) ∧
      s.ctxValid 39 (s.liveCtx 39) = true ∧ (s.rg 39).live = true ∧ s.rgRd 39 Rgn.LIVE_UNSCRUBBED = 0 ∧
      (∀ x, x < 64 → ∀ m, m < 16 → (wordDecode (mget {} s.cfg (cfgKey 39 1 x m 319))).1 = .clean ∧
        mget 0 s.latch (latchKey 0 39 x m 319) < 2 ^ 64) ∧
      (s.rg 39).staging = none ∧ s.restageDue 39 = false ∧ (put [(Pg.region 39, Rgn.STG_VALID, 1, 0)] s).stgValid 39 = true ∧
      ((region 39 { live := true, staging := some ⟨1, 0, 0⟩ }).rg 39).staging ≠ none ∧
      (put [(Pg.walker, Wk.WALK_EN, 0, 0)] s).laneWalks 39 = false ∧
      (({ s with wk := { tables := [(8 * 39, 2 ^ 80 - 1), (8 * 39 + 1, 2 ^ 80 - 1)] } } : State).tablesOk 39).1 = false) := by
  decide +kernel

/-- A domain that a shed may close, a tree fed by a bucket-derived PLL and one that is not, a transmit group with and
without a fused park, and a region whose detours are all taken while another column's remap waits. -/
theorem test_hyp_sheddingAndRepairs : ((capped 1 11).dom 269).entry = 0 ∧ ((capped 1 11).dom 269).wake = 0 ∧
    2 ≤ ((capped 1 11).dom 269).level ∧ ((capped 1 11).gate (entryOfDomain 269)).waits = false ∧
    ((capped 1 11).gate (entryOfDomain 269)).again = false ∧
    (State.reset.bucketFed (entryOfDomain 0) = true ∧ State.reset.bucketFed (entryOfDomain 260) = false) ∧
    (State.reset.fusedPark 11 = none ∧
      ({ repairs := [⟨En.tx 11, 7, true, false, 0, 3 + 2 ^ 4⟩] } : State).fusedPark 11 = some 3) ∧
    ((vias 4).repairs.all fun q => q.entry = En.region 0 && q.kind = 2 && q.place % 2 ^ 18 = 3 * 2 ^ 15) = true ∧
    ((vias 4).repairs.map fun q => q.spare) = [0, 1, 2, 3] ∧ ((vias 2).repairs.map fun q => q.spare) = [0, 1] ∧
    (let s := put [(Pg.region 0, Rgn.REMAP_PEND, 1, 0), (Pg.region 0, Rgn.PEND_COL, 63, 0)] (vias 4);
      s.columnsFree 0 ≠ 0 ∧ s.rgRd 0 Rgn.REMAP_PEND = 1 ∧ s.rgRd 0 Rgn.PEND_COL ≠ s.physColumn 0 0 ∧ s.wk.remaps = []) ∧
    (let s := put [(Pg.region 0, Rgn.MAP0, 1, 0), (Pg.region 0, Rgn.MAP1, 2, 0)] (vias 4);
      (put [(0, Wbe.STATE, St.retired, En.region 0)] s).blk (En.region 0) = St.retired ∧ s.blk (En.region 0) ≠ St.retired) ∧
    (let c : Conflict := ⟨0, 0, 0, false, false⟩;
      ((State.reset.setRg 0 { conflicts := [c] }).restageDue 20 = true) ∧ State.reset.restageDue 20 = false) := by decide +kernel

/-! ### Security -/

/-- The words of an envelope of opcode op with the given arguments, counter 1, nonce 0 and slot 1, up to its MAC. -/
def sealing (op : Nat) (args : List Nat) : List Nat := [op + (8 + args.length) * 2 ^ 16, 1 + args.length * 2 ^ 8, 0, 0, 1] ++ args

/-- That envelope with a MAC. -/
def sealed (op : Nat) (args mac : List Nat) : MailCmd := { words := sealing op args ++ mac, tag := 0, resp := none }

/-- SCP is ready, and slot 1 holds key 0, which may sign envelopes; an envelope runs on channel c of processor p. -/
def trusts (p c : Nat) (m : MailCmd) (s : State := State.reset) : State :=
  cmdOn p c m (put [(Pg.mailbox 2, Scp.SCP_STATE, 1, 0), (Pg.mailbox 2, Scp.VALID, 1, 1), (Pg.mailbox 2, Scp.USE, 1, 1)] s)

theorem test_hyp_sealed (s : State) (c op : Nat) (args : List Nat) (w x y z : Nat) (ho : op < 2 ^ 16) (hn : args.length < 200)
    (hc : c ≠ 2) (h1 : s.scRd Scp.SCP_STATE = 1) (h2 : s.scRd Scp.VALID 1 = 1) (h3 : s.scRd Scp.USE 1 = 1)
    (h4 : s.scRd Scp.NONCE_LO = 0) (h5 : s.scRd Scp.NONCE_HI = 0) (h6 : s.scRd Scp.CTR_LAST = 0)
    (h : (hmacSha256 (s.keyBytes 1) ((sealing op args).flatMap leBytes)).take 16 = [w, x, y, z].flatMap leBytes) :
    ∀ b ∈ s.failedChecks c args.length (sealed op args [w, x, y, z]).words, b = false := by
  have hs : (sealing op args).length = 5 + args.length := by simp [sealing]; omega
  have ht : (sealed op args [w, x, y, z]).words.take (5 + args.length) = sealing op args := by
    rw [← hs]; exact List.take_left
  have hd : (sealed op args [w, x, y, z]).words.drop (5 + args.length) = [w, x, y, z] := by
    rw [← hs]; exact List.drop_left
  have g (k : Nat) (hk : k < 5) : (sealed op args [w, x, y, z]).words.getD k 0 =
      [op + (8 + args.length) * 2 ^ 16, 1 + args.length * 2 ^ 8, 0, 0, 1].getD k 0 := by
    match k, hk with
    | 0, _ | 1, _ | 2, _ | 3, _ | 4, _ => rfl
  have hl : lengthOf (sealed op args [w, x, y, z]).words = 8 + args.length := by
    unfold lengthOf; rw [g 0 (by decide)]
    simp only [bitsOf, Nat.shiftRight_eq_div_pow, List.getD_cons_zero]; omega
  have hg : bitsOf (1 + args.length * 2 ^ 8) 8 8 = args.length := by
    simp only [bitsOf, Nat.shiftRight_eq_div_pow]; omega
  have hk : bitsOf (1 + args.length * 2 ^ 8) 0 3 = 1 := by
    simp only [bitsOf, Nat.shiftRight_eq_div_pow]; omega
  have e1 : [op + (8 + args.length) * 2 ^ 16, 1 + args.length * 2 ^ 8, 0, 0, 1].getD 1 0 = 1 + args.length * 2 ^ 8 := rfl
  intro b hb
  unfold State.failedChecks at hb
  rw [g 1 (by decide), g 2 (by decide), g 3 (by decide), g 4 (by decide), hl, ht, hd, e1, hg, hk] at hb
  dsimp only at hb
  rw [h1, h2, h3, h4, h5, h6, h] at hb
  simpa [hc, bitOf] using hb

/-- Some MAC makes the envelope of any opcode and arguments pass every check. -/
theorem test_hyp_verified (p c op : Nat) (args : List Nat) (hc : c ≠ 2) (ho : op < 2 ^ 16) (hn : args.length < 200) :
    ∃ mac, (trusts p c (sealed op args mac)).verified p c op args.length (sealed op args mac) := by
  obtain ⟨w, x, y, z, h⟩ := mac_words (List.replicate 32 0) ((sealing op args).flatMap leBytes)
  let m := sealed op args [w, x, y, z]
  have f : ∀ (r : Row) (i v : Nat), (trusts 0 0 (mail 0 0)).scRd r i = v → (trusts p c m).scRd r i = v := fun _ _ _ e => e
  have hp : opcodeOf m.words = op := by
    show bitsOf (op + (8 + args.length) * 2 ^ 16) 0 16 = op
    simp only [bitsOf, Nat.shiftRight_eq_div_pow]; omega
  have h1 : (trusts p c m).scRd Scp.SCP_STATE 0 = 1 := f _ _ _ (by decide +kernel)
  have h2 : (trusts p c m).scRd Scp.VALID 1 = 1 := f _ _ _ (by decide +kernel)
  have h3 : (trusts p c m).scRd Scp.USE 1 = 1 := f _ _ _ (by decide +kernel)
  have h4 : (trusts p c m).scRd Scp.NONCE_LO 0 = 0 := f _ _ _ (by decide +kernel)
  have h5 : (trusts p c m).scRd Scp.NONCE_HI 0 = 0 := f _ _ _ (by decide +kernel)
  have h6 : (trusts p c m).scRd Scp.CTR_LAST 0 = 0 := f _ _ _ (by decide +kernel)
  have k0 : (trusts 0 0 (mail 0 0)).keyBytes 1 = List.replicate 32 0 := by decide +kernel
  have k1 : (trusts p c m).keyBytes 1 = (trusts 0 0 (mail 0 0)).keyBytes 1 := rfl
  rw [← k0, ← k1] at h
  exact ⟨[w, x, y, z], by simp [trusts, cmdOn, State.chan, State.setChan], rfl, hp,
    test_hyp_sealed _ c op args w x y z ho hn hc h1 h2 h3 h4 h5 h6 h⟩

theorem test_hyp_protectedOperations (op : Nat) (args : List Nat) (h : (op, args) ∈ [(0x8001, [0, 0]), (0x8020, [1805]),
      (0x8021, [0x554B41, 0x6432]), (0x8022, [179]), (0x8023, [650]), (0x8030, []), (0x8031, [353]),
      (0x8040, 20 :: List.replicate 10 0), (0x8041, [4]), (0x8042, 0 :: 32768 :: List.replicate 8 0), (0x8043, [15]),
      (0x8044, [])]) (p : Nat) :
    ∃ mac, (trusts p 1 (sealed op args mac)).verified p 1 op args.length (sealed op args mac) := by
  have hb := List.all_eq_true.1 (show ([(0x8001, [0, 0]), (0x8020, [1805]),
      (0x8021, [0x554B41, 0x6432]), (0x8022, [179]), (0x8023, [650]), (0x8030, []), (0x8031, [353]),
      (0x8040, 20 :: List.replicate 10 0), (0x8041, [4]), (0x8042, 0 :: 32768 :: List.replicate 8 0), (0x8043, [15]),
      (0x8044, [])] : List (Nat × List Nat)).all (fun x => decide (x.1 < 2 ^ 16) && decide (x.2.length < 200)) = true
    from by decide) _ h
  simp only [Bool.and_eq_true, decide_eq_true_eq] at hb
  exact test_hyp_verified p 1 op args (by decide) hb.1 hb.2

theorem test_hyp_protectedOperations_branches : State.reset.streamOpen = false ∧ (stream 1).streamOpen = true ∧
    argOf (mail 0x8020 8).words 0 = 0 ∧ bitsOf (269 + 3 * 2 ^ 9) 0 9 = 269 ∧
    State.reset.thRd Thr.FUSE_WIN = 0 ∧ (put [(Pg.thermal, Thr.FUSE_WIN, 1, 0)]).thRd Thr.FUSE_WIN = 1 ∧
    (put [(0, Wbe.STATE, St.retired, 353)]).blk 353 = St.retired ∧ State.reset.blk 353 ≠ St.retired ∧
    bitOf (State.reset.scRd Scp.POLICY) 2 = 0 ∧ (put [(Pg.mailbox 2, Scp.POLICY, 15, 0)]).scRd Scp.POLICY = 15 ∧
    State.reset.scRd Scp.DEBUG_OPEN = 0 ∧ (put [(Pg.mailbox 2, Scp.DEBUG_OPEN, 1, 0)]).scRd Scp.DEBUG_OPEN = 1 ∧
    State.reset.wkRd Wk.EFUSE_FREE < 2 ^ 13 ∧ (retireSet 353).length ≤ State.reset.wkRd Wk.EFUSE_FREE := by
  decide +kernel

/-- DEBUG_LOCK runs with its own length and with another. -/
theorem test_hyp_debugLock : (cmdOn 2 2 (mail 0x45 0)).serving 2 2 0x0045 0 (mail 0x45 0) ∧
    (cmdOn 2 2 (mail 0x45 1)).serving 2 2 0x0045 1 (mail 0x45 1) := by decide +kernel

/-- eFuse has room for what SPARE_COMMIT burns after reset. -/
theorem test_hyp_spareCommit :
    (State.reset.repairs.filter fun r => !r.committed).length + State.reset.uncommitted.length ≤ State.reset.wkRd Wk.EFUSE_FREE := by
  have h1 : (State.reset.repairs.filter fun r => !r.committed).length = 0 := by decide +kernel
  have h2 : State.reset.uncommitted.length ≤ 354 := by
    unfold State.uncommitted
    exact Nat.le_trans (List.length_filter_le _ _) (by simp)
  have h3 : 354 ≤ State.reset.wkRd Wk.EFUSE_FREE := by decide +kernel
  omega

theorem test_hyp_envelopeChecks : isEnvelope Instr.debugUnlock 2 0x8044 0 ∧
    ((State.reset.chan (chanKey 2 2)).run.all fun m => m.resp.isSome || opcodeOf m.words ≠ 0x8044) = true ∧
    (let m := mail 0x8044 8;
      ((trusts 2 2 m).failedChecks 2 0 m.words)[2]? = some true ∧
      (∀ j, j < 2 → ((trusts 2 2 m).failedChecks 2 0 m.words)[j]? = some false) ∧
      ((trusts 2 2 m).chan (chanKey 2 2)).run = some m) ∧
    (put [(Pg.mailbox 2, Scp.FAIL_RUN, 15, 0)]).scRd Scp.FAIL_RUN = 15 ∧
    ((put [(Pg.mailbox 2, Scp.SCP_STATE, 3, 0)]).scRd Scp.SCP_STATE = 3 ∧ State.reset.scRd Scp.SCP_STATE ≠ 3) := by
  refine ⟨by simp [isEnvelope], by decide +kernel, by decide +kernel, by decide +kernel, by decide +kernel⟩

/-! ### The host bus and the pins -/

/-- The device is in service with link speed v, and its host ring 3 has events es waiting. -/
def hosted (v : Nat) (es : List (List (Nat × Bool))) : State :=
  put [(Pg.pcie, Pcie.LINK_SPEED, v, 0), (Pg.pcie, Pcie.R_EN, 1, 3), (Pg.loader, Ld.PHASE, 7, 0)]
    { net7 with usr := { (net7).usr with rings := [(3, es)] } }

theorem test_hyp_hostBusAndPins_access : (net7).freeTag = some 0 ∧
    ({ net7 with usr := { reqs := (List.range 256).map fun t => ⟨t, 0, true⟩ } } : State).freeTag = none ∧
    ((0xFFFFFC0 + 64 - 1) / 64 - 0xFFFFFC0 / 64 + 1 ≤ 16) ∧ (wordsOf8 (List.replicate 8 0) 8).length + 7 ≤ 128 ∧
    ((asked false).usr.reqs.find? fun q => q.tag = 5) = some ⟨5, 39, false⟩ ∧
    (put [(Pg.pcie, Pcie.USER_TMO, 1, 0)] (asked false)).peRd Pcie.USER_TMO ≠ 0 ∧
    ((net7).usr.reqs.all fun q => q.tag ≠ 255) = true := by decide +kernel

theorem test_hyp_hostBusAndPins_rings : (hosted 0 []).hostRing 3 = [] ∧
    (hosted 0 [[(1, false)]]).hostRing 3 = [[(1, false)]] ∧ (hosted 0 [[(1, false)]]).linkTakes = false ∧
    ((hosted 5 [[(1, false)]]).linkTakes = true ∧ (hosted 5 [[(1, false)]]).peRd Pcie.R_EN 3 ≠ 0 ∧
      (hosted 5 [[(1, false)]]).hostRoom 3 8 = true ∧ (hosted 5 [[(1, false)]]).hostRoom 3 4096 = false) := by decide +kernel

theorem test_hyp_hostBusAndPins_quiesce : State.reset.ldRd Ld.PHASE = 0 ∧ ((hosted 5 []).ldRd Ld.PHASE ≠ 0 ∧
      (hosted 5 []).flag Pg.pcie Pcie.QUIESCED = false) ∧
    (let s := put [(Pg.pcie, Pcie.QUIESCED, 1, 0)] (hosted 5 []);
      s.flag Pg.pcie Pcie.QUIESCED = true ∧ s.flag Pg.pcie Pcie.QUIESCE_DONE = false ∧ s.usr.rose = false ∧
      (put [(Pg.pcie, Pcie.QUIESCE_DONE, 1, 0)] s).flag Pg.pcie Pcie.QUIESCE_DONE = true ∧ 4 ≤ s.ldRd Ld.PHASE) := by
  decide +kernel

/-- A quiesce with and without a stream, a save that is over after QUIESCE_N rose, and an enabled pin of another agent. -/
theorem test_hyp_hostBusAndPins_quiet : ((hosted 5 []).streamOpen = false ∧ (hosted 5 []).nothingBehind ∧
      (hosted 5 []).noSyncBehind ∧ (hosted 5 []).logQ = []) ∧
    (let s := put [(Pg.pcie, Pcie.QUIESCED, 1, 0)] { hosted 5 [] with usr := { (hosted 5 []).usr with rose := true } };
      s.flag Pg.pcie Pcie.QUIESCE_DONE = false ∧ s.usr.rose = true ∧ s.logQ.length < 31) ∧
    ({ State.reset with usr := { held := true } } : State).usr.held = true ∧ State.reset.usr.held = false ∧
    (let s := put [(Pg.gio 7, Gio.EN, 1, 23)] (held (Reg.pin 191) 5);
      s.rd (Pg.gio 7) Gio.EN 23 = 1 ∧ s.claimed (Reg.pin 191) = true ∧ s.claimFeature (Reg.pin 191) ≠ 2) ∧
    ((0x800 : Word).getLsb 11 = true ∧ (0x800 : Word).toNat % 4 ≠ 1 ∧ (0x801 : Word).toNat % 4 = 1 ∧
      (0x801 : Word).getLsb 11 = true ∧ (0 : Word).getLsb 11 = false) ∧
    ((0 : BitVec 28).toNat % 8 = 0 ∧ (1 : BitVec 28).toNat % 8 ≠ 0) := by decide +kernel

theorem test_hyp_hostBusAndPins_pins : State.reset.grants 0 (Pg.gio 7) ∧ State.reset.rd (Pg.gio 7) Gio.VIO_SEL < 4 ∧
    State.reset.mayClaim (Reg.pin 191) (pinClaimant 7 1 0).1 (pinClaimant 7 1 0).2 = true ∧
    (held (Reg.pin 191) 5).mayClaim (Reg.pin 191) (pinClaimant 7 2 0).1 (pinClaimant 7 2 0).2 = false ∧
    State.reset.peRd Pcie.LINK_SPEED = 0 ∧ (hosted 5 []).peRd Pcie.LINK_SPEED ≠ 0 ∧
    (State.reset.usr.perst = false ∧ (plls).pllReady 2 = true ∧ (plls).isOn En.pcie = true) := by decide +kernel

/-! ### The queue and invariants -/

theorem test_hyp_invariants : State.reset.keysOk = true ∧ State.reset.canonical = true ∧ State.reset.pending = [] := by
  decide +kernel

/-! ### Worked examples of the spec, computed by hand there -/

/-- §02.2 and §02.3: A2:4 is instance 14, and its page is 0x010E; TE5 is entry 169 at page 0x0205. -/
theorem test_page_numbers : Pg.region 14 = 0x10E ∧ pageOf (En.region 14) = 0x10E ∧ En.engine 5 = 169 ∧
    pageOf 169 = 0x205 ∧ pageOf 170 = 0x206 := by decide

/-- The samples of §09.5's example. -/
def bfpSamples : List Int :=
  [0, 5, -63, 64, 127, -128, 200, 1000, -1000, 4095, 12345, -20000, 32767, -32768, 63, -1]

/-- §09.5: exponents in nibble order, then 112 bits of codes. -/
theorem test_bfp6_example : (bfp6 true bfpSamples).length = 3 ∧ (bfp6 true bfpSamples)[0]? = some 0x00A9987442211000 ∧
    ((bfp6 true bfpSamples).getD 2 0) / 2 ^ 48 = 0 := by decide +kernel

/-- §09.5, samples 9, 12 and 13: the carry into the exponent and the clamp. -/
theorem test_bfp6_corners : bfpCode true true 4095 = (7, 0) ∧ bfpCode true true 32767 = (9, 63) ∧
    bfpCode true false 32768 = (10, 0) ∧ bfpCode true true 12345 = (8, 32) := by decide

/-- The hits of the example of chapter 10, and its set as the majority leaves it. -/
def exampleHits : List (Nat × Nat) :=
  [(0, 0x1232), (1, 0x2451), (2, 0x3673), (3, 0x4890), (4, 0x5AB4), (5, 0x6CD2), (6, 0x7EF1), (7, 0x8102)]
def exampleSet : RoadSet :=
  { set := { t64 := 200, bucket := 200, hits := exampleHits, seq := 0x2A, fill := false, thr := false, hovf := 0 }
    nroads := 2, roads := [⟨1000, 0xEF⟩, ⟨70000, 0xFF⟩], bank := 0, fixed := false, stream := false }

/-- Chapter 10: pattern 1,000 matches all layers but layer 4, pattern 1,001 all but layer 0. -/
theorem test_pattern_example : rowMatch exampleHits 0x333333338100_7EF0_6CD0_5AB0_4890_3670_2450_1230 = 0xEF ∧
    rowMatch exampleHits 0x8102_7EF1_6CD2_5AB4_4890_3673_2451_1F00 = 0xFE ∧
    rowMatch exampleHits 0x8102_7EF1_6CD2_5AB4_4890_3673_2451_1232 = 0xFF := by decide +kernel

/-- Chapter 10: the two road words and the trailer that reach B2:2. -/
theorem test_road_example : roadWord 5 exampleSet ⟨1000, 0xEF⟩ = 0x02A00C81FBD403E8 ∧
    roadWord 5 exampleSet ⟨70000, 0xFF⟩ = 0x02A00C823FD51170 ∧ trailerOf exampleSet 2 false = 0x82A00000200200C8 ∧
    (bufferWord { exampleSet with struck := [(1, 7)] } 1 0 false).poison = true ∧
    bufferWord { exampleSet with struck := [(1, 3)] } 1 5 false = ⟨5, false, false⟩ := by decide +kernel

/-- §16.6: word 0 of the envelope names POWER_LIMIT with LENGTH 9. -/
theorem test_envelope_example : opcodeOf [0x07098023] = 0x8023 ∧ lengthOf [0x07098023] = 9 ∧
    argOf [0x07098023, 0x104, 0x5C1E0A93, 0x7B24D60F, 0x2A, 0x190] 0 = 400 := by decide

/-- §03.6, the example: the lead of entry 10 over the wrap of TURN, and the target half the circle away. -/
theorem test_turn_wrap : turnAtOrAfter 1 0xFFFFFFFE = true ∧ turnAtOrAfter 1 0x80000001 = false ∧
    turnAtOrAfter 1 0x80000002 = true := by decide

/-- §08.9: the fields of MAC at 0x00B and of STA at 0x00D. -/
theorem test_engine_words : Iw.op 0x4224180000000000 = 0x10 ∧ Iw.ua 0x4224180000000000 = true ∧
    Iw.ub 0x4224080000000000 = true ∧ Iw.ua 0x4224080000000000 = false ∧ Iw.sh 0x5403008C00000000 = 17 ∧
    Iw.rnd 0x5403008C00000000 = true ∧ Iw.addr 0x0C00000B0000000E = 0x00B ∧ Iw.imm 0x0C00000B0000000E = 14 := by decide

/-! ### A wrapped key: RFC 3394 under key 0 of the key of 32 zero bytes, wrapped outside Lean

AES's byte functions are looked up in tables here, one number each with byte a at bit 8·a, so that the kernel can unwrap. -/

/-- Byte a of a table. -/
def tableAt (t a : Nat) : Nat := t >>> (8 * a) % 256

def invTable : Nat := 0xb224d92866a12e084ec3fa420b954cee3d23c2a632947b54cbe9dec444438e3487ff2f9b8239e37cfbd7f3819ea340bf38a53630d56a0952 +
  0x645b3b80558e4f70ad3bc8c00abd890849d8da75746155edab9edfd5048706c92b6655dcc5ca4d41698688664f6f87225d18b6d49a25b76 * 2 ^ 448 +
  0x89c5291d711af1476edf751ce837f9e28535ade72274ac9673e6b4f0cecff297eadc674f4111913a6b8a130103bdafc1020f3fca8f1e2cd0 * 2 ^ 896 +
  0xef9cc9939f7ae52d0d4ab519a97f51605fec8027591012b131c7078833a8dd1ff45acd78fec0db9a2079d2c64b3e56fc1bbe18aa0e62b76f * 2 ^ 1344 +
  0x7d0c2155631469e126d677ba7e042b17619953833cbbebc8b0f52aae4d3be0a0 * 2 ^ 1792

def gmul14Table : Nat := 0x111f0d032927353b818f9d93b9b7a5abf1ffede3c9c7d5dbbab4a6a8828c9e90cac4d6d8f2fceee05a544648626c7e702a243638121c0e00 +
  0x2c22303e141a08065c52404e646a787617190b052f21333d67697b755f51434df7f9ebe5cfc1d3dd87899b95bfb1a3ad616f7d735957454b * 2 ^ 448 +
  0xb0beaca28886949afbf5e7e9c3cddfd18b859799b3bdafa11b150709232d3f316b657779535d4f41ccc2d0def4fae8e6bcb2a0ae848a9896 * 2 ^ 896 +
  0x56584a446e60727c26283a341e10020cb6b8aaa48e80929cc6c8dad4fef0e2ec202e3c321816040a505e4c426866747ac0cedcd2f8f6e4ea * 2 ^ 1344 +
  0x8d83919fb5bba9a7fdf3e1efc5cbd9d76d63717f555b49471d13010f252b3937 * 2 ^ 1792

def gmul11Table : Nat := 0xfaf1ece7d6ddc0cb1219040f3e3528234a415c57666d707bd9d2cfc4f5fee3e8818a979cada6bbb069627f74454e5358313a272c1d160b00 +
  0xe4eff2f9c8c3ded5bcb7aaa1909b868d2f2439320308151e777c616a5b504d469f948982b3b8a5aec7ccd1daebe0fdf6a2a9b4bf8e859893 * 2 ^ 448 +
  0xbdb6aba0919a878c2e2538330209141f767d606b5a514c479e958883b2b9a4afc6cdd0dbeae1fcf7545f424978736e650c071a11202b363d * 2 ^ 896 +
  0xd8d3cec5f4ffe2e9808b969daca7bab168637e75444f5259303b262d1c170a01555e434879726f640d061b10212a373ce5eef3f8c9c2dfd4 * 2 ^ 1344 +
  0xa3a8b5be8f849992fbf0ede6d7dcc1ca1318050e3f3429224b405d56676c717a * 2 ^ 1792

def gmul13Table : Nat := 0x4845525f7c71666bf0fdeae7c4c9ded39895828faca1b6bb9b96818cafa2b5b8f3fee9e4c7caddd04b46515c7f726568232e3934171a0d00 +
  0x9d90878aa9a4b3bef5f8efe2c1ccdbd6f6fbece1c2cfd8d59e938489aaa7b0bd262b3c31121f08054e4354597a77606d202d3a3714190e03 * 2 ^ 448 +
  0x424f5855767b6c61414c5b5675786f622924333e1d10070a919c8b86a5a8bfb2f9f4e3eecdc0d7da4d40575a7974636e25283f32111c0b06 * 2 ^ 896 +
  0x2c21363b1815020f44495e53707d6a67fcf1e6ebc8c5d2df94998e83a0adbab7faf7e0edcec3d4d9929f8885a6abbcb12a27303d1e130409 * 2 ^ 1344 +
  0x979a8d80a3aeb9b4fff2e5e8cbc6d1dc474a5d50737e69642f2235381b16010c * 2 ^ 1792

def gmul9Table : Nat := 0x949d868fb0b9a2ab4c455e5768617a73040d161f2029323be7eef5fcc3cad1d8afa6bdb48b829990777e656c535a41483f362d241b120900 +
  0x3a3328211e170c05727b6069565f444d9198838ab5bca7aed9d0cbc2fdf4efe60108131a252c373e49405b526d647f76dcd5cec7f8f1eae3 * 2 ^ 448 +
  0xe8e1faf3ccc5ded70b0219102f263d34434a5158676e757c9b928980bfb6ada4d3dac1c8f7fee5ecaaa3b8b18e879c95e2ebf0f9c6cfd4dd * 2 ^ 896 +
  0x7d746f6659504b42353c272e1118030aede4fff6c9c0dbd2a5acb7be8188939a3039222b141d060f78716a635c554e47a0a9b2bb848d969f * 2 ^ 1344 +
  0x464f545d626b70790e071c152a233831d6dfc4cdf2fbe0e99e978c85bab3a8a1 * 2 ^ 1792


def invByTable (a : Nat) : Nat := if a < 256 then tableAt invTable a else invSbox a
def gmulByTable (a b : Nat) : Nat :=
  if a < 256 then
    if b = 14 then tableAt gmul14Table a else if b = 11 then tableAt gmul11Table a
    else if b = 13 then tableAt gmul13Table a else if b = 9 then tableAt gmul9Table a else gmul a b
  else gmul a b

theorem test_invByTable : invSbox = invByTable := by
  have h : ∀ a : Fin 256, invSbox a = tableAt invTable a := by decide +kernel
  funext a
  unfold invByTable
  split
  · exact h ⟨a, ‹_›⟩
  · rfl

theorem test_gmulByTable : gmul = gmulByTable := by
  have h : ∀ a : Fin 256, gmul a 14 = tableAt gmul14Table a ∧ gmul a 11 = tableAt gmul11Table a ∧
      gmul a 13 = tableAt gmul13Table a ∧ gmul a 9 = tableAt gmul9Table a := by decide +kernel
  funext a b
  unfold gmulByTable
  split
  · obtain ⟨h1, h2, h3, h4⟩ := h ⟨a, ‹_›⟩
    (repeat' split) <;> simp_all
  · rfl

/-- The round keys of 32 zero bytes. -/
def zeroKeys : List (List Nat) :=
  [List.replicate 16 0, List.replicate 16 0,
   [98, 99, 99, 99, 98, 99, 99, 99, 98, 99, 99, 99, 98, 99, 99, 99],
   [170, 251, 251, 251, 170, 251, 251, 251, 170, 251, 251, 251, 170, 251, 251, 251],
   [111, 108, 108, 207, 13, 15, 15, 172, 111, 108, 108, 207, 13, 15, 15, 172],
   [125, 141, 141, 106, 215, 118, 118, 145, 125, 141, 141, 106, 215, 118, 118, 145],
   [83, 84, 237, 193, 94, 91, 226, 109, 49, 55, 142, 162, 60, 56, 129, 14],
   [150, 138, 129, 193, 65, 252, 247, 80, 60, 113, 122, 58, 235, 7, 12, 171],
   [158, 170, 143, 40, 192, 241, 109, 69, 241, 198, 227, 231, 205, 254, 98, 233],
   [43, 49, 43, 223, 106, 205, 220, 143, 86, 188, 166, 181, 189, 187, 170, 30],
   [100, 6, 253, 82, 164, 247, 144, 23, 85, 49, 115, 240, 152, 207, 17, 25],
   [109, 187, 169, 11, 7, 118, 117, 132, 81, 202, 211, 49, 236, 113, 121, 47],
   [231, 176, 232, 156, 67, 71, 120, 139, 22, 118, 11, 123, 142, 185, 26, 98],
   [116, 237, 11, 161, 115, 155, 126, 37, 34, 81, 173, 20, 206, 32, 212, 59],
   [16, 248, 10, 23, 83, 191, 114, 156, 69, 201, 121, 231, 203, 112, 99, 133]]

theorem test_zeroKeys : aesRoundKeys (List.replicate 32 0) = zeroKeys := by decide +kernel

/-- Key 0 wrapped under 32 zero bytes. -/
def wrappedZero : List Nat :=
  [151, 49, 116, 148, 52, 56, 7, 230, 144, 253, 30, 67, 20, 19, 150, 61, 192, 227, 222, 180,
   144, 127, 184, 159, 163, 108, 230, 81, 38, 208, 234, 19, 1, 56, 31, 179, 162, 148, 30, 47]

theorem test_keyUnwrap : keyUnwrap (List.replicate 32 0) wrappedZero = some (List.replicate 32 0) := by
  unfold keyUnwrap
  rw [test_zeroKeys]
  simp only [aesDecryptWith, mixWith, test_invByTable, test_gmulByTable]
  decide +kernel

/-- KEY_LOAD's arguments: slot 4, USE 1, and the wrapped key. -/
def keyArgs : List Nat :=
  [20, 0x94743197, 0xe6073834, 0x431efd90, 0x3d961314, 0xb4dee3c0,
    0x9fb87f90, 0x51e66ca3, 0x13ead026, 0xb31f3801, 0x2f1e94a2]

theorem test_hyp_keyLoad_accepted : ∃ mac, let m := sealed 0x8040 keyArgs mac
    let s := trusts 2 1 m
    s.verified 2 1 0x8040 11 m ∧ bitsOf (argOf m.words 0) 0 3 = 4 ∧ bitOf (argOf m.words 0) 8 = 0 ∧ s.streamOpen = false ∧
    keyUnwrap (s.keyBytes (bitsOf (m.words.getD 1 0) 0 3)) (((m.words.drop 6).take 10).flatMap leBytes) =
      some (List.replicate 32 0) := by
  obtain ⟨mac, h⟩ := test_hyp_verified 2 1 0x8040 keyArgs (by decide) (by decide) (by decide)
  have hw : (((sealed 0x8040 keyArgs mac).words.drop 6).take 10).flatMap leBytes = wrappedZero :=
    Eq.trans (show _ = (keyArgs.drop 1).flatMap leBytes from rfl) (by decide +kernel)
  have hk : (trusts 2 1 (sealed 0x8040 keyArgs mac)).keyBytes 1 = List.replicate 32 0 :=
    Eq.trans (show _ = (trusts 0 0 (mail 0 0)).keyBytes 1 from rfl) (by decide +kernel)
  have hs : bitsOf ((sealed 0x8040 keyArgs mac).words.getD 1 0) 0 3 = 1 :=
    Eq.trans (show _ = bitsOf (1 + 11 * 2 ^ 8) 0 3 from rfl) (by decide)
  refine ⟨mac, h, ?_, ?_, Eq.trans (show _ = (trusts 0 0 (mail 0 0)).streamOpen from rfl) (by decide +kernel), ?_⟩
  · exact Eq.trans (show _ = bitsOf 20 0 3 from rfl) (by decide)
  · exact Eq.trans (show _ = bitOf 20 8 from rfl) (by decide)
  · rw [hw, hs, hk]
    exact test_keyUnwrap

/-! ### The fabric of chapter 05, and a route of chapter 12 -/

/-- The fabric logic of regions i and j runs. -/
def both (i j : Nat) : State := (runs (En.region j) (live i)).setRg j { live := true }

/-- A1:1 and B1:1 run. The LA cluster at column 70, row 400 drives causeway 17; the LB cluster there reads it on IN8 by
code 13, and its own CW_DRIVE slot holds d. Cell 1 of the LA cluster holds 1 where q is 2. -/
def causeway (q d : Nat) : State :=
  let s := slot 6 6 15 80 (2 ^ 17) (slot 26 6 12 80 (13 * 2 ^ 32) (slot 26 6 15 80 d (both 6 26)))
  { s with ff := mset 0 s.ff (ffKey 6 6 80) q }

/-- The example of chapter 05: the LB cluster reads Q of the LA cell, an upset of its latch makes both ends drive, and in
the cycle after a switch the causeway reads 0 (R142). -/
theorem test_causeway_example : siteOf 6 6 80 = ⟨0, 70, 400⟩ ∧ (siteOf 6 6 80).facing = siteOf 26 6 80 ∧
    (causeway 2 0).sig (.inp (siteOf 26 6 80) 8) = true ∧ (causeway 1 0).sig (.inp (siteOf 26 6 80) 8) = false ∧
    (causeway 2 0).bothDrive 6 6 80 17 = false ∧ (causeway 2 (2 ^ 17)).bothDrive 6 6 80 17 = true ∧
    ((causeway 2 0).setRg 26 { live := true, settling := true }).sig (.cw (siteOf 6 6 80) 17) = true ∧
    ((causeway 2 0).setRg 6 { live := true, settling := true }).sig (.cw (siteOf 6 6 80) 17) = false := by decide +kernel

/-- Cell 0 of the cluster at (1, 1) of region 0 gives 1; cells 1 and 2 add O of cell 0 to itself (f = XOR, g = AND), cell 2
with a carry in. -/
def adder : State :=
  let f := 0x8866 + 2 ^ 16
  slot 0 1 0 1 (0xFFFF + f * 2 ^ 32) (slot 0 1 1 1 (f + 2 ^ 17)
    (slot 0 1 8 1 (0x8888 + 0x88CC * 2 ^ 16 + 0x88DD * 2 ^ 32) (live 0)))

/-- R130 and R131: 1 + 1 gives 0 and carries 1, and the next cell gives 1. -/
theorem test_adder : let p := siteOf 0 1 1
    adder.sig (.o p 0) = true ∧ adder.sig (.o p 1) = false ∧ adder.sig (.cout p 1) = true ∧ adder.sig (.o p 2) = true := by
  decide +kernel

/-- Q of cell 9 of the cluster at (63, 5) of region 0 drives wire start 7, which ends 16 columns east, in region 1. -/
def wired (l : Nat) : State :=
  let s := slot 0 63 4 5 (2 ^ 50) (slot 0 63 14 5 (2 ^ 28) (both 0 1))
  { s with ff := mset 0 s.ff (ffKey 0 63 5) (2 ^ 9) }.setDom 0 { level := l }

/-- R133 to R135: IN7 of the cluster there reads the wire by code 0, and 0 once region 0 is clamped. -/
theorem test_wire_across_regions : (siteOf 1 15 5).wireFrom 7 = some (siteOf 0 63 5) ∧
    (wired 3).sig (.inp (siteOf 1 15 5) 7) = true ∧ (wired 1).sig (.inp (siteOf 1 15 5) 7) = false := by decide +kernel

/-- R132: a cell loads INIT under its user reset, D where its clock enable is 1, and keeps its value where that is 0: cell 0
of cluster (9, 9) gives 1; RSEL 1 names the net of cluster (0, 11), CESEL 1 that of cluster (0, 1), each at OUT of cell 15. -/
def clocked (ce rst : Nat) : State :=
  slot 0 9 0 9 (0xFFFF + 2 ^ 21 + 2 ^ 24) (slot 0 9 8 9 0x8888 (slot 0 0 7 1 (ce * 2 ^ 32) (slot 0 0 11 1 (0x8888 * 2 ^ 48)
    (slot 0 0 7 11 (rst * 2 ^ 32) (slot 0 0 11 11 (0x8888 * 2 ^ 48) (live 0))))))

theorem test_flipflop : (clocked 0xFFFF 0).ffNext 0 (siteOf 0 9 9) 0 = true ∧ (clocked 0 0).ffNext 0 (siteOf 0 9 9) 0 = false ∧
    (clocked 0xFFFF 0xFFFF).ffNext 0 (siteOf 0 9 9) 0 = false := by decide +kernel

/-- An event from A1:1's packer at router (3, 1) to DDR4 channel 3, EP 4 at router (0, 6). -/
def eventPath : Worm := State.reset.worm ⟨Nw.dat, 0, headerOf 0 ⟨0, 6, 4⟩ ⟨3, 1, 2⟩ 0, []⟩ ⟨3, 1, 2⟩

/-- The example of chapter 12: eight links, west and then north, and the inputs that the slot entries name. -/
theorem test_route_example : eventPath.links = 8 ∧
    ((List.range 9).map eventPath.router) = [(3, 1), (2, 1), (1, 1), (0, 1), (0, 2), (0, 3), (0, 4), (0, 5), (0, 6)] ∧
    ((List.range 9).map eventPath.output) = [3, 3, 3, 0, 0, 0, 0, 0, 4] ∧
    ((List.range 9).map eventPath.input) = [0x15, 2, 2, 2, 3, 3, 3, 3, 3] ∧ namedInput 0x15 = 0x15 := by decide +kernel

end Sys2Proof.Tests
end

section
/-! Accesses of the page space (chapters 00 and 02): what an access meets once it is answered, what a read of a register
takes with it, and what a register write does. -/

namespace Sys2Proof.Machine

/-! ### Where a page lies -/

/-- Below the bulk windows of BAR0 an address names a register or the parameter area. -/
theorem windowOf_eq_none {a : Nat} (h : a < 0x02000000) : windowOf a = none := by
  unfold windowOf
  repeat rw [if_neg (by omega)]

/-- Every page that belongs to a Waybook entry lies below page 0x328 (Table 02.3). -/
theorem page_lt_of_entryOfPage {pg : Nat} (h : (entryOfPage pg).isSome = true) : pg < 0x328 := by
  have hends : ∀ g ∈ groups, g.page0 + g.count * g.pages ≤ 0x328 := by decide
  rw [entryOfPage, Option.isSome_map, List.find?_isSome] at h
  obtain ⟨g, hg, hin⟩ := h
  have := hends g hg
  simp only [Bool.and_eq_true, decide_eq_true_eq] at hin
  omega

theorem entryOfPage_of_hasHeader {pg : Nat} (h : hasHeader pg = true) : (entryOfPage pg).isSome = true := by
  simp only [hasHeader, Bool.and_eq_true] at h
  exact h.2

theorem hasHeader_of_entryOfPage_none {pg : Nat} (h : entryOfPage pg = none) : hasHeader pg = false := by
  simp [hasHeader, h]

/-- The parameter area lies on pages of the Waybook, which carry no header. -/
theorem paramPage_bounds {pg : Nat} (h : paramPage pg = true) : 3 ≤ pg ∧ pg < 0x10 := by
  simpa [paramPage] using h

theorem hasHeader_of_paramPage {pg : Nat} (h : paramPage pg = true) : hasHeader pg = false := by
  have := paramPage_bounds h
  simp only [hasHeader, Bool.and_eq_false_iff, decide_eq_false_iff_not]
  omega

theorem entryOfPage_of_paramPage {pg : Nat} (h : paramPage pg = true) : entryOfPage pg = some 0 := by
  have hall : ∀ p < 0x10, entryOfPage p = some 0 := by decide
  exact hall pg (paramPage_bounds h).2

/-- IRQ_EN stands alone at its offset on every page with the common header (Table 02.7). -/
theorem fieldsAt_irqEn {pg : Nat} (h : hasHeader pg = true) : fieldsAt pg 0x014 = [(Hdr.IRQ_EN, 0)] := by
  have hall : ∀ p < 0x328, hasHeader p = true → fieldsAt p 0x014 = [(Hdr.IRQ_EN, 0)] := by decide +kernel
  exact hall pg (page_lt_of_entryOfPage (entryOfPage_of_hasHeader h)) h

/-- Where the low words of 64-bit quantities stand (R7): at aligned offsets whose next word lies on the same page, on pages
of registers that are no bank of pins. -/
theorem lowWord_place {pg off : Nat} (h : lowWord pg off = true) :
    off % 4 = 0 ∧ off + 4 < 4096 ∧ (entryOfPage pg).isSome = true ∧ paramPage pg = false ∧
      (entryOfPage pg).elim false (fun e => typeOf e = 0x19) = false := by
  have hplace : off % 4 = 0 ∧ off + 4 < 4096 := by
    unfold lowWord at h
    split at h <;> simp at h <;> omega
  cases he : entryOfPage pg with
  | none => simp [lowWord, he] at h
  | some e =>
    refine ⟨hplace.1, hplace.2, rfl, ?_, ?_⟩
    · refine Bool.eq_false_iff.2 fun hp => ?_
      have h0 := entryOfPage_of_paramPage hp
      have ht : typeOf 0 = 1 := by decide
      simp [lowWord, h0, ht] at h
    · refine Bool.eq_false_iff.2 fun hgio => ?_
      have ht : typeOf e = 0x19 := of_decide_eq_true hgio
      simp [lowWord, he, ht] at h

/-! ### What an access meets -/

/-- A register access of a block that answers OK is served. -/
theorem State.access_of_ok {s : State} {ag : Agent} {pg : Nat} (hr : s.reaches ag = true) (ho : s.response ag pg = .ok)
    (f : State → State) (shown : Nat) : s.access ag pg f shown = f s.served := by
  simp [State.access, State.served, hr, ho]

/-- The page shell always answers (R38). -/
theorem State.shell_of_reaches {s : State} {ag : Agent} (hr : s.reaches ag = true) (f : State → State) :
    s.shell ag f = f s.served := by
  simp [State.shell, State.served, hr]

/-- No entry's block refuses an access to a reserved page (R9). -/
theorem State.response_of_reserved (s : State) (ag : Nat) {pg : Nat} (h : entryOfPage pg = none) :
    s.response ag pg = .ok := by
  simp [State.response, h]

/-! ### Reads -/

/-- How an access tells that it is not a naturally aligned 32-bit one. -/
theorem misshapen_iff {size a : Nat} : (decide (size = 4) && decide (a % 4 = 0)) = false ↔ size ≠ 4 ∨ a % 4 ≠ 0 := by
  rw [Bool.and_eq_false_iff, decide_eq_false_iff_not, decide_eq_false_iff_not]

/-- A read that is not a naturally aligned 32-bit access is answered and does nothing else (R6). -/
theorem State.pageRead_misshapen {s : State} {ag : Agent} {a size : Nat} (hr : s.reaches ag = true)
    (hw : ∀ w, windowOf a = some w → s.response ag w.page = .ok) (h : size ≠ 4 ∨ a % 4 ≠ 0) :
    s.pageRead ag a size = s.served := by
  have hwhole := misshapen_iff.2 h
  cases hwin : windowOf a with
  | none => simp [State.pageRead, hr, hwin, hwhole, State.shell_of_reaches hr]
  | some w => simp [State.pageRead, hr, hwin, hwhole, State.access_of_ok hr (hw w hwin)]

/-- An aligned read of a register whose page answers OK is served, by the page shell or by the block. -/
theorem State.pageRead_register {s : State} {ag : Agent} {a : Nat} (hg : s.grants ag (a / 4096)) (h4 : a % 4 = 0)
    (hw : windowOf a = none) (hp : paramPage (a / 4096) = false) :
    s.pageRead ag a 4 = s.served.readServed (a / 4096) (a % 4096) := by
  obtain ⟨hr, ho⟩ := hg
  by_cases hh : hasHeader (a / 4096) = true ∧ a % 4096 < 0x040
  · simp [State.pageRead, hr, hw, h4, hh, State.shell_of_reaches hr]
  · simp [State.pageRead, hr, hw, h4, hh, hp, State.access_of_ok hr ho]

/-- An aligned read of the parameter area goes to the parameter store (R47). -/
theorem State.pageRead_param {s : State} {ag : Agent} {a : Nat} (hg : s.grants ag (a / 4096)) (h4 : a % 4 = 0)
    (hp : paramPage (a / 4096) = true) :
    s.pageRead ag a 4 = s.served.paramAnswer ag (a / 4096) (a % 4096) := by
  obtain ⟨hr, ho⟩ := hg
  have hb := paramPage_bounds hp
  have hw : windowOf a = none := windowOf_eq_none (by omega)
  simp [State.pageRead, hr, hw, h4, hasHeader_of_paramPage hp, hp, State.access_of_ok hr ho]

/-! ### What a read of a register takes with it -/

/-- The RC fields of a register (R10). -/
def rcFields (pg off : Nat) : List (Row × Nat) := (fieldsAt pg off).filter fun f => f.1.acc = .rc

/-- The register map with 0 written into each of the fields fs of page p. -/
def clearFields (p : Nat) (fs : List (Row × Nat)) (m : List (Nat × Nat)) : List (Nat × Nat) :=
  fs.foldl (fun m f => mset 0 m (fieldKey p f.1 f.2) ((0 % 2 ^ f.1.width) ^^^ f.1.reset)) m

theorem State.each_clear (s : State) (p : Nat) (fs : List (Row × Nat)) :
    s.each fs (fun f s => s.wr p f.1 0 f.2) = { s with regs := clearFields p fs s.regs } := by
  induction fs generalizing s with
  | nil => rfl
  | cons f fs ih => exact ih (s.wr p f.1 0 f.2)

/-- Clearing RC fields changes the register map and nothing else. -/
theorem State.clearRc_eq (s : State) (pg off : Nat) :
    s.clearRc pg off = { s with regs := clearFields (basePage pg) (rcFields pg off) s.regs } :=
  s.each_clear (basePage pg) (rcFields pg off)

/-- Fields that a cold start leaves 0 are listed nowhere once they are cleared; the others stay as they are. -/
theorem mget_clearFields (p : Nat) (fs : List (Row × Nat)) (m : List (Nat × Nat)) (k : Nat)
    (h0 : ∀ f ∈ fs, f.1.reset = 0) :
    mget 0 (clearFields p fs m) k = if k ∈ fs.map (fun f => fieldKey p f.1 f.2) then 0 else mget 0 m k := by
  induction fs generalizing m with
  | nil => rfl
  | cons f fs ih =>
    have hrest : ∀ g ∈ fs, g.1.reset = 0 := fun g hg => h0 g (List.mem_cons_of_mem f hg)
    have hf : f.1.reset = 0 := h0 f List.mem_cons_self
    refine (ih _ hrest).trans ?_
    by_cases hk : k = fieldKey p f.1 f.2
    · simp [hk, hf]
    · rw [mget_mset_ne 0 m _ hk]
      simp only [List.map_cons, List.mem_cons, hk, false_or]

/-- What stands at a place of a page is a row of the header's table or of the block's. -/
theorem row_of_mem_fieldsAt {pg off : Nat} {f : Row × Nat} (h : f ∈ fieldsAt pg off) :
    f.1 ∈ Hdr.table ∨ f.1 ∈ blockTable pg := by
  obtain ⟨r, hr, hat⟩ := List.mem_filterMap.1 h
  obtain ⟨i, -, rfl⟩ := Option.map_eq_some_iff.1 hat
  refine (List.mem_append.1 hr).imp_left fun hhdr => ?_
  split at hhdr
  · exact hhdr
  · exact absurd hhdr List.not_mem_nil

/-- Every RC field is 0 after a cold start. -/
theorem reset_of_mem_rcFields {pg off : Nat} {f : Row × Nat} (hf : f ∈ rcFields pg off) : f.1.reset = 0 := by
  have hhdr : ∀ r ∈ Hdr.table, r.acc = .rc → r.reset = 0 := by decide
  have hblk : ∀ r ∈ blockTable pg, r.acc = .rc → r.reset = 0 := by
    unfold blockTable
    (repeat' split) <;> decide
  obtain ⟨hmem, hrc⟩ := List.mem_filter.1 hf
  exact (row_of_mem_fieldsAt hmem).elim (hhdr f.1 · (by simpa using hrc)) (hblk f.1 · (by simpa using hrc))

/-- The free value that a read of page pg draws for the levels of undriven pins, which only a bank of pins shows, and the
number of values drawn then. -/
def State.pinLevels (s : State) (pg : Nat) : Nat × Nat :=
  if (entryOfPage pg).elim false (fun e => typeOf e = 0x19) then (Config.free s.fresh, s.fresh + 1) else (0, s.fresh)

theorem State.draw_pinLevels (s : State) (pg : Nat) :
    (if (entryOfPage pg).elim false (fun e => typeOf e = 0x19) then s.draw else (0, s)) =
      ((s.pinLevels pg).1, { s with fresh := (s.pinLevels pg).2 }) := by
  unfold State.pinLevels
  split <;> rfl

/-- The latched high words after a read of a register (R7): its own latch is spent, and a low word latches the next. -/
def State.shadowAfter (s : State) (pg off n : Nat) : List (Nat × Option Nat) :=
  let m := mset none s.shadow (pg * 4096 + off) none
  if lowWord pg off then mset none m (pg * 4096 + off + 4) (some (s.wordAt pg (off + 4) n)) else m

/-- What a read of a register word delivers: the value latched for it, else the live one. -/
def State.readValue (s : State) (pg off : Nat) : Nat :=
  (mget none s.shadow (pg * 4096 + off)).getD (s.wordAt pg off (s.pinLevels pg).1)

/-- All that a served read of a register does. -/
theorem State.readServed_eq (s : State) (pg off : Nat) :
    s.readServed pg off = { s with
      fresh := (s.pinLevels pg).2
      shadow := s.shadowAfter pg off (s.pinLevels pg).1
      regs := clearFields (basePage pg) (rcFields pg off) s.regs
      bus := { s.bus with data := s.readValue pg off } } := by
  unfold State.readServed State.shadowAfter
  rw [State.draw_pinLevels]
  cases lowWord pg off <;> simp only [State.clearRc_eq, State.doIf] <;> rfl

/-- A read answers with the register's value. -/
theorem State.bus_readServed (s : State) (pg off : Nat) :
    (s.readServed pg off).bus = { s.bus with data := s.readValue pg off } := by
  rw [State.readServed_eq]

theorem State.shadow_readServed (s : State) (pg off : Nat) :
    (s.readServed pg off).shadow = s.shadowAfter pg off (s.pinLevels pg).1 := by
  rw [State.readServed_eq]

/-- A read logs nothing. -/
theorem State.logQ_readServed (s : State) (pg off : Nat) : (s.readServed pg off).logQ = s.logQ := by
  rw [State.readServed_eq]

/-- Beside fields, answer and log, a read changes latched high words and drawn free values alone. -/
theorem State.body_readServed (s : State) (pg off : Nat) : (s.readServed pg off).body =
    ({ s with shadow := (s.readServed pg off).shadow, fresh := (s.readServed pg off).fresh } : State).body := by
  rw [State.readServed_eq]
  rfl

/-- A word latched for the register is what a read delivers (R7). -/
theorem State.readValue_of_latched {s : State} {pg off v : Nat} (h : mget none s.shadow (pg * 4096 + off) = some v) :
    s.readValue pg off = v := by
  simp [State.readValue, h]

/-- With nothing latched a read delivers the live word. -/
theorem State.readValue_of_not_latched {s : State} {pg off : Nat} (h : mget none s.shadow (pg * 4096 + off) = none) :
    s.readValue pg off = s.wordAt pg off (s.pinLevels pg).1 := by
  simp [State.readValue, h]

/-- No low word of a 64-bit quantity stands on the page of a bank of pins. -/
theorem State.pinLevels_of_lowWord (s : State) {pg off : Nat} (h : lowWord pg off = true) : (s.pinLevels pg).1 = 0 := by
  obtain ⟨-, -, -, -, hgio⟩ := lowWord_place h
  simp [State.pinLevels, hgio]

/-- A register word follows the machine, not the answer of the last access. -/
theorem State.wordAt_served (s : State) (pg off n : Nat) : s.served.wordAt pg off n = s.wordAt pg off n := rfl

/-- After a read, the register's own latch is spent. -/
theorem State.mget_shadowAfter_self (s : State) (pg off n : Nat) :
    mget none (s.shadowAfter pg off n) (pg * 4096 + off) = none := by
  unfold State.shadowAfter
  split
  · rw [mget_mset_ne _ _ _ (by omega), mget_mset_same]
  · exact mget_mset_same ..

/-- After a read of a low word, the high word is latched. -/
theorem State.mget_shadowAfter_high (s : State) {pg off : Nat} (n : Nat) (h : lowWord pg off = true) :
    mget none (s.shadowAfter pg off n) (pg * 4096 + (off + 4)) = some (s.wordAt pg (off + 4) n) := by
  simp [State.shadowAfter, h, Nat.add_assoc]

/-- A read leaves every RC field of the register 0 (R10). -/
theorem State.rd_readServed_rc (s : State) {pg off : Nat} {f : Row × Nat} (hf : f ∈ rcFields pg off) :
    (s.readServed pg off).rd (basePage pg) f.1 f.2 = 0 := by
  have hmem : fieldKey (basePage pg) f.1 f.2 ∈
      (rcFields pg off).map (fun f => fieldKey (basePage pg) f.1 f.2) := List.mem_map_of_mem hf
  rw [State.readServed_eq, State.rd]
  simp [mget_clearFields _ _ _ _ fun _ => reset_of_mem_rcFields, hmem, reset_of_mem_rcFields hf]

/-- A read leaves every field but the RC fields of the register as it is (R10). -/
theorem State.onlyFields_readServed (s : State) (pg off : Nat) :
    s.onlyFields (s.readServed pg off) ((rcFields pg off).map fun f => (basePage pg, f.1, f.2)) := by
  intro k hk
  rw [State.readServed_eq]
  refine (mget_clearFields _ _ _ k fun _ => reset_of_mem_rcFields).trans (if_neg ?_)
  simpa [List.map_map, Function.comp_def] using hk

/-! ### Words of the parameter area (R47) -/

/-- An address of the parameter area outside every block reads as 0. -/
theorem State.paramAnswer_outside (s : State) (ag : Nat) {a : Nat} (h : paramAt a = none) :
    s.paramAnswer ag (a / 4096) (a % 4096) = s := by
  rw [← Nat.div_add_mod' a 4096] at h
  simp only [State.paramAnswer, h]

/-- A clean word of a parameter block delivers its data, and the store keeps nothing of the read. -/
theorem State.paramAnswer_clean (s : State) (ag : Nat) {a e o d : Nat} (h : paramAt a = some (e, o))
    (hc : wordDecode (s.paramCode e (o / 8)) = (.clean, d)) :
    s.paramAnswer ag (a / 4096) (a % 4096) =
      { s with bus := { s.bus with data := bitsOf d (o % 8 * 8) 32, poison := false } } := by
  rw [← Nat.div_add_mod' a 4096] at h
  simp [State.paramAnswer, h, State.paramRead, hc, State.answer, State.doIf]

/-! ### Writes -/

/-- A register write that is not a naturally aligned 32-bit access, or that names a reserved page, is answered and does
nothing else (R6, R9). -/
theorem State.registerWrite_void {s : State} {ag : Agent} {a size : Nat} (v : Nat) (hr : s.reaches ag = true)
    (hw : windowOf a = none) (h : (size ≠ 4 ∨ a % 4 ≠ 0) ∨ entryOfPage (a / 4096) = none) :
    s.registerWrite ag a size v = s.served := by
  by_cases hs : size ≠ 4 ∨ a % 4 ≠ 0
  · have hwhole := misshapen_iff.2 hs
    simp [State.registerWrite, State.pageWrite, hr, hw, hwhole, State.shell_of_reaches hr]
  · have hres := h.resolve_left hs
    obtain ⟨rfl, hal⟩ : size = 4 ∧ a % 4 = 0 := by simpa [not_or] using hs
    have hno := s.response_of_reserved ag hres
    simp [State.registerWrite, State.pageWrite, State.blockWrite, hr, hw, hal, hres, hasHeader_of_entryOfPage_none hres,
      State.access_of_ok hr hno]

/-- An aligned write of a header register goes to the page shell (R38). -/
theorem State.registerWrite_header {s : State} {ag : Agent} {pg off : Nat} (v : Nat) (hr : s.reaches ag = true)
    (hh : hasHeader pg = true) (hoff : off < 0x040) (h4 : off % 4 = 0) :
    s.registerWrite ag (pg * 4096 + off) 4 v = s.served.headerWrite ag pg off v false := by
  have hlt := page_lt_of_entryOfPage (entryOfPage_of_hasHeader hh)
  have hw : windowOf (pg * 4096 + off) = none := windowOf_eq_none (by omega)
  have hpg : (pg * 4096 + off) / 4096 = pg := by omega
  have hof : (pg * 4096 + off) % 4096 = off := by omega
  have hal : (pg * 4096 + off) % 4 = 0 := by omega
  simp [State.registerWrite, State.pageWrite, hr, hw, hpg, hof, hal, hh, hoff, State.shell_of_reaches hr]

/-- A write of IRQ_EN is a write of its one field, which is RW (R10). -/
theorem State.headerWrite_irqEn (s : State) (ag : Nat) {pg : Nat} (v : Nat) (hh : hasHeader pg = true) :
    s.headerWrite ag pg 0x014 v false = s.wr pg Hdr.IRQ_EN (bitsOf v 0 32) := by
  simp [State.headerWrite, State.fieldsWrite, fieldsAt_irqEn hh, State.fieldWrite, Hdr.IRQ_EN, row]

/-- A write of one field changes that field alone. -/
theorem State.onlyFields_wr (s : State) (pg : Nat) (r : Row) (v i : Nat) :
    s.onlyFields (s.wr pg r v i) [(pg, r, i)] := by
  intro k hk
  exact mget_mset_ne _ _ _ (by simpa using hk)

/-- A 32-bit word fills the low 32 bits. -/
theorem bitsOf_word (v : Word) : bitsOf v.toNat 0 32 = v.toNat := by
  simp [bitsOf, Nat.mod_eq_of_lt v.isLt]

/-! ### The commands -/

/-- REGISTER_WRITE without effect: misshapen (R6), or to a reserved page (R9). -/
theorem does_registerWrite_void {ag : Agent} {a : Word} {n : Nat} (v : Word) {s : State} (hr : s.reaches ag = true)
    (hw : windowOf a.toNat = none) (h : (n ≠ 4 ∨ a.toNat % 4 ≠ 0) ∨ entryOfPage (a.toNat / 4096) = none) :
    Does (.registerWrite ag a n v) s fun t => t = s.served :=
  ⟨_, rfl, State.registerWrite_void v.toNat hr hw h⟩

/-- REGISTER_WRITE of IRQ_EN (R10, R518). -/
theorem does_registerWrite_irqEn {ag : Agent} {pg : BitVec 16} {a : Word} (v : Word) {s : State}
    (hr : s.reaches ag = true) (ha : a.toNat = pg.toNat * 4096 + 0x014) (hh : hasHeader pg.toNat = true) :
    Does (.registerWrite ag a 4 v) s fun t =>
      t.rd pg.toNat Hdr.IRQ_EN = v.toNat ∧ t.body = s.body ∧ t.logQ = s.logQ ∧
        s.onlyFields t [(pg.toNat, Hdr.IRQ_EN, 0)] := by
  refine ⟨s.served.wr pg.toNat Hdr.IRQ_EN v.toNat, ?_, ?_, rfl, rfl, fun k => s.served.onlyFields_wr _ _ _ _ k⟩
  · show Host.Outcome.next (s.registerWrite ag a.toNat 4 v.toNat) = _
    rw [ha, State.registerWrite_header _ hr hh (by decide) (by decide), State.headerWrite_irqEn _ _ _ hh, bitsOf_word]
  · rw [State.rd_wr_same]
    exact Nat.mod_eq_of_lt v.isLt

/-- What a read of a register at place (pg, off) does, once its page grants it. -/
theorem State.pageRead_place {s : State} {ag : Agent} {pg off a : Nat} (hg : s.grants ag pg) (ha : a = pg * 4096 + off)
    (hoff : off < 4096) (h4 : off % 4 = 0) (hw : windowOf a = none) (hp : paramPage pg = false) :
    s.pageRead ag a 4 = s.served.readServed pg off := by
  have hpg : a / 4096 = pg := by omega
  have hof : a % 4096 = off := by omega
  subst hpg hof
  exact State.pageRead_register hg (by omega) hw hp

/-- RC_READ of a register (R7, R10, R12). -/
theorem does_rcRead_register {ag : Agent} {pg : BitVec 16} {off : BitVec 12} {a : Word} {s : State}
    (hg : s.grants ag pg.toNat) (ha : a.toNat = pg.toNat * 4096 + off.toNat) (h4 : off.toNat % 4 = 0)
    (hw : windowOf a.toNat = none) (hp : paramPage pg.toNat = false) :
    Does (.rcRead ag ⟨a, 4⟩) s fun t =>
      (∃ n, t.bus = { resp := .ok, data := (mget none s.shadow a.toNat).getD (s.wordAt pg.toNat off.toNat n) }) ∧
      (∀ f ∈ fieldsAt pg.toNat off.toNat, f.1.acc = .rc → t.rd (basePage pg.toNat) f.1 f.2 = 0) ∧
      s.onlyFields t (((fieldsAt pg.toNat off.toNat).filter fun f => f.1.acc = .rc).map fun f =>
        (basePage pg.toNat, f.1, f.2)) ∧ mget none t.shadow a.toNat = none ∧
      t.logQ = s.logQ ∧ t.body = ({ s with shadow := t.shadow, fresh := t.fresh } : State).body := by
  refine ⟨s.served.readServed pg.toNat off.toNat, ?_, ⟨(s.pinLevels pg.toNat).1, ?_⟩, ?_, ?_, ?_,
    s.served.logQ_readServed .., s.served.body_readServed ..⟩
  · exact congrArg Host.Outcome.next (State.pageRead_place hg ha off.isLt h4 hw hp)
  · rw [State.bus_readServed, ha]
    rfl
  · intro f hf hrc
    exact s.served.rd_readServed_rc (List.mem_filter.2 ⟨hf, by simpa using hrc⟩)
  · exact s.served.onlyFields_readServed pg.toNat off.toNat
  · rw [State.shadow_readServed, ha]
    exact s.served.mget_shadowAfter_self ..

/-- LOW_WORD_READ of the low word of a 64-bit quantity, and then of its high word (R7). -/
theorem does_lowWordRead_pair {ag : Agent} {pg : BitVec 16} {off : BitVec 12} {a b : Word} {s : State}
    (hg : s.grants ag pg.toNat) (ha : a.toNat = pg.toNat * 4096 + off.toNat) (hb : b.toNat = a.toNat + 4)
    (hlow : lowWord pg.toNat off.toNat = true) (hnew : mget none s.shadow a.toNat = none) :
    Does (.lowWordRead ag ⟨a, 4⟩) s fun t => t.bus.data = s.wordAt pg.toNat off.toNat 0 ∧ t.logQ = s.logQ ∧
      ∀ u, u.shadow = t.shadow → u.grants ag pg.toNat →
        Does (.lowWordRead ag ⟨b, 4⟩) u fun w => w.bus.data = s.wordAt pg.toNat (off.toNat + 4) 0 := by
  obtain ⟨h4, hnext, hent, hp, -⟩ := lowWord_place hlow
  have hlt := page_lt_of_entryOfPage hent
  have hwa : windowOf a.toNat = none := windowOf_eq_none (by omega)
  have hwb : windowOf b.toNat = none := windowOf_eq_none (by omega)
  have hb' : b.toNat = pg.toNat * 4096 + (off.toNat + 4) := by omega
  rw [ha] at hnew
  refine ⟨s.served.readServed pg.toNat off.toNat, ?_, ?_, s.served.logQ_readServed .., ?_⟩
  · exact congrArg Host.Outcome.next (State.pageRead_place hg ha off.isLt h4 hwa hp)
  · rw [State.bus_readServed]
    calc s.served.readValue pg.toNat off.toNat
        = s.served.wordAt pg.toNat off.toNat (s.served.pinLevels pg.toNat).1 := State.readValue_of_not_latched hnew
      _ = s.wordAt pg.toNat off.toNat 0 := by rw [State.pinLevels_of_lowWord _ hlow, State.wordAt_served]
  · intro u hu hgu
    have hlatch : mget none u.shadow (pg.toNat * 4096 + (off.toNat + 4)) = some (s.wordAt pg.toNat (off.toNat + 4) 0) := by
      rw [hu, State.shadow_readServed, State.mget_shadowAfter_high _ _ hlow, State.pinLevels_of_lowWord _ hlow,
        State.wordAt_served]
    refine ⟨u.served.readServed pg.toNat (off.toNat + 4), ?_, ?_⟩
    · exact congrArg Host.Outcome.next (State.pageRead_place hgu hb' hnext (by omega) hwb hp)
    · simp only [State.bus_readServed]
      exact State.readValue_of_latched hlatch

/-- RC_READ in the parameter area outside every block (R47). -/
theorem does_rcRead_outside {ag : Agent} {a : Word} {s : State} (hg : s.grants ag (a.toNat / 4096))
    (h4 : a.toNat % 4 = 0) (hp : paramPage (a.toNat / 4096) = true) (h : paramAt a.toNat = none) :
    Does (.rcRead ag ⟨a, 4⟩) s fun t => t = s.served :=
  ⟨_, rfl, (State.pageRead_param hg h4 hp).trans (s.served.paramAnswer_outside ag h)⟩

/-- RC_READ of a clean word of a parameter block (R47). -/
theorem does_rcRead_clean {ag : Agent} {a : Word} {e o d : Nat} {s : State} (hg : s.grants ag (a.toNat / 4096))
    (h4 : a.toNat % 4 = 0) (hp : paramPage (a.toNat / 4096) = true) (h : paramAt a.toNat = some (e, o))
    (hc : wordDecode (s.paramCode e (o / 8)) = (.clean, d)) :
    Does (.rcRead ag ⟨a, 4⟩) s fun t => t = { s with bus := { resp := .ok, data := bitsOf d (o % 8 * 8) 32 } } :=
  ⟨_, rfl, (State.pageRead_param hg h4 hp).trans (s.served.paramAnswer_clean ag h hc)⟩

/-- Settles O6: each clause is what State.pageRead or State.registerWrite comes to on the accesses it speaks of. -/
theorem registerAccess : Obligations.registerAccess := by
  unfold Obligations.registerAccess
  refine ⟨?_, ?_, ?_, ?_, ?_, ?_⟩
  · intro ag a n v s hr hw h
    exact does_registerWrite_void v hr hw h
  · intro ag pg a v s hr ha hh
    exact does_registerWrite_irqEn v hr ha hh
  · rintro ag a n c s (rfl | rfl) hr hw h
    · exact ⟨_, rfl, State.pageRead_misshapen hr hw h⟩
    · exact ⟨_, rfl, State.pageRead_misshapen hr hw h⟩
  · intro ag pg off a s hg ha h4 hw hp
    exact does_rcRead_register hg ha h4 hw hp
  · intro ag pg off a b s hg ha hb _ hlow hnew
    exact does_lowWordRead_pair hg ha hb hlow hnew
  · intro ag a s hg h4 hp
    exact ⟨does_rcRead_outside hg h4 hp, fun e o d h hc => does_rcRead_clean hg h4 hp h hc⟩

end Sys2Proof.Machine
end
